-- ==== Sys2Proof/Word.lean ====
section
/-! DEFINITION. The words the manual counts in: bytes, 2-, 4- and 8-byte fields, and their bytes most significant first (R210). -/

namespace Sys2Proof

/-- One byte of a frame, a record, an image or a ring message. -/
abbrev Byte := BitVec 8

/-- A 2-byte field: counters, stations, days, minutes, fares. -/
abbrev Half := BitVec 16

/-- A 4-byte field: sequences, chain words, passage-clock times, keys, balances. -/
abbrev Word := BitVec 32

/-- A 64-bit card number (R14). -/
abbrev CardNumber := BitVec 64

end Sys2Proof
end

