-- ==== Sys2Proof/Syntax.lean ====
section
/-! DEFINITION. The commands of the GA220: one constructor of `Instr` for each row of spec/opcode_table.json, with the names the rows' operands use. -/

namespace Sys2Proof

/-- The two faces of the aisle (00_scope, Conventions). -/
inductive Face where
  | street
  | paid
  deriving DecidableEq, Repr

/-- The two directions: entry is street to paid, exit is paid to street. -/
inductive Direction where
  | entry
  | exit
  deriving DecidableEq, Repr

/-- The four beams, numbered from the street side. -/
inductive Beam where
  | beam1
  | beam2
  | beam3
  | beam4
  deriving DecidableEq, Repr

/-- The two limit inputs of the leaf (R157). -/
inductive Limit where
  | openLimit
  | closedLimit
  deriving DecidableEq, Repr

/-- A card's status (R12). -/
inductive CardStatus where
  | active
  | blocked
  deriving DecidableEq, Repr

/-- The seven evidence kinds, in check order (Table 14). -/
inductive EvidenceKind where
  | blocked
  | hotlisted
  | forged
  | replay
  | divergent
  | concurrent
  | impossible
  deriving DecidableEq, Repr

/-- The last two bytes of a HOLD as they are sent: the contested mark and the contesting gate, 0 when the mark is clear
(Table 30). A mark byte is not read as a mark before the HOLD has come home, and a HOLD is forwarded with both bytes as they came
unless this part contests it (R96, R211). -/
structure HoldContest where
  mark : Byte
  gate : Byte
  deriving DecidableEq, Repr

/-- What a RELEASE carries after its card number (R92, Table 30): COMMITTED the write, its direction byte as sent. After the
outcome of the two others stand 13 bytes that are not read; the message is forwarded with them as they came (R211). -/
inductive ReleaseBody where
  | committed (counter : Half) (chain : Word) (station day minute : Half) (direction : Byte)
  | dropped (unread : BitVec 104)
  | uncertain (unread : BitVec 104)
  deriving DecidableEq, Repr

/-- One command: an operation of the host link, a card reply, a ring arrival, an edge of an input, the expiry of a
deadline, or a change of power. A host request carries the BODY bytes of its frame (Table 27); a card image carries
the 64 bytes of 11.4. -/
inductive Instr where
  -- host requests (Table 24)
  | identify (body : List Byte)
  | setClock (body : List Byte)
  | setAisle (body : List Byte)
  | loadStations (body : List Byte)
  | loadBands (body : List Byte)
  | loadFares (body : List Byte)
  | loadClasses (body : List Byte)
  | loadKey (body : List Byte)
  | setPolicy (body : List Byte)
  | configDone (body : List Byte)
  | setService (body : List Byte)
  | emergency (body : List Byte)
  | resume (body : List Byte)
  | releaseDays (body : List Byte)
  | hotlistAdd (body : List Byte)
  | hotlistRemove (body : List Byte)
  | hotlistRange (body : List Byte)
  | hotlistQuery (body : List Byte)
  | pushSighting (body : List Byte)
  | setWatchUnit (body : List Byte)
  | setWatchCommon (body : List Byte)
  | watchStatus (body : List Byte)
  | clearWatch (body : List Byte)
  | attention (body : List Byte)
  | setAttentionMask (body : List Byte)
  | readFault (body : List Byte)
  | clearFault (body : List Byte)
  | readJournal (body : List Byte)
  | freeJournal (body : List Byte)
  | readCounters (body : List Byte)
  | aisleStatus (body : List Byte)
  | tearList (body : List Byte)
  | reset (body : List Byte)
  -- other events of the link unit
  | unknownRequest (kind : Byte)
  | checkMismatch (kind : Byte)
  | framingError
  | frameGapTimeout
  | frameOverrun
  | replySent
  -- power and the hardware reset input
  | powerOn (storeCheckMatches : Bool)
  | hardwareResetAssert
  | powerLoss
  -- the reader faces
  | settlingTimeExpiry (face : Face)
  | pollDue (face : Face)
  | wakeTimeout (face : Face)
  | presenceAnswer (face : Face)
  | collisionReport (face : Face)
  | garbledReply (face : Face)
  | silenceNotice (face : Face)
  | commandTimeout (face : Face)
  -- card replies
  | nameAnswer (face : Face) (number : CardNumber) (cls generation : Byte) (status : CardStatus)
  | cardImage (face : Face) (image : List Byte)
  | proofAnswer (face : Face) (proof : Word)
  | ready (face : Face)
  | stale (face : Face)
  | settled (face : Face) (counter : Half)
  -- the gate ring: the fields of a message as its bytes give them, a mark byte not yet read as a mark (R211)
  | hold (origin hop : Byte) (number : CardNumber) (counterRead : Half) (contest : HoldContest)
  | release (origin hop : Byte) (number : CardNumber) (body : ReleaseBody)
  | alert (origin hop : Byte) (number : CardNumber) (kind : EvidenceKind) (block : Byte)
  | census (origin hop : Byte)
  | badRingMessage
  | ringOutSent
  | ringTimeout (face : Face)
  | censusDue
  | peerHoldExpiry (number : CardNumber)
  | displacedHoldExpiry (number : CardNumber)
  | tearWindowExpiry (number : CardNumber)
  -- the aisle
  | beamInputChange (beam : Beam) (high : Bool)
  | beamDebounceExpiry (beam : Beam)
  | beamStuck (beam : Beam)
  | limitInputChange (limit : Limit) (asserted : Bool)
  | limitDebounceExpiry (limit : Limit)
  | travelTimeout
  | closeDelayExpiry
  | grantExpiry (direction : Direction) (sequence : Word)
  | passageAlarmEnd
  | watchAlarmEnd
  | shortToneEnd (face : Face)
  | emergencyInputChange (asserted : Bool)
  | emergencyDebounceExpiry
  | minuteTick
  | backupSupplyFailure
  | frameStart
  deriving DecidableEq, Repr

end Sys2Proof
end

