-- ==== Sys2Proof/Machine/State.lean ====
section
/-! DEFINITION. The state of the GA220, block by block, as plain data, and its value after reset. -/

namespace Sys2Proof.Machine

/-! ### Outcomes -/

/-- Why a step may stop the machine with a fault. There is NO constructor: the manual names no event at which the part
stops without a stated effect (its own "faults" are records it keeps, R177). That is safe: no behaviour is cut short. -/
inductive Fault where
  deriving DecidableEq, Repr

/-- Why a step may have no meaning. -/
inductive Refusal where
  /-- Raised by `exec` alone, in the arm of a command that has no meaning yet. Safe: nothing is claimed of it. -/
  | notModelled (mnemonic : String)
  deriving DecidableEq, Repr

/-! ### Things there are one of for each face, direction or beam -/

/-- One value for each face. -/
structure PerFace (α : Type) where
  street : α
  paid : α
  deriving DecidableEq, Repr

def PerFace.get {α : Type} (p : PerFace α) : Face → α
  | .street => p.street
  | .paid => p.paid

def PerFace.set {α : Type} (p : PerFace α) (f : Face) (x : α) : PerFace α :=
  match f with
  | .street => { p with street := x }
  | .paid => { p with paid := x }

/-- One value for each direction. -/
structure PerDirection (α : Type) where
  entry : α
  exit : α
  deriving DecidableEq, Repr

def PerDirection.get {α : Type} (p : PerDirection α) : Direction → α
  | .entry => p.entry
  | .exit => p.exit

def PerDirection.set {α : Type} (p : PerDirection α) (d : Direction) (x : α) : PerDirection α :=
  match d with
  | .entry => { p with entry := x }
  | .exit => { p with exit := x }

/-- One value for each beam. -/
structure PerBeam (α : Type) where
  beam1 : α
  beam2 : α
  beam3 : α
  beam4 : α
  deriving DecidableEq, Repr

def PerBeam.get {α : Type} (p : PerBeam α) : Beam → α
  | .beam1 => p.beam1
  | .beam2 => p.beam2
  | .beam3 => p.beam3
  | .beam4 => p.beam4

def PerBeam.set {α : Type} (p : PerBeam α) (b : Beam) (x : α) : PerBeam α :=
  match b with
  | .beam1 => { p with beam1 := x }
  | .beam2 => { p with beam2 := x }
  | .beam3 => { p with beam3 := x }
  | .beam4 => { p with beam4 := x }

/-! ### Power and the link unit -/

/-- Whether the part runs, is held by the hardware reset input (R209) or has no main power. -/
inductive Power where
  | running
  | heldInReset
  | off
  deriving DecidableEq, Repr

/-- The collector of the link unit (R198). -/
inductive Collector where
  | hunting
  | collecting
  deriving DecidableEq, Repr

/-- A reply: its kind byte and its body (Table 23). -/
structure Reply where
  kind : Byte
  body : List Byte
  deriving DecidableEq, Repr

/-- The link unit (R197, R200, R208). -/
structure Link where
  collector : Collector
  /-- The receive buffer is busy (R200). -/
  busy : Bool
  /-- The reply buffer: the reply being sent on TXD. -/
  reply : Option Reply
  /-- Frames discarded while the buffer was busy, 0 to 255 (R200). -/
  overrun : Nat
  /-- A RESET request was taken and its reply has not been sent yet (R208). -/
  resetPending : Bool
  deriving DecidableEq, Repr

/-! ### The reader faces -/

/-- Table 3. -/
inductive FaceState where
  | off
  | settling
  | polling
  | serving
  | watching
  | disabled
  deriving DecidableEq, Repr

/-- A face's last outcome (R6). -/
inductive LastOutcome where
  | noOutcome
  | twoCards
  deriving DecidableEq, Repr

/-- What the part sends to a card (R10, R13). STAGE carries the 64 image bytes and the new counter. -/
inductive CardCommand where
  | wake
  | name
  | prove (challenge : Word)
  | fetch
  | stage (image : List Byte) (counter : Half)
  | settle
  deriving DecidableEq, Repr

/-- A poll in progress (R4): whether its second WAKE is out, when the WAKE went out, and whether the front end has
responded to any of its WAKEs (R8). -/
structure Poll where
  second : Bool
  sentAt : Word
  responded : Bool
  deriving DecidableEq, Repr

/-- A command exchange open in SERVING (R10), with its reply timeout's start and whether it was re-sent (R11). -/
structure Exchange where
  command : CardCommand
  sentAt : Word
  resent : Bool
  deriving DecidableEq, Repr

/-- A reader face (section 1). -/
structure FaceUnit where
  state : FaceState
  /-- Start of the 20 ms settling time (R2). -/
  settleStart : Option Word
  /-- Start of the poll interval that is running; `none` when the poll timer is stopped (R1, R4). -/
  pollStart : Option Word
  poll : Option Poll
  exchange : Option Exchange
  /-- Front-end miss count (R8). -/
  missCount : Nat
  /-- Consecutive unanswered polls in WATCHING (R7). -/
  unanswered : Nat
  /-- A field-off request is pending (R3). -/
  offPending : Bool
  lastOutcome : LastOutcome
  deriving DecidableEq, Repr

/-! ### Card images, journeys, fare results -/

/-- The entry record of a card image (R14). -/
structure EntryRecord where
  station : Half
  gate : Byte
  day : Half
  minute : Half
  transferMark : Bool
  deriving DecidableEq, Repr

/-- One completed journey of the trip history (R14). -/
structure Journey where
  station : Half
  day : Half
  minute : Half
  fare : Half
  deriving DecidableEq, Repr

/-- A pass on a card (R14). -/
structure Pass where
  zoneLow : Byte
  zoneHigh : Byte
  lastDay : Half
  deriving DecidableEq, Repr

/-- A card image in the fields of R14. The balance is two's complement. -/
structure CardImage where
  number : CardNumber
  cls : Byte
  generation : Byte
  status : CardStatus
  balance : Word
  counter : Half
  chain : Word
  spendDay : Half
  daySpend : Half
  entry : Option EntryRecord
  history : List Journey
  pass : Option Pass
  deriving DecidableEq, Repr

/-- What the card answered to NAME (R12). -/
structure NameAnswer where
  number : CardNumber
  cls : Byte
  generation : Byte
  status : CardStatus
  deriving DecidableEq, Repr

/-- The fare result of R79. -/
structure FareResult where
  fare : Half
  balanceAfter : Word
  /-- New day record (day, day spend), or unchanged. -/
  dayRecord : Option (Half × Half)
  /-- The new entry record of an entry; `none` removes it (an exit). -/
  entry : Option EntryRecord
  /-- History entry to add, for an exit only. -/
  journey : Option Journey
  /-- Entry station for the record. -/
  entryStation : Option Half
  deriving DecidableEq, Repr

/-! ### Transaction contexts -/

/-- Table 5, in its row order. -/
inductive CtxState where
  | idle
  | naming
  | admitted
  | reading
  | proving
  | holding
  | deciding
  | staging
  | settling
  | confirming
  | removalWait
  | refusedShown
  deriving DecidableEq, Repr

/-- A note left on a context by a ring arrival (R35). -/
inductive Note where
  | contest (gate : Byte)
  | alert (kind : EvidenceKind)
  | concurrent
  deriving DecidableEq, Repr

inductive Reservation where
  | noPlace
  | held
  | removed
  deriving DecidableEq, Repr

/-- A face's indication (R23). -/
inductive Indication where
  | go
  | stop
  | attend
  deriving DecidableEq, Repr

/-- A transaction context (R22). -/
structure Context where
  state : CtxState
  name : Option NameAnswer
  /-- The key copied at the key check (R18). -/
  key : Option Word
  /-- The challenge sent with PROVE (R19). -/
  challenge : Option Word
  /-- The fetched image, once it has passed R15. -/
  image : Option CardImage
  refusing : Option EvidenceKind
  /-- Flagged evidence, in the order found. -/
  flagged : List EvidenceKind
  contested : Bool
  notes : List Note
  ownHold : Bool
  /-- The context counts as holding a sightings entry (R30, R87); clear in the case of R84. -/
  holdsEntry : Bool
  holdSent : Bool
  /-- The ring timeout of its HOLD: start and duration in ms (R104). -/
  ringTimer : Option (Word × Nat)
  bypassed : Bool
  fare : Option FareResult
  /-- Watch result: the matched units, bit n for unit n, when its evaluation fired (R136). -/
  watchUnits : Option Byte
  /-- The image to be staged, with its new counter. -/
  staged : Option CardImage
  reservation : Reservation
  blockPath : Bool
  /-- Late finding (R125). -/
  late : Option EvidenceKind
  indication : Indication
  deriving DecidableEq, Repr

/-- Every context after reset, and each time it enters IDLE (R22). -/
def Context.idle : Context :=
  { state := .idle, name := none, key := none, challenge := none, image := none, refusing := none, flagged := []
    contested := false, notes := [], ownHold := false, holdsEntry := false, holdSent := false, ringTimer := none
    bypassed := false, fare := none, watchUnits := none, staged := none, reservation := .noPlace, blockPath := false
    late := none, indication := .stop }

/-! ### The fare unit -/

/-- A station table entry (R57). -/
structure StationEntry where
  loaded : Bool
  zone : Byte
  group : Byte
  deriving DecidableEq, Repr

/-- The values LOAD FARES carries (Table 7). -/
structure Fares where
  /-- S, rounding step. -/
  step : Byte
  /-- T, transfer credit. -/
  transferCredit : Half
  /-- W, transfer window in minutes. -/
  transferWindow : Byte
  /-- Q, incomplete-journey fare. -/
  incompleteFare : Half
  /-- M, overstay limit in minutes. -/
  overstayLimit : Half
  /-- O, overstay charge. -/
  overstayCharge : Half
  /-- G, same-station grace in minutes. -/
  grace : Byte
  /-- F, overdraft floor. -/
  floor : Half
  /-- Mn, minimum entry balance. -/
  minEntry : Half
  base : Vector Half 16
  minTravel : Vector Byte 16
  /-- P, peak percent. -/
  peakPercent : Half
  /-- Four peak windows, each a start and an end minute. -/
  windows : Vector (Half × Half) 4
  deriving DecidableEq, Repr

/-- A class table entry (R62): discount percent and daily cap. -/
structure ClassEntry where
  discount : Byte
  cap : Half
  deriving DecidableEq, Repr

/-- The fare unit (section 3.1). -/
structure FareUnit where
  stations : Vector StationEntry 1024
  /-- The band matrix (R59): row is the entry zone, column the exit zone. -/
  bands : Vector (Vector Byte 32) 32
  fares : Fares
  faresLoaded : Bool
  classes : Vector ClassEntry 8
  /-- Released station-days (R63): pairs of a station and a service day. -/
  released : List (Half × Half)
  deriving DecidableEq, Repr

/-! ### The card check unit -/

inductive KeyState where
  | empty
  | active
  | retired
  deriving DecidableEq, Repr

/-- A key slot (R17). -/
structure KeySlot where
  state : KeyState
  key : Word
  deriving DecidableEq, Repr

inductive Policy where
  | refuse
  | refuseAndBlock
  | flag
  deriving DecidableEq, Repr

/-- One policy for each evidence kind (R112). -/
structure Policies where
  blocked : Policy
  hotlisted : Policy
  forged : Policy
  replay : Policy
  divergent : Policy
  concurrent : Policy
  impossible : Policy
  deriving DecidableEq, Repr

def Policies.get (p : Policies) : EvidenceKind → Policy
  | .blocked => p.blocked
  | .hotlisted => p.hotlisted
  | .forged => p.forged
  | .replay => p.replay
  | .divergent => p.divergent
  | .concurrent => p.concurrent
  | .impossible => p.impossible

def Policies.set (p : Policies) (k : EvidenceKind) (x : Policy) : Policies :=
  match k with
  | .blocked => { p with blocked := x }
  | .hotlisted => { p with hotlisted := x }
  | .forged => { p with forged := x }
  | .replay => { p with replay := x }
  | .divergent => { p with divergent := x }
  | .concurrent => { p with concurrent := x }
  | .impossible => { p with impossible := x }

/-- Where a sighting part came from (R81). -/
inductive SightingSource where
  | localWrite
  | peer
  | remote
  deriving DecidableEq, Repr

/-- The sighting part of a sightings entry (R81). A gate of `none` is unknown. -/
structure Sighting where
  counter : Half
  chain : Word
  station : Half
  gate : Option Byte
  day : Half
  minute : Half
  direction : Direction
  source : SightingSource
  deriving DecidableEq, Repr

/-- The hold of a sightings entry (R81). A peer hold keeps the time of the HOLD that set or renewed it; it expires 5 s later. -/
inductive Hold where
  | noHold
  | own (face : Face)
  | peer (origin : Byte) (since : Word)
  deriving DecidableEq, Repr

/-- A sightings entry (R81). Its recency position is its place in the table's list. -/
structure SightingEntry where
  number : CardNumber
  sighting : Option Sighting
  hold : Hold
  /-- Displaced hold: origin gate and the time it was set or renewed. -/
  displaced : Option (Byte × Word)
  contestNote : Option Byte
  deriving DecidableEq, Repr

/-- Who added a number to the hotlist list (R114). -/
inductive HotOrigin where
  | host
  | localAdd
  deriving DecidableEq, Repr

structure HotEntry where
  number : CardNumber
  origin : HotOrigin
  ownBlock : Bool
  deriving DecidableEq, Repr

/-- The hotlist list (R114): numbers in ascending order, and the LOCAL order from the earliest added to the latest. -/
structure Hotlist where
  entries : List HotEntry
  localOrder : List CardNumber
  deriving DecidableEq, Repr

/-- A hotlist range slot (R115). -/
structure HotRange where
  low : CardNumber
  high : CardNumber
  deriving DecidableEq, Repr

/-- The card check unit, less the sightings table and the hotlist list, which stand beside it. -/
structure CardCheck where
  keys : Vector KeySlot 16
  /-- The challenge value c (R19). -/
  challenge : Word
  policies : Policies
  ranges : Vector HotRange 8
  deriving DecidableEq, Repr

/-! ### The ring unit -/

inductive RingState where
  | up
  | isolated
  deriving DecidableEq, Repr

/-- A ring message (Table 12), with its origin gate, its hop count and the fields of Table 30 as they are sent. -/
inductive RingMessage where
  | hold (origin hop : Byte) (number : CardNumber) (counterRead : Half) (contest : HoldContest)
  | release (origin hop : Byte) (number : CardNumber) (body : ReleaseBody)
  | alert (origin hop : Byte) (number : CardNumber) (kind : EvidenceKind) (block : Byte)
  | census (origin hop : Byte)
  deriving DecidableEq, Repr

/-- The ring unit (R94, R103). -/
structure Ring where
  state : RingState
  size : Nat
  /-- The ring-out queue, head first. -/
  queue : List RingMessage
  /-- Start of the 2 s census interval; `none` when no census is due (R103, R105). -/
  censusStart : Option Word
  /-- The faces in the order in which their contexts last sent a HOLD, earliest first (R101). -/
  holdOrder : List Face
  deriving DecidableEq, Repr

/-! ### The watch unit -/

inductive WatchField where
  | cardNumber
  | cardClass
  | counter
  | balanceAfter
  | fare
  | entryStation
  deriving DecidableEq, Repr

inductive Sense where
  | inside
  | outside
  deriving DecidableEq, Repr

inductive KindFilter where
  | entry
  | exit
  | any
  deriving DecidableEq, Repr

inductive Combine where
  | and
  | or
  deriving DecidableEq, Repr

inductive WatchAction where
  | report
  | detain
  | alarm
  deriving DecidableEq, Repr

/-- One watch unit (R127). -/
structure WatchUnit where
  field : WatchField
  low : BitVec 64
  high : BitVec 64
  sense : Sense
  kind : KindFilter
  group : Byte
  deriving DecidableEq, Repr

/-- The record of the first fire (R139). A sequence of `none` is pending. -/
structure WatchStatus where
  number : CardNumber
  face : Face
  units : Byte
  sequence : Option Word
  more : Bool
  deriving DecidableEq, Repr

/-- The watch unit (R127). -/
structure Watch where
  units : Vector WatchUnit 8
  combine : Combine
  action : WatchAction
  countdown : Half
  status : Option WatchStatus
  deriving DecidableEq, Repr

/-! ### The aisle unit -/

inductive Polarity where
  | blockedHigh
  | blockedLow
  deriving DecidableEq, Repr

/-- A beam input (R140 to R142). -/
structure BeamInput where
  polarity : Polarity
  /-- The level of the input pin. -/
  high : Bool
  /-- The accepted state: blocked. -/
  blocked : Bool
  /-- When the pending change began. -/
  pendingSince : Option Word
  stuck : Bool
  /-- The time the last blocking event carried (R142). -/
  blockedSince : Word
  deriving DecidableEq, Repr

/-- A debounced input: a limit (R157) or the emergency input (R170). -/
structure LineInput where
  /-- The level of the input pin. -/
  level : Bool
  /-- The accepted state: asserted. -/
  accepted : Bool
  pendingSince : Option Word
  deriving DecidableEq, Repr

inductive RunDirection where
  | entry
  | exit
  | unknown
  deriving DecidableEq, Repr

/-- An occlusion run in progress (R143). -/
structure Run where
  direction : RunDirection
  side : Face
  crossings : Nat
  /-- Beam 2 has become clear since the previous crossing, or since the run began. -/
  cleared2 : Bool
  cleared3 : Bool
  lastConsumed : Option Word
  /-- The run raised a passage alarm (R149). -/
  alarmed : Bool
  deriving DecidableEq, Repr

/-- The state of a queue entry (R150). A GRANTED entry keeps its grant time and the lifetime it was given, in ms. -/
inductive PlaceState where
  | reserved
  | granted (sequence : Word) (grantedAt : Word) (lifetime : Nat) (deferred : Bool)
  deriving DecidableEq, Repr

/-- An authorization queue entry (R150). Its direction is its face's and its queue's. -/
structure QueueEntry where
  face : Face
  number : CardNumber
  state : PlaceState
  deriving DecidableEq, Repr

inductive AisleMode where
  | entryOnly
  | exitOnly
  | bidirectional
  deriving DecidableEq, Repr

/-- The direction lock (R156). -/
inductive Lock where
  | unlocked
  | entry
  | exit
  deriving DecidableEq, Repr

/-- Table 17, in its row order. -/
inductive LeafState where
  | closed
  | opening
  | opened
  | closing
  | free
  | jammed
  deriving DecidableEq, Repr

/-- The passage alarm (R148, R149): silent, sounding while the run that raised it goes on, or ending 3 s after a time. -/
inductive PassageAlarm where
  | silent
  | runInProgress
  | since (runEnd : Word)
  deriving DecidableEq, Repr

inductive ShortTone where
  | accept
  | refuse
  deriving DecidableEq, Repr

/-- The seven passage counters of a direction (R166). -/
structure PassageCounters where
  granted : Word
  used : Word
  expired : Word
  withdrawn : Word
  intrusion : Word
  tailgate : Word
  contraflow : Word
  deriving DecidableEq, Repr

/-- The aisle unit (section 7). -/
structure Aisle where
  beams : PerBeam BeamInput
  openLimit : LineInput
  closedLimit : LineInput
  run : Option Run
  queues : PerDirection (List QueueEntry)
  mode : AisleMode
  lock : Lock
  leaf : LeafState
  /-- Start of the 1 500 ms travel timer (R157). -/
  travelStart : Option Word
  /-- Start of the 800 ms close delay (R160). -/
  closeStart : Option Word
  passageAlarm : PassageAlarm
  /-- Start of the 3 s watch alarm (R138). -/
  watchAlarm : Option Word
  /-- The short tone playing on each face, and when it began (R165). -/
  tones : PerFace (Option (ShortTone × Word))
  counters : PerDirection PassageCounters
  deriving DecidableEq, Repr

/-! ### What SET AISLE stores beside the aisle unit's own values -/

/-- The station and gate of this part (R205). -/
structure Place where
  station : Half
  gate : Byte
  deriving DecidableEq, Repr

/-- Table 25, less the aisle mode and the polarities. `place` is `none` until the first accepted SET AISLE. -/
structure Setup where
  place : Option Place
  /-- Grant lifetime in s. -/
  grantLifetime : Nat
  /-- Tear window in s. -/
  tearWindow : Nat
  /-- Ring timeout in ms. -/
  ringTimeout : Nat
  /-- Sighting lifetime in days. -/
  sightingLifetime : Nat
  deriving DecidableEq, Repr

/-! ### The journal and the tear table (retained) -/

/-- The service day and minute an event is dated with; `none` when the clock was unset (R185). -/
abbrev Stamp := Option (Half × Half)

inductive TxOutcome where
  | entered
  | exited
  | refused
  | blockedCard
  | abandoned
  | torn
  | recovered
  deriving DecidableEq, Repr

inductive TearOutcome where
  | void
  | unresolved
  deriving DecidableEq, Repr

inductive PassageOutcome where
  | used
  | expired
  | cancelled
  | intrusion
  | tailgate
  | contraflow
  deriving DecidableEq, Repr

/-- A record's kind with its outcome (Table 20). -/
inductive RecordKind where
  | transaction (outcome : TxOutcome)
  | tear (outcome : TearOutcome)
  | passage (outcome : PassageOutcome)
  | lateAlert
  deriving DecidableEq, Repr

/-- The refusal reasons, in the row order of R45. -/
inductive Reason where
  | aisleFault
  | aisleBusy
  | queueFull
  | unknownKey
  | keyRetired
  | cardInvalid
  | counterExhausted
  | evidence
  | insufficient
  | belowEntryMinimum
  | noTime
  | watchDetain
  | closed
  | emergency
  | outOfService
  | writeFailed
  deriving DecidableEq, Repr

/-- The optional fields of a record (Table 21) and its two marks. -/
structure RecordFields where
  number : Option CardNumber
  cls : Option Byte
  evidence : Option EvidenceKind
  reason : Option Reason
  watchUnits : Option Byte
  fare : Option Half
  balanceAfter : Option Word
  counterAfter : Option Half
  entryStation : Option Half
  reference : Option Word
  bypassed : Bool
  freePassage : Bool
  deriving DecidableEq, Repr

/-- No optional field present. -/
def RecordFields.blank : RecordFields :=
  { number := none, cls := none, evidence := none, reason := none, watchUnits := none, fare := none
    balanceAfter := none, counterAfter := none, entryStation := none, reference := none, bypassed := false
    freePassage := false }

/-- A journal record (R185). -/
structure Record where
  sequence : Word
  kind : RecordKind
  stamp : Stamp
  face : Face
  fields : RecordFields
  deriving DecidableEq, Repr

/-- The journal (R183): its records, oldest first, and the next sequence. -/
structure Journal where
  records : List Record
  next : Word
  deriving DecidableEq, Repr

inductive TearKind where
  | entry
  | exit
  | block
  deriving DecidableEq, Repr

/-- The state of a tear entry (R51): TORN has its window start and its reference. -/
inductive TearState where
  | pending
  | torn (windowStart : Word) (reference : Word)
  deriving DecidableEq, Repr

/-- A tear table entry (R51). -/
structure TearEntry where
  number : CardNumber
  cls : Byte
  face : Face
  kind : TearKind
  oldCounter : Half
  newCounter : Half
  fare : Half
  balanceAfter : Word
  written : Stamp
  state : TearState
  deriving DecidableEq, Repr

/-! ### The service unit -/

inductive ServiceState where
  | starting
  | inService
  | closed
  | emergency
  | lockdown
  deriving DecidableEq, Repr

/-- The service clock (R175). -/
structure Clock where
  isSet : Bool
  day : Half
  minute : Half
  /-- Milliseconds within the minute. -/
  ms : Nat
  peakDay : Bool
  rollover : Half
  deriving DecidableEq, Repr

/-- A fault with what its kind names (Table 19). -/
inductive FaultKind where
  | readerFault (face : Face)
  | leafTimeout
  | leafForced
  | beamStuck (beam : Beam)
  | retainedLost
  deriving DecidableEq, Repr

/-- A fault record (R177). A snapshot is a context's state and, when not IDLE, its card number. -/
structure FaultRecord where
  kind : FaultKind
  time : Word
  stamp : Stamp
  snapshot : PerFace (CtxState × Option CardNumber)
  recoverable : Bool
  deriving DecidableEq, Repr

/-- The nine attention flags, in the order of R180. -/
inductive Flag where
  | fault
  | lockdown
  | clone
  | watch
  | alarm
  | tear
  | journal
  | ring
  | service
  deriving DecidableEq, Repr

/-- A set of attention flags: the flags raised, or the mask. -/
structure FlagSet where
  fault : Bool
  lockdown : Bool
  clone : Bool
  watch : Bool
  alarm : Bool
  tear : Bool
  journal : Bool
  ring : Bool
  service : Bool
  deriving DecidableEq, Repr

/-- The service unit (section 8), less the passage clock. -/
structure Service where
  state : ServiceState
  clock : Clock
  emergency : LineInput
  faultSlot : Option FaultRecord
  lockdownCause : Option FaultRecord
  flags : FlagSet
  mask : FlagSet
  /-- The retained-valid indication (R193). -/
  retainedValid : Bool
  deriving DecidableEq, Repr

/-! ### The machine -/

/-- The whole part. The hotlist list, the tear table and the journal are the retained store (9.6). -/
structure State where
  /-- The commands waiting, first in, first out (the model's own). -/
  pending : List Instr
  /-- How many free values have been drawn (the model's own). -/
  freeCount : Nat
  power : Power
  /-- The retained store has been kept since it was last examined (R193): clear after a failure of the backup supply. -/
  storeKept : Bool
  /-- The passage clock in ms (R174). -/
  now : Word
  link : Link
  faces : PerFace FaceUnit
  contexts : PerFace Context
  fare : FareUnit
  check : CardCheck
  /-- The sightings table, least recently updated first (R82). -/
  sightings : List SightingEntry
  hotlist : Hotlist
  tears : List TearEntry
  journal : Journal
  ring : Ring
  watch : Watch
  aisle : Aisle
  setup : Setup
  service : Service
  deriving DecidableEq, Repr

/-! ### After reset -/

def Link.afterReset : Link :=
  { collector := .hunting, busy := false, reply := none, overrun := 0, resetPending := false }

def FaceUnit.afterReset : FaceUnit :=
  { state := .off, settleStart := none, pollStart := none, poll := none, exchange := none, missCount := 0
    unanswered := 0, offPending := false, lastOutcome := .noOutcome }

def Fares.afterReset : Fares :=
  { step := 10, transferCredit := 0, transferWindow := 30, incompleteFare := 0, overstayLimit := 180
    overstayCharge := 0, grace := 15, floor := 0, minEntry := 0, base := .replicate 16 0
    minTravel := .replicate 16 0, peakPercent := 100, windows := .replicate 4 (0, 0) }

def FareUnit.afterReset : FareUnit :=
  { stations := .replicate 1024 { loaded := false, zone := 0, group := 0 }
    bands := .replicate 32 (.replicate 32 15)
    fares := Fares.afterReset, faresLoaded := false
    classes := .replicate 8 { discount := 0, cap := 0 }, released := [] }

/-- The policies of Table 15 after reset. -/
def Policies.afterReset : Policies :=
  { blocked := .refuse, hotlisted := .refuseAndBlock, forged := .refuse, replay := .refuseAndBlock
    divergent := .refuseAndBlock, concurrent := .refuse, impossible := .flag }

def CardCheck.afterReset : CardCheck :=
  { keys := .replicate 16 { state := .empty, key := 0 }, challenge := 0, policies := Policies.afterReset
    ranges := .replicate 8 { low := 1, high := 0 } }

def Ring.afterReset : Ring :=
  { state := .isolated, size := 0, queue := [], censusStart := none, holdOrder := [] }

def WatchUnit.afterReset : WatchUnit :=
  { field := .cardNumber, low := 1, high := 0, sense := .inside, kind := .any, group := 0 }

def Watch.afterReset : Watch :=
  { units := .replicate 8 WatchUnit.afterReset, combine := .or, action := .report, countdown := 0, status := none }

/-- A beam after reset whose input level is `high` (R140): accepted clear, and under blocked-high a high level begins a
pending change at the moment the reset ends. -/
def BeamInput.afterReset (high : Bool) : BeamInput :=
  { polarity := .blockedHigh, high := high, blocked := false, pendingSince := if high then some 0 else none
    stuck := false, blockedSince := 0 }

/-- A limit or the emergency input after reset: its accepted state is taken directly from its level (R157, R170). -/
def LineInput.afterReset (level : Bool) : LineInput :=
  { level := level, accepted := level, pendingSince := none }

def PassageCounters.zero : PassageCounters :=
  { granted := 0, used := 0, expired := 0, withdrawn := 0, intrusion := 0, tailgate := 0, contraflow := 0 }

/-- The aisle unit after reset, from the levels of its inputs (R140, R157). -/
def Aisle.afterReset (beamsHigh : PerBeam Bool) (openAsserted closedAsserted : Bool) : Aisle :=
  { beams :=
      { beam1 := .afterReset beamsHigh.beam1, beam2 := .afterReset beamsHigh.beam2
        beam3 := .afterReset beamsHigh.beam3, beam4 := .afterReset beamsHigh.beam4 }
    openLimit := .afterReset openAsserted, closedLimit := .afterReset closedAsserted
    run := none, queues := { entry := [], exit := [] }, mode := .bidirectional, lock := .unlocked
    leaf := if closedAsserted then .closed else .closing
    travelStart := if closedAsserted then none else some 0
    closeStart := none, passageAlarm := .silent, watchAlarm := none, tones := { street := none, paid := none }
    counters := { entry := .zero, exit := .zero } }

def Setup.afterReset : Setup :=
  { place := none, grantLifetime := 10, tearWindow := 120, ringTimeout := 40, sightingLifetime := 3 }

def Clock.afterReset : Clock :=
  { isSet := false, day := 0, minute := 0, ms := 0, peakDay := false, rollover := 240 }

def FlagSet.none : FlagSet :=
  { fault := false, lockdown := false, clone := false, watch := false, alarm := false, tear := false
    journal := false, ring := false, service := false }

def FlagSet.all : FlagSet :=
  { fault := true, lockdown := true, clone := true, watch := true, alarm := true, tear := true
    journal := true, ring := true, service := true }

def Service.afterReset (emergencyLevel : Bool) (retainedValid : Bool) : Service :=
  { state := .starting, clock := Clock.afterReset, emergency := .afterReset emergencyLevel, faultSlot := Option.none
    lockdownCause := Option.none, flags := FlagSet.none, mask := FlagSet.all, retainedValid := retainedValid }

/-- The machine right after a power-on that found its retained store valid, with nothing in that store, no beam blocked,
the leaf shut against its closed limit and the emergency input released. Log entries 5 and 6 name the values the manual
does not fix (the input levels, and the content of the retained store). -/
def State.reset : State :=
  { pending := [], freeCount := 0, power := .running, storeKept := true, now := 0
    link := Link.afterReset
    faces := { street := .afterReset, paid := .afterReset }
    contexts := { street := .idle, paid := .idle }
    fare := FareUnit.afterReset, check := CardCheck.afterReset, sightings := []
    hotlist := { entries := [], localOrder := [] }, tears := [], journal := { records := [], next := 1 }
    ring := Ring.afterReset, watch := Watch.afterReset
    aisle := Aisle.afterReset { beam1 := false, beam2 := false, beam3 := false, beam4 := false } false true
    setup := Setup.afterReset, service := Service.afterReset false true }

end Sys2Proof.Machine
end

