-- ==== Sys2Proof/Machine/Codec.lean ====
section
/-! DEFINITION. Bytes: field readers and writers (R210), the enumeration codes of Table 26, the CRC-16 of R199, the link frame, the journal record (11.3), the card image (11.4) and the ring message (R211). -/

namespace Sys2Proof.Machine

/-! ### Fields, most significant byte first (R210) -/

def byteAt (bs : List Byte) (i : Nat) : Byte := bs.getD i 0

def halfAt (bs : List Byte) (i : Nat) : Half := byteAt bs i ++ byteAt bs (i + 1)

def wordAt (bs : List Byte) (i : Nat) : Word := halfAt bs i ++ halfAt bs (i + 2)

def longAt (bs : List Byte) (i : Nat) : BitVec 64 := wordAt bs i ++ wordAt bs (i + 4)

def halfBytes (x : Half) : List Byte := [x.extractLsb' 8 8, x.extractLsb' 0 8]

def wordBytes (x : Word) : List Byte := halfBytes (x.extractLsb' 16 16) ++ halfBytes (x.extractLsb' 0 16)

def longBytes (x : BitVec 64) : List Byte := wordBytes (x.extractLsb' 32 32) ++ wordBytes (x.extractLsb' 0 32)

/-- A count or length sent in one byte. -/
def natByte (n : Nat) : Byte := BitVec.ofNat 8 n

/-- A reply gives minutes and days two bytes, also those a request carries in one (R210). -/
def spanBytes (b : Byte) : List Byte := [0, b]

/-- A count or length sent in two bytes. -/
def natHalf (n : Nat) : List Byte := halfBytes (BitVec.ofNat 16 n)

/-- A quantity sent in four bytes. -/
def natWord (n : Nat) : List Byte := wordBytes (BitVec.ofNat 32 n)

/-- A mark: 0 for clear, 1 for set. -/
def markByte (b : Bool) : Byte := if b then 1 else 0

/-- A mark byte other than 0 or 1 has no reading (R210). -/
def readMark (b : Byte) : Option Bool := if b = 0 then some false else if b = 1 then some true else none

/-- An optional item of a reply: a presence mark, then the item, or `width` zeros when it is absent (R210). -/
def optional (width : Nat) : Option (List Byte) → List Byte
  | some bs => 1 :: bs
  | none => 0 :: List.replicate width 0

/-- A list of a reply: its count in two bytes, then its items (R210). -/
def counted (items : List (List Byte)) : List Byte := natHalf items.length ++ items.flatten

/-! ### Enumeration codes (Table 26) -/

/-- The code of a value is its place in the table's list. -/
def codeIn {α : Type} [DecidableEq α] (l : List α) (x : α) : Byte := natByte (l.idxOf x)

def decodeIn {α : Type} (l : List α) (b : Byte) : Option α := l[b.toNat]?

def serviceStateList : List ServiceState := [.starting, .inService, .closed, .emergency, .lockdown]
def faceList : List Face := [.street, .paid]
def directionList : List Direction := [.entry, .exit]
def cardStatusList : List CardStatus := [.active, .blocked]
def keyStateList : List KeyState := [.empty, .active, .retired]
def evidenceList : List EvidenceKind := [.blocked, .hotlisted, .forged, .replay, .divergent, .concurrent, .impossible]
def policyList : List Policy := [.refuse, .refuseAndBlock, .flag]
def reasonList : List Reason :=
  [.aisleFault, .aisleBusy, .queueFull, .unknownKey, .keyRetired, .cardInvalid, .counterExhausted, .evidence,
   .insufficient, .belowEntryMinimum, .noTime, .watchDetain, .closed, .emergency, .outOfService, .writeFailed]
def aisleModeList : List AisleMode := [.entryOnly, .exitOnly, .bidirectional]
def polarityList : List Polarity := [.blockedHigh, .blockedLow]
def watchFieldList : List WatchField := [.cardNumber, .cardClass, .counter, .balanceAfter, .fare, .entryStation]
def senseList : List Sense := [.inside, .outside]
def kindFilterList : List KindFilter := [.entry, .exit, .any]
def combineList : List Combine := [.and, .or]
def watchActionList : List WatchAction := [.report, .detain, .alarm]
def faceStateList : List FaceState := [.off, .settling, .polling, .serving, .watching, .disabled]
def lastOutcomeList : List LastOutcome := [.noOutcome, .twoCards]
def ctxStateList : List CtxState :=
  [.idle, .naming, .admitted, .reading, .proving, .holding, .deciding, .staging, .settling, .confirming, .removalWait,
   .refusedShown]
def leafStateList : List LeafState := [.closed, .opening, .opened, .closing, .free, .jammed]
def ringStateList : List RingState := [.up, .isolated]
def lockList : List Lock := [.unlocked, .entry, .exit]
def runDirectionList : List RunDirection := [.entry, .exit, .unknown]
def tearKindList : List TearKind := [.entry, .exit, .block]
def hotOriginList : List HotOrigin := [.host, .localAdd]
def sightingSourceList : List SightingSource := [.localWrite, .peer, .remote]
def txOutcomeList : List TxOutcome := [.entered, .exited, .refused, .blockedCard, .abandoned, .torn, .recovered]
def tearOutcomeList : List TearOutcome := [.void, .unresolved]
def passageOutcomeList : List PassageOutcome := [.used, .expired, .cancelled, .intrusion, .tailgate, .contraflow]

/-- The result byte of a reply (R202, Table 26). -/
inductive Result where
  | done
  | wrongState
  | outOfRange
  | full
  | notFound
  | unknownRequest
  deriving DecidableEq, Repr

def resultByte : Result → Byte
  | .done => 0
  | .wrongState => 1
  | .outOfRange => 2
  | .full => 3
  | .notFound => 4
  | .unknownRequest => 5

/-- The beam's number, 1 to 4. -/
def beamNumber : Beam → Byte
  | .beam1 => 1
  | .beam2 => 2
  | .beam3 => 3
  | .beam4 => 4

/-- The fault kind's code, in the row order of Table 19. -/
def faultKindByte : FaultKind → Byte
  | .readerFault _ => 0
  | .leafTimeout => 1
  | .leafForced => 2
  | .beamStuck _ => 3
  | .retainedLost => 4

/-- The face or beam a fault names (R177): the face's code, or the beam's number; the leaf is named by the kind alone. -/
def faultConcerns : FaultKind → Option Byte
  | .readerFault f => some (codeIn faceList f)
  | .beamStuck b => some (beamNumber b)
  | _ => none

def recordKindByte : RecordKind → Byte
  | .transaction _ => 0
  | .tear _ => 1
  | .passage _ => 2
  | .lateAlert => 3

def recordOutcomeByte : RecordKind → Byte
  | .transaction o => codeIn txOutcomeList o
  | .tear o => codeIn tearOutcomeList o
  | .passage o => codeIn passageOutcomeList o
  | .lateAlert => 0

/-! ### The CRC-16 (R199) and the link frame (Table 23) -/

/-- One shift of the register: left one place, and 0x1021 by exclusive-or when the bit shifted out was 1. -/
def crcShift (r : Half) : Half := if r.msb then (r <<< 1) ^^^ 0x1021 else r <<< 1

/-- One byte into the register: the byte in the upper 8 bits by exclusive-or, then 8 shifts. -/
def crcByte (r : Half) (b : Byte) : Half := Nat.repeat crcShift 8 (r ^^^ (b ++ (0 : Byte)))

def crc16 (bs : List Byte) : Half := bs.foldl crcByte 0xFFFF

/-- A link frame: start, length, kind, body, check (Table 23). -/
def frameBytes (kind : Byte) (body : List Byte) : List Byte :=
  let checked := natHalf (body.length + 1) ++ kind :: body
  0xA5 :: (checked ++ halfBytes (crc16 checked))

/-- The bytes of a reply on TXD. -/
def Reply.frame (r : Reply) : List Byte := frameBytes r.kind r.body

/-! ### The journal record (Table 28) -/

/-- The presence field: bits 0 to 9 for the ten fields at offsets 14 to 36, in order. -/
def presenceBits (r : RecordFields) : Half :=
  let marks := [r.number.isSome, r.cls.isSome, r.evidence.isSome, r.reason.isSome, r.watchUnits.isSome, r.fare.isSome,
    r.balanceAfter.isSome, r.counterAfter.isSome, r.entryStation.isSome, r.reference.isSome]
  BitVec.ofNat 16 (marks.foldr (fun b n => (if b then 1 else 0) + 2 * n) 0)

/-- The marks byte: bit 0 clock unset, bit 1 ring bypassed, bit 2 passage mark FREE. -/
def recordMarks (r : Record) : Byte :=
  natByte ((if r.stamp.isNone then 1 else 0) + (if r.fields.bypassed then 2 else 0) + (if r.fields.freePassage then 4 else 0))

/-- Bytes 0 to 81 of a record's slot. An absent field is zeros (R210). -/
def recordBody (r : Record) : List Byte :=
  wordBytes r.sequence ++ [recordKindByte r.kind, recordOutcomeByte r.kind, codeIn faceList r.face, recordMarks r]
    ++ halfBytes ((r.stamp.map (·.1)).getD 0) ++ halfBytes ((r.stamp.map (·.2)).getD 0)
    ++ halfBytes (presenceBits r.fields)
    ++ longBytes (r.fields.number.getD 0)
    ++ [r.fields.cls.getD 0, (r.fields.evidence.map (codeIn evidenceList)).getD 0,
        (r.fields.reason.map (codeIn reasonList)).getD 0, r.fields.watchUnits.getD 0]
    ++ halfBytes (r.fields.fare.getD 0) ++ wordBytes (r.fields.balanceAfter.getD 0)
    ++ halfBytes (r.fields.counterAfter.getD 0) ++ halfBytes (r.fields.entryStation.getD 0)
    ++ wordBytes (r.fields.reference.getD 0) ++ List.replicate 42 0

/-- The 84-byte slot: the body and the record check. -/
def recordBytes (r : Record) : List Byte := recordBody r ++ halfBytes (crc16 (recordBody r))

/-! ### The card image (Table 29) -/

/-- The counter of an image's 64 bytes, before the image is checked. -/
def imageCounter (bs : List Byte) : Half := halfAt bs 15

/-- The card number of an image's 64 bytes, before the image is checked. -/
def imageNumber (bs : List Byte) : CardNumber := longAt bs 0

/-- The chain word of an image's 64 bytes, before the image is checked. -/
def imageChain (bs : List Byte) : Word := wordAt bs 17

def journeyAt (bs : List Byte) (i : Nat) : Journey :=
  { station := halfAt bs i, day := halfAt bs (i + 2), minute := halfAt bs (i + 4), fare := halfAt bs (i + 6) }

/-- The entry record of an image, `none` of the outer option when its presence byte or its mark has no code. -/
def readEntry (bs : List Byte) : Option (Option EntryRecord) :=
  match readMark (byteAt bs 25) with
  | none => none
  | some false => some none
  | some true =>
    match readMark (byteAt bs 33) with
    | none => none
    | some m =>
      some (some { station := halfAt bs 26, gate := byteAt bs 28, day := halfAt bs 29, minute := halfAt bs 31, transferMark := m })

/-- The pass of an image, `none` of the outer option when its presence byte has no code. -/
def readPass (bs : List Byte) : Option (Option Pass) :=
  match readMark (byteAt bs 59) with
  | none => none
  | some false => some none
  | some true => some (some { zoneLow := byteAt bs 60, zoneHigh := byteAt bs 61, lastDay := halfAt bs 62 })

/-- The trip history within its count, newest first; `none` when the count is above 3. -/
def readHistory (bs : List Byte) : Option (List Journey) :=
  if (byteAt bs 34).toNat ≤ 3 then
    some ([journeyAt bs 35, journeyAt bs 43, journeyAt bs 51].take (byteAt bs 34).toNat)
  else none

/-- The fields of an image's 64 bytes; `none` when the image is not 64 bytes long, or a status byte, presence byte,
transfer-eligible mark or history count has no code (R15 step 1). Absent fields are ignored (11.4). -/
def CardImage.ofBytes (bs : List Byte) : Option CardImage :=
  if bs.length = 64 then
    match decodeIn cardStatusList (byteAt bs 10), readEntry bs, readHistory bs, readPass bs with
    | some status, some entry, some history, some pass =>
      some
        { number := imageNumber bs, cls := byteAt bs 8, generation := byteAt bs 9, status := status
          balance := wordAt bs 11, counter := imageCounter bs, chain := imageChain bs
          spendDay := halfAt bs 21, daySpend := halfAt bs 23, entry := entry, history := history, pass := pass }
    | _, _, _, _ => none
  else none

def journeyBytes (j : Journey) : List Byte :=
  halfBytes j.station ++ halfBytes j.day ++ halfBytes j.minute ++ halfBytes j.fare

/-- History slot i, zeros beyond the count. -/
def historySlot (h : List Journey) (i : Nat) : List Byte :=
  match h[i]? with
  | some j => journeyBytes j
  | none => List.replicate 8 0

def entryBytes (e : Option EntryRecord) : List Byte :=
  optional 8 (e.map fun r =>
    halfBytes r.station ++ [r.gate] ++ halfBytes r.day ++ halfBytes r.minute ++ [markByte r.transferMark])

def passBytes (p : Option Pass) : List Byte :=
  optional 4 (p.map fun r => [r.zoneLow, r.zoneHigh] ++ halfBytes r.lastDay)

/-- The 64 bytes of an image (Table 29): absent fields and unused history slots are staged as zeros. -/
def CardImage.toBytes (c : CardImage) : List Byte :=
  longBytes c.number ++ [c.cls, c.generation, codeIn cardStatusList c.status] ++ wordBytes c.balance
    ++ halfBytes c.counter ++ wordBytes c.chain ++ halfBytes c.spendDay ++ halfBytes c.daySpend
    ++ entryBytes c.entry
    ++ natByte c.history.length :: (historySlot c.history 0 ++ historySlot c.history 1 ++ historySlot c.history 2)
    ++ passBytes c.pass

/-- What the front end is given to send to the card. Only STAGE's content has a stated layout (11.4): the 64 bytes of the
image, then the new counter. -/
def stageBytes (image : List Byte) (counter : Half) : List Byte := image ++ halfBytes counter

/-! ### The ring message (R211) -/

/-- The 13 bytes of a RELEASE after its outcome, as they came. -/
def unreadAt (bs : List Byte) (i : Nat) : BitVec 104 := longAt bs i ++ (wordAt bs (i + 8) ++ byteAt bs (i + 12))

def unreadBytes (x : BitVec 104) : List Byte :=
  longBytes (x.extractLsb' 40 64) ++ wordBytes (x.extractLsb' 8 32) ++ [x.extractLsb' 0 8]

/-- A RELEASE from its outcome to its last field. Table 30 says that of a DROPPED or UNCERTAIN "the last seven fields" are not
read, but six fields, of 13 bytes, follow the outcome: those six are meant (DEDUCED, log entry 44). -/
def releaseBytes : ReleaseBody → List Byte
  | .committed counter chain station day minute direction =>
    0 :: (halfBytes counter ++ wordBytes chain ++ halfBytes station ++ halfBytes day ++ halfBytes minute
      ++ [direction])
  | .dropped unread => 1 :: unreadBytes unread
  | .uncertain unread => 2 :: unreadBytes unread

/-- A ring message from its kind byte to its last field byte. -/
def ringBody : RingMessage → List Byte
  | .hold o h number counter contest => [0, o, h] ++ longBytes number ++ halfBytes counter ++ [contest.mark, contest.gate]
  | .release o h number body => [1, o, h] ++ longBytes number ++ releaseBytes body
  | .alert o h number kind block => [2, o, h] ++ longBytes number ++ [codeIn evidenceList kind, block]
  | .census o h => [3, o, h]

/-- A ring message on ring-out: the start byte 0x5A, the kind, origin, hop and fields, and the check. -/
def ringBytes (m : RingMessage) : List Byte := 0x5A :: (ringBody m ++ halfBytes (crc16 (ringBody m)))

end Sys2Proof.Machine
end

