-- ==== Sys2Proof/Config.lean ====
section
/-! DEFINITION. What the manual leaves to the implementation, and the free values: constants with no body, so that nothing can be proved of them. -/

namespace Sys2Proof

/-- The silicon revision that IDENTIFY returns: "a number from 0 to 255" (R204), which the manual does not fix. Log entry 1. -/
opaque Config.siliconRevision : Byte

/-- The n-th free byte of a reply: of a field whose value the manual does not state (a field of a slot, unit, kind or class that does
not exist, in the reply of a refused request). Log entry 2. -/
opaque Config.freeByte : Nat → Byte

/-- The n-th free choice among things the manual leaves unordered: deadlines reached in the same millisecond, entries of one
event with no stated order, the faces or the contexts first at a change of service state; and among the codes a mark or an
enumeration can have, in a reply about something that does not exist. Log entries 2 to 4. -/
opaque Config.freeChoice : Nat → Nat

/-- How a mark byte of a ring message that is neither 0 nor 1 is read: R211 does not make such a message bad. Log entry 2. -/
opaque Config.unlistedMark : Byte → Bool

/-- How a direction byte of a ring message that has no code is read: it reads as exit. Log entry 2. -/
opaque Config.unlistedExit : Byte → Bool

end Sys2Proof
end

