-- ==== Sys2Proof/Machine/Flags.lean ====
section
/-! DEFINITION. Attention flags, their mask and the attention line (R180 to R182), and the outputs read off the state: lamps (R164), sounders (R165), leaf drive (Table 17), faces' fields, ATTN (R197, R209). -/

namespace Sys2Proof.Machine

def FlagSet.get (s : FlagSet) : Flag → Bool
  | .fault => s.fault
  | .lockdown => s.lockdown
  | .clone => s.clone
  | .watch => s.watch
  | .alarm => s.alarm
  | .tear => s.tear
  | .journal => s.journal
  | .ring => s.ring
  | .service => s.service

def FlagSet.raise (s : FlagSet) : Flag → FlagSet
  | .fault => { s with fault := true }
  | .lockdown => { s with lockdown := true }
  | .clone => { s with clone := true }
  | .watch => { s with watch := true }
  | .alarm => { s with alarm := true }
  | .tear => { s with tear := true }
  | .journal => { s with journal := true }
  | .ring => { s with ring := true }
  | .service => { s with service := true }

/-- The flags in the fixed order of R180. -/
def flagList : List Flag := [.fault, .lockdown, .clone, .watch, .alarm, .tear, .journal, .ring, .service]

/-- The 2-byte field of a flag set: bit n for the n-th flag (R210). -/
def FlagSet.toBits (s : FlagSet) : Half :=
  BitVec.ofNat 16 (flagList.foldr (fun f n => (if s.get f then 1 else 0) + 2 * n) 0)

/-- The mask a SET ATTENTION MASK carries: bits 9 to 15 are dropped (R210). -/
def FlagSet.ofBits (b : Half) : FlagSet :=
  { fault := b.getLsbD 0, lockdown := b.getLsbD 1, clone := b.getLsbD 2, watch := b.getLsbD 3, alarm := b.getLsbD 4
    tear := b.getLsbD 5, journal := b.getLsbD 6, ring := b.getLsbD 7, service := b.getLsbD 8 }

/-- The attention line is asserted while at least one enabled flag is set (R181). -/
def FlagSet.line (flags mask : FlagSet) : Bool := flagList.any fun f => flags.get f && mask.get f

/-- A block raises an attention flag (R180). -/
def State.raise (s : State) (f : Flag) : State :=
  { s with service := { s.service with flags := s.service.flags.raise f } }

/-- The level of the attention line. -/
def State.attentionLine (s : State) : Bool := s.service.flags.line s.service.mask

/-- The ATTN output: high while the line is asserted (R197), low while the part is held in reset (R209) or has no power. -/
def State.attn (s : State) : Bool := decide (s.power = .running) && s.attentionLine

/-! ### Outputs of the faces and the aisle -/

/-- A lamp shows one of these (section 7.7). -/
inductive Lamp where
  | go
  | stop
  | attend
  | free
  | off
  deriving DecidableEq, Repr

def Indication.lamp : Indication → Lamp
  | .go => .go
  | .stop => .stop
  | .attend => .attend

/-- The lamp of a face: OFF in reset (R209), else the first line of R164's table that applies. -/
def State.lamp (s : State) (f : Face) : Lamp :=
  if s.power ≠ .running then .off
  else if s.service.state = .emergency ∨ s.service.state = .lockdown then .free
  else if s.service.state = .starting then .off
  else if s.service.state = .closed ∧ ((s.faces.get f).state = .off ∨ (s.faces.get f).state = .disabled) then .off
  else if s.aisle.watchAlarm.isSome then .attend
  else if (s.faces.get f).state = .disabled then .stop
  else (s.contexts.get f).indication.lamp

/-- What a sounder plays. -/
inductive Sound where
  | silent
  | accept
  | refuse
  | alarm
  deriving DecidableEq, Repr

/-- A passage alarm or a watch alarm is running: the alarm tone sounds on both faces (R165). -/
def State.alarmTone (s : State) : Bool := decide (s.aisle.passageAlarm ≠ .silent) || s.aisle.watchAlarm.isSome

/-- What a short tone sounds like some ms after its start: the accept tone is one sound of 120 ms, the refuse tone two sounds
of 120 ms with 120 ms of silence between them (R165). Its end takes the tone away (SHORT_TONE_END). -/
def ShortTone.sound (t : ShortTone) (elapsed : Nat) : Sound :=
  match t with
  | .accept => .accept
  | .refuse => if 120 ≤ elapsed ∧ elapsed < 240 then .silent else .refuse

/-- A face's sounder. -/
def State.sound (s : State) (f : Face) : Sound :=
  if s.power ≠ .running then .silent
  else if s.alarmTone then .alarm
  else match s.aisle.tones.get f with
    | some (t, start) => t.sound (s.now - start).toNat
    | none => .silent

/-- The leaf drive outputs. -/
inductive Drive where
  | close
  | opening
  | off
  deriving DecidableEq, Repr

/-- Table 17's drive; off while the part is held in reset (R209). -/
def State.leafDrive (s : State) : Drive :=
  if s.power ≠ .running then .off
  else match s.aisle.leaf with
    | .closed | .closing => .close
    | .opening | .opened | .free => .opening
    | .jammed => .off

/-- A face's field is on (Table 3; off in reset, R209). -/
def State.fieldOn (s : State) (f : Face) : Bool :=
  decide (s.power = .running) && decide ((s.faces.get f).state ≠ .off ∧ (s.faces.get f).state ≠ .disabled)

end Sys2Proof.Machine
end

