-- ==== Sys2Proof/Machine/Ops.lean ====
section
/-! DEFINITION. Shared operations: the clocks and deadlines (R174), free values, the journal (section 9), the parts of State each block reads and writes. -/

namespace Sys2Proof

/-- The face's direction: the street face serves entry, the paid face exit. -/
def Face.direction : Face → Direction
  | .street => .entry
  | .paid => .exit

def Face.other : Face → Face
  | .street => .paid
  | .paid => .street

end Sys2Proof

namespace Sys2Proof.Machine

/-! ### Commands while the part runs -/

/-- A command has its effect only while the part runs: held in reset or without power it does nothing (R209). -/
def whenRunning (s : State) (f : State → State) : Host.Outcome State Fault Refusal :=
  .next (if s.power = .running then f s else s)

/-! ### Reading and writing the parts of State -/

def State.context (s : State) (f : Face) : Context := s.contexts.get f

def State.setContext (s : State) (f : Face) (c : Context) : State := { s with contexts := s.contexts.set f c }

def State.face (s : State) (f : Face) : FaceUnit := s.faces.get f

def State.setFace (s : State) (f : Face) (u : FaceUnit) : State := { s with faces := s.faces.set f u }

def State.setLink (s : State) (l : Link) : State := { s with link := l }

def State.setAisle (s : State) (a : Aisle) : State := { s with aisle := a }

def State.setService (s : State) (v : Service) : State := { s with service := v }

def State.setRing (s : State) (r : Ring) : State := { s with ring := r }

/-- The card number of a context, 0 while it has no name answer. -/
def Context.number (c : Context) : CardNumber := (c.name.map (·.number)).getD 0

/-- The card's class, 0 while the context has no name answer. -/
def Context.cls (c : Context) : Byte := (c.name.map (·.cls)).getD 0

/-- An admitted context whose transaction record has not been written (R26, R187). -/
def CtxState.admittedOpen : CtxState → Bool
  | .admitted | .reading | .proving | .holding | .deciding | .staging | .settling | .confirming => true
  | _ => false

/-- SETTLING or CONFIRMING: at or past the commit point (R39). -/
def CtxState.committed : CtxState → Bool
  | .settling | .confirming => true
  | _ => false

/-- REMOVAL_WAIT or REFUSED_SHOWN: waiting for the card to be removed. -/
def CtxState.waiting : CtxState → Bool
  | .removalWait | .refusedShown => true
  | _ => false

/-! ### Time (R174, R175) -/

/-- A deadline is reached when the passage clock minus its start, mod 2^32, is at least its duration. -/
def reached (now start : Word) (duration : Nat) : Bool := decide (duration ≤ (now - start).toNat)

/-- A deadline that may be stopped. -/
def due (now : Word) (start : Option Word) (duration : Nat) : Bool :=
  match start with
  | some t => reached now t duration
  | none => false

/-- Time left to a deadline, in ms; 0 once it is reached. -/
def remaining (now start : Word) (duration : Nat) : Nat := duration - (now - start).toNat

def settlingTime : Nat := 20
def pollInterval : Nat := 100
def replyTimeout : Nat := 25
def censusInterval : Nat := 2000
def peerHoldLife : Nat := 5000
def debounceTime : Nat := 30
def stuckTime : Nat := 60000
def travelTime : Nat := 1500
def closeDelay : Nat := 800
def alarmTime : Nat := 3000
/-- One sound of 120 ms, or two with 120 ms of silence between them (R165). -/
def toneTime : ShortTone → Nat
  | .accept => 120
  | .refuse => 360

/-- The tear window in force, in ms (R55). -/
def State.tearWindowMs (s : State) : Nat := s.setup.tearWindow * 1000

/-- The grant lifetime in force, in ms (R151). -/
def State.grantLifetimeMs (s : State) : Nat := s.setup.grantLifetime * 1000

/-- The service day, 0 while the clock is unset (R175). -/
def State.today (s : State) : Half := if s.service.clock.isSet then s.service.clock.day else 0

/-- The service minute, 0 while the clock is unset (R175). -/
def State.minuteNow (s : State) : Half := if s.service.clock.isSet then s.service.clock.minute else 0

/-- The day and minute an event is dated with, or unset (R185). -/
def State.stamp (s : State) : Stamp :=
  if s.service.clock.isSet then some (s.service.clock.day, s.service.clock.minute) else none

/-! ### This part's place (R205) -/

def State.station (s : State) : Half := (s.setup.place.map (·.station)).getD 0

def State.gate (s : State) : Byte := (s.setup.place.map (·.gate)).getD 0

/-! ### Free values -/

/-- n bytes whose values the manual does not state. -/
def State.freeBytes (s : State) : Nat → List Byte
  | 0 => []
  | n + 1 => Config.freeByte s.freeCount :: ({ s with freeCount := s.freeCount + 1 } : State).freeBytes n

/-- n free values have been drawn. -/
def State.drew (s : State) (n : Nat) : State := { s with freeCount := s.freeCount + n }

/-- A free one among the codes 0 to k - 1 of an enumeration or a mark. -/
def State.freeCode (s : State) (k : Nat) : Byte := BitVec.ofNat 8 (Config.freeChoice s.freeCount % k)

/-- A free choice between two orders. -/
def State.freeBit (s : State) : Bool := decide (Config.freeChoice s.freeCount % 2 = 0)

/-- The items of a list in a free order: each is put at a freely chosen place among those after it. -/
def freelyOrdered {α : Type} (n : Nat) : List α → List α
  | [] => []
  | x :: xs =>
    let rest := freelyOrdered (n + 1) xs
    rest.insertIdx (Config.freeChoice n % (rest.length + 1)) x

/-! ### The journal (sections 9.1 to 9.5) -/

def journalSize : Nat := 1024

/-- Free slots (R183). -/
def State.freeSlots (s : State) : Nat := journalSize - s.journal.records.length

/-- 1 for each TORN tear entry. -/
def tornCount (l : List TearEntry) : Nat := l.countP fun e => decide (e.state ≠ .pending)

/-- 2 for a context that is admitted and has not written its record. -/
def contextShare (c : Context) : Nat := if c.state.admittedOpen then 2 else 0

/-- The obligations (R187). -/
def State.obligations (s : State) : Nat :=
  contextShare s.contexts.street + contextShare s.contexts.paid
    + (s.aisle.queues.entry.length + s.aisle.queues.exit.length) + tornCount s.tears

/-- The sequence after a sequence: 0 is never given (R183). -/
def nextSequence (n : Word) : Word := if n = 0xFFFFFFFF then 1 else n + 1

/-- Sequence a is at or after sequence b (R183). -/
def atOrAfter (a b : Word) : Bool := decide ((a - b).toNat < 2 ^ 31)

/-- Free slots passing from at least a threshold to below it (R192). -/
def crossesThreshold (before after : Nat) : Bool := [256, 192, 128, 64].any fun t => decide (t ≤ before ∧ after < t)

/-- Append a record at the newest end with the next sequence (R184), raising JOURNAL attention at a threshold (R192).
`stamp` is the service clock's at every record but the TORN records of a reset (R185). -/
def State.append (s : State) (kind : RecordKind) (stamp : Stamp) (f : Face) (fields : RecordFields) : State :=
  let r : Record := { sequence := s.journal.next, kind := kind, stamp := stamp, face := f, fields := fields }
  let s' := { s with journal := { records := s.journal.records ++ [r], next := nextSequence s.journal.next } }
  if crossesThreshold s.freeSlots s'.freeSlots then s'.raise .journal else s'

/-- A spare record is written only while free slots exceed obligations (R189). -/
def State.appendSpare (s : State) (kind : RecordKind) (f : Face) (fields : RecordFields) : State :=
  if s.obligations < s.freeSlots then s.append kind s.stamp f fields else s

/-! ### Tones (R165) -/

/-- A short tone is asked for on a face: not played while the alarm tone sounds there, else from its start. -/
def State.askTone (s : State) (f : Face) (t : ShortTone) : State :=
  if s.alarmTone then s
  else s.setAisle { s.aisle with tones := s.aisle.tones.set f (some (t, s.now)) }

/-- An alarm begins: a short tone that is playing is cut off (R165). -/
def Aisle.cutTones (a : Aisle) : Aisle := { a with tones := { street := none, paid := none } }

/-! ### Card commands (R10) -/

/-- The context asks its face for a card command: the exchange opens and its 25 ms reply timeout starts. -/
def State.ask (s : State) (f : Face) (c : CardCommand) : State :=
  s.setFace f { s.face f with exchange := some { command := c, sentAt := s.now, resent := false } }

/-- The exchange of a face is closed; a later reply to it is discarded. -/
def State.closeExchange (s : State) (f : Face) : State := s.setFace f { s.face f with exchange := none }

end Sys2Proof.Machine
end

