-- ==== Sys2Proof/Machine/LinkOps.lean ====
section
/-! DEFINITION. The link unit's shared operations: how a frame meets the receive buffer, how a request is answered, BAD_FRAME (R200 to R202). -/

namespace Sys2Proof.Machine

/-- A frame reaches the receive buffer and the collector returns to hunting (R198, R200). Busy: it is discarded and the
overrun count adds 1, up to 255. Free: the buffer becomes busy and is given the reply. -/
def State.takeFrame (s : State) (act : State → State × Reply) : State :=
  let hunting := s.setLink { s.link with collector := .hunting }
  if s.link.busy then hunting.setLink { hunting.link with overrun := min 255 (s.link.overrun + 1) }
  else
    let done := act hunting
    done.1.setLink { done.1.link with busy := true, reply := some done.2 }

/-- What the owning block answers a request: the result, the fields of the reply, and the state after (R202, R203). -/
structure Answer where
  result : Result
  fields : List Byte
  after : State

/-- A request is taken: a body of the wrong length is refused OUT_OF_RANGE with the result byte alone (R202). -/
def State.takeRequest (s : State) (kind : Byte) (fits : Bool) (answer : State → Answer) : State :=
  s.takeFrame fun t =>
    if fits then
      let a := answer t
      (a.after, { kind := kind, body := resultByte a.result :: a.fields })
    else (t, { kind := kind, body := [resultByte .outOfRange] })

/-- A request of fixed length. -/
def State.request (s : State) (kind : Byte) (length : Nat) (body : List Byte) (answer : State → Answer) : State :=
  s.takeRequest kind (decide (body.length = length)) answer

/-- A request that changes nothing and is answered DONE with fields read off the state. -/
def State.query (s : State) (kind : Byte) (length : Nat) (body : List Byte) (fields : State → List Byte) : State :=
  s.request kind length body fun t => { result := .done, fields := fields t, after := t }

/-- The BAD_FRAME reply's kind and errors (R201, Table 26). -/
def badFrameKind : Byte := 0x80
def framingBody : List Byte := [0]
def checkBody (kind : Byte) : List Byte := [1, kind]
def overrunBody (count : Nat) : List Byte := [2, natByte count]

def badFrame (body : List Byte) : Reply := { kind := badFrameKind, body := body }

/-! ### TXD (R197, R209) -/

/-- The two levels of a serial line: a line at rest has the level of a stop bit, which is that of a data bit 1 (PRESUMED, log
entry 45); a start bit has the other. -/
def stopLevel : Bool := true
def startLevel : Bool := false

/-- A byte on the line, one level for each bit time: the start bit, 8 data bits from the least significant on, the stop bit,
and no parity bit (R197). -/
def lineBits (b : Byte) : List Bool := startLevel :: ((List.range 8).map b.getLsbD ++ [stopLevel])

/-- The levels of the reply being sent, from its first start bit to its last stop bit, its bytes one after the other (R197). -/
def Reply.levels (r : Reply) : List Bool := r.frame.flatMap lineBits

/-- The level of TXD n bit times after the reply in the reply buffer began: the stop level before and after it, with no reply,
and while the part is held in reset or has no power (R197, R209). -/
def State.txd (s : State) (n : Nat) : Bool :=
  match s.link.reply with
  | some r => if s.power = .running then r.levels.getD n stopLevel else stopLevel
  | none => stopLevel

end Sys2Proof.Machine
end

