-- ==== Sys2Proof/Machine/Operands.lean ====
section
/-! DEFINITION. The operands of host requests: the length each body must have (Table 27) and the fields read from it, `none` where a field is refused OUT_OF_RANGE (R202, R210). -/

namespace Sys2Proof.Machine

/-- A value clamped into its range (R202). -/
def clamp (low high n : Nat) : Nat := max low (min high n)

/-! ### SET CLOCK (R176) -/

structure ClockRequest where
  day : Half
  minute : Half
  peakDay : Bool
  rollover : Option Half
  deriving DecidableEq, Repr

/-- Day 2, wall-clock minute 2, peak flag 1, rollover present 1, rollover minute 2. An absent rollover is not checked. -/
def readClock (b : List Byte) : Option ClockRequest :=
  match readMark (byteAt b 4), readMark (byteAt b 5) with
  | some peak, some present =>
    if (halfAt b 2).toNat < 1440 ∧ (present = true → (halfAt b 6).toNat < 1440) then
      some { day := halfAt b 0, minute := halfAt b 2, peakDay := peak, rollover := if present then some (halfAt b 6) else none }
    else none
  | _, _ => none

/-- The service minute of a wall-clock minute (R176). -/
def serviceMinute (wall rollover : Nat) : Nat := if rollover ≤ wall then wall - rollover else wall + 1440 - rollover

/-! ### SET AISLE (R205) -/

structure AisleRequest where
  station : Half
  gate : Byte
  mode : AisleMode
  polarity : PerBeam Polarity
  grantLifetime : Nat
  tearWindow : Nat
  ringTimeout : Nat
  sightingLifetime : Nat
  deriving DecidableEq, Repr

/-- The values as they will be stored, the four clamped ones clamped (Table 25). -/
def readAisle (b : List Byte) : Option AisleRequest :=
  match decodeIn aisleModeList (byteAt b 3), decodeIn polarityList (byteAt b 4), decodeIn polarityList (byteAt b 5),
    decodeIn polarityList (byteAt b 6), decodeIn polarityList (byteAt b 7) with
  | some mode, some p1, some p2, some p3, some p4 =>
    if (halfAt b 0).toNat ≤ 1023 ∧ (byteAt b 2).toNat ≤ 63 then
      some
        { station := halfAt b 0, gate := byteAt b 2, mode := mode
          polarity := { beam1 := p1, beam2 := p2, beam3 := p3, beam4 := p4 }
          grantLifetime := clamp 3 30 (byteAt b 8).toNat
          tearWindow := clamp 10 600 (halfAt b 9).toNat
          ringTimeout := clamp 20 500 (halfAt b 11).toNat
          sightingLifetime := clamp 1 7 (byteAt b 13).toNat }
    else none
  | _, _, _, _, _ => none

/-! ### The fare tables (R58, R59, R61, R62, R63) -/

/-- A LOAD STATIONS body has the length its count asks for. -/
def stationsFit (b : List Byte) : Bool := decide (4 ≤ b.length ∧ b.length = 4 + 3 * (halfAt b 2).toNat)

/-- One entry of LOAD STATIONS; a clear loaded mark stores zone 0 and group 0. -/
def readStation (b : List Byte) (i : Nat) : Option StationEntry :=
  match readMark (byteAt b i) with
  | some loaded =>
    if (byteAt b (i + 1)).toNat ≤ 31 ∧ (byteAt b (i + 2)).toNat ≤ 15 then
      some (if loaded then { loaded := true, zone := byteAt b (i + 1), group := byteAt b (i + 2) }
        else { loaded := false, zone := 0, group := 0 })
    else none
  | none => none

/-- Every item of a list, or none. -/
def allSome {α : Type} : List (Option α) → Option (List α)
  | [] => some []
  | none :: _ => none
  | some x :: rest => (allSome rest).map (x :: ·)

/-- The first station and the entries, if LOAD STATIONS is accepted. -/
def readStations (b : List Byte) : Option (Nat × List StationEntry) :=
  let first := (halfAt b 0).toNat
  let count := (halfAt b 2).toNat
  if first ≤ 1023 ∧ 1 ≤ count ∧ count ≤ 256 ∧ first + count ≤ 1024 then
    (allSome ((List.range count).map fun i => readStation b (4 + 3 * i))).map (first, ·)
  else none

def bandsFit (b : List Byte) : Bool := decide (2 ≤ b.length ∧ b.length = 2 + 32 * (byteAt b 1).toNat)

def readCell (b : List Byte) (i : Nat) : Option Byte := if (byteAt b i).toNat ≤ 15 then some (byteAt b i) else none

/-- The first row and the rows, if LOAD BANDS is accepted. -/
def readBands (b : List Byte) : Option (Nat × List (Vector Byte 32)) :=
  let first := (byteAt b 0).toNat
  let count := (byteAt b 1).toNat
  if 1 ≤ count ∧ count ≤ 16 ∧ first + count ≤ 32 then
    (allSome ((List.range count).map fun r =>
      (allSome ((List.range 32).map fun c => readCell b (2 + 32 * r + c))).map fun cells =>
        Vector.ofFn fun (c : Fin 32) => cells.getD c.val 15)).map (first, ·)
  else none

/-- The six rounding steps (Table 7). -/
def stepAllowed (s : Byte) : Bool := [(1 : Byte), 5, 10, 20, 50, 100].contains s

/-- The values LOAD FARES stores, M and P clamped (Table 7). -/
def readFares (b : List Byte) : Option Fares :=
  let window := fun (i : Nat) => (halfAt b (65 + 4 * i), halfAt b (67 + 4 * i))
  if stepAllowed (byteAt b 0) = true ∧ (byteAt b 3).toNat ≤ 120 ∧ (byteAt b 10).toNat ≤ 60
      ∧ (halfAt b 11).toNat ≤ 10000 ∧ (halfAt b 13).toNat ≤ 10000
      ∧ (List.range 4).all (fun i => decide ((window i).1.toNat ≤ 1440 ∧ (window i).2.toNat ≤ 1440)) = true then
    some
      { step := byteAt b 0, transferCredit := halfAt b 1, transferWindow := byteAt b 3, incompleteFare := halfAt b 4
        overstayLimit := BitVec.ofNat 16 (clamp 30 600 (halfAt b 6).toNat), overstayCharge := halfAt b 8
        grace := byteAt b 10, floor := halfAt b 11, minEntry := halfAt b 13
        base := Vector.ofFn fun (i : Fin 16) => halfAt b (15 + 2 * i.val)
        minTravel := Vector.ofFn fun (i : Fin 16) => byteAt b (47 + i.val)
        peakPercent := BitVec.ofNat 16 (clamp 100 300 (halfAt b 63).toNat)
        windows := Vector.ofFn fun (i : Fin 4) => window i.val }
  else none

/-- The values of LOAD FARES in the order of its body, with the widths of a reply: every number of minutes has two bytes,
W, G and the minimum travel minutes too (R210); an amount or percent has two, as the request gives it (DEDUCED, log entry 14). -/
def Fares.toBytes (f : Fares) : List Byte :=
  f.step :: halfBytes f.transferCredit ++ spanBytes f.transferWindow ++ halfBytes f.incompleteFare
    ++ halfBytes f.overstayLimit ++ halfBytes f.overstayCharge ++ spanBytes f.grace ++ halfBytes f.floor
    ++ halfBytes f.minEntry ++ (f.base.toList.map halfBytes).flatten
    ++ (f.minTravel.toList.map spanBytes).flatten ++ halfBytes f.peakPercent
    ++ (f.windows.toList.map fun w => halfBytes w.1 ++ halfBytes w.2).flatten

def classesFit (b : List Byte) : Bool := decide (1 ≤ b.length ∧ b.length = 1 + 4 * (byteAt b 0).toNat)

/-- The classes a LOAD CLASSES names, in its order. -/
def namedClasses (b : List Byte) : List Byte := (List.range (byteAt b 0).toNat).map fun i => byteAt b (1 + 4 * i)

/-- One entry of LOAD CLASSES; a discount above 100 is stored as 100. -/
def readClass (b : List Byte) (i : Nat) : Option (Byte × ClassEntry) :=
  if (byteAt b i).toNat ≤ 7 then
    some (byteAt b i, { discount := natByte (min 100 (byteAt b (i + 1)).toNat), cap := halfAt b (i + 2) })
  else none

def readClasses (b : List Byte) : Option (List (Byte × ClassEntry)) :=
  let count := (byteAt b 0).toNat
  if 1 ≤ count ∧ count ≤ 8 then allSome ((List.range count).map fun i => readClass b (1 + 4 * i)) else none

inductive ReleaseAction where
  | add
  | remove
  | clear
  deriving DecidableEq, Repr

def releaseActionList : List ReleaseAction := [.add, .remove, .clear]

/-! ### The card check unit (R17, R91, R112, R115) -/

/-- The policies SET POLICY accepts for a kind (Table 15). -/
def policyAccepted : EvidenceKind → Policy → Bool
  | .blocked, .refuse | .forged, .refuse => true
  | .blocked, _ | .forged, _ => false
  | _, _ => true

def readPolicy (b : List Byte) : Option (EvidenceKind × Policy) :=
  match decodeIn evidenceList (byteAt b 0), decodeIn policyList (byteAt b 1) with
  | some k, some p => if policyAccepted k p then some (k, p) else none
  | _, _ => none

structure PushedSighting where
  number : CardNumber
  sighting : Sighting
  deriving DecidableEq, Repr

/-- A pushed sighting has gate unknown and source REMOTE (R91). -/
def readPush (b : List Byte) : Option PushedSighting :=
  match decodeIn directionList (byteAt b 20) with
  | some d =>
    if (halfAt b 14).toNat ≤ 1023 ∧ (halfAt b 18).toNat ≤ 1439 then
      some
        { number := longAt b 0
          sighting :=
            { counter := halfAt b 8, chain := wordAt b 10, station := halfAt b 14, gate := none, day := halfAt b 16
              minute := halfAt b 18, direction := d, source := .remote } }
    else none
  | none => none

/-! ### The watch unit (R128, R129) -/

/-- The six values of a SET WATCH that names a unit. -/
def readWatchUnit (b : List Byte) : Option WatchUnit :=
  match decodeIn watchFieldList (byteAt b 1), decodeIn senseList (byteAt b 18), decodeIn kindFilterList (byteAt b 19) with
  | some field, some sense, some kind =>
    if (byteAt b 20).toNat ≤ 3 then
      some { field := field, low := longAt b 2, high := longAt b 10, sense := sense, kind := kind, group := byteAt b 20 }
    else none
  | _, _, _ => none

/-- The three values of a SET WATCH that names the common settings. -/
def readWatchCommon (b : List Byte) : Option (Combine × WatchAction × Half) :=
  match decodeIn combineList (byteAt b 21), decodeIn watchActionList (byteAt b 22) with
  | some c, some a => some (c, a, halfAt b 23)
  | _, _ => none

/-- The target that names the common settings. -/
def commonTarget : Byte := 255

end Sys2Proof.Machine
end

