-- ==== Sys2Proof/Machine/Sightings.lean ====
section
/-! DEFINITION. The sightings table (sections 4.1 to 4.3), its holds, and the notes that arrivals leave on contexts (R35, R125). -/

namespace Sys2Proof.Machine

def sightingsSize : Nat := 256

def findSighting (l : List SightingEntry) (n : CardNumber) : Option SightingEntry := l.find? fun e => decide (e.number = n)

/-- The entry for its number becomes `e`, at the most recent end of the recency order (R82). -/
def touchSighting (l : List SightingEntry) (e : SightingEntry) : List SightingEntry :=
  l.filter (fun x => decide (x.number ≠ e.number)) ++ [e]

/-- The entry for its number becomes `e` and keeps its place: no event of R82 has happened to it. -/
def replaceSighting (l : List SightingEntry) (e : SightingEntry) : List SightingEntry :=
  l.map fun x => if x.number = e.number then e else x

/-- The table with room for one more entry (R83): the least recently updated entry without a hold goes if there are 256.
`none` when every entry carries a hold (R84). -/
def sightingRoom (l : List SightingEntry) : Option (List SightingEntry) :=
  if l.length < sightingsSize then some l
  else match l.find? fun e => decide (e.hold = .noHold) with
    | some v => some (l.filter fun x => decide (x.number ≠ v.number))
    | none => none

/-- A new entry: sighting part NONE, no hold. -/
def SightingEntry.fresh (n : CardNumber) : SightingEntry :=
  { number := n, sighting := none, hold := .noHold, displaced := none, contestNote := none }

/-- Find the entry for a number, or make room for a new one (R83, R84): the entry, and the table it is to be put into. -/
def findOrCreate (l : List SightingEntry) (n : CardNumber) : Option (SightingEntry × List SightingEntry) :=
  match findSighting l n with
  | some e => some (e, l)
  | none => (sightingRoom l).map fun room => (SightingEntry.fresh n, room)

/-! ### Notes on contexts (R35, R125) -/

/-- The evidence kind a note stands for as a late finding. -/
def Note.kind : Note → EvidenceKind
  | .alert k => k
  | _ => .concurrent

/-- The first conflict to reach a context in SETTLING or CONFIRMING that has found no refusing evidence (R125). -/
def Context.takeLate (c : Context) (k : EvidenceKind) : Context :=
  if c.state.committed ∧ c.refusing = none ∧ c.late = none then { c with late := some k } else c

def Context.receive (c : Context) (n : Note) : Context := { c with notes := c.notes ++ [n] }.takeLate n.kind

def Context.markContested (c : Context) : Context := { c with contested := true }.takeLate .concurrent

/-- A context that counts as holding the entry for a number (R87). -/
def Context.holds (c : Context) (n : CardNumber) : Bool := c.ownHold && c.holdsEntry && decide (c.number = n)

/-- The holding contexts of a number receive a note. -/
def State.noteHolders (s : State) (n : CardNumber) (note : Note) : State :=
  let give := fun (c : Context) => if c.holds n then c.receive note else c
  { s with contexts := { street := give s.contexts.street, paid := give s.contexts.paid } }

/-! ### Own holds (R87 to R89) -/

/-- A context asks for an own hold for its card number (R87; R84 when no entry can be made). -/
def State.setOwnHold (s : State) (f : Face) : State :=
  let c := s.context f
  let mine := { c with ownHold := true, holdsEntry := true }
  match findOrCreate s.sightings c.number with
  | none => s.setContext f { c with ownHold := true, holdsEntry := false, contested := true }
  | some (e, l) =>
    let taken := { e with hold := .own f, displaced := none, contestNote := none }
    match e.hold with
    | .own g =>
      if g = f then s.setContext f mine
      else (s.setContext f mine.markContested).setContext f.other (s.context f.other).markContested
    | .peer o t =>
      if reached s.now t peerHoldLife then { s.setContext f mine with sightings := touchSighting l taken }
      else
        { s.setContext f (mine.receive (.contest o)) with
          sightings := touchSighting l { taken with displaced := some (o, t), contestNote := some o } }
    | .noHold => { s.setContext f mine with sightings := touchSighting l taken }

/-- The entry once its own hold has ended with no other face to pass it to (R89): a displaced hold whose expiry has not
passed is restored, else the hold becomes none. -/
def SightingEntry.endOwn (e : SightingEntry) (now : Word) : SightingEntry :=
  let cleared := { e with hold := .noHold, displaced := none, contestNote := none }
  match e.displaced with
  | some (g, t) => if reached now t peerHoldLife then cleared else { cleared with hold := .peer g t }
  | none => cleared

/-- A context's own hold is released (R89), if its own-hold mark is set (R44). -/
def State.releaseOwnHold (s : State) (f : Face) : State :=
  let c := s.context f
  let s' := s.setContext f { c with ownHold := false, holdsEntry := false }
  if c.ownHold && c.holdsEntry then
    match findSighting s.sightings c.number with
    | some e =>
      if e.hold = .own f then
        if (s.context f.other).holds c.number then
          { s' with sightings := touchSighting s.sightings { e with hold := .own f.other } }
        else { s' with sightings := touchSighting s.sightings (e.endOwn s.now) }
      else s'
    | none => s'
  else s'

/-! ### LOCAL sightings (R90) -/

/-- A LOCAL sighting of this moment at this part. -/
def State.localSighting (s : State) (counter : Half) (chain : Word) (d : Direction) : Sighting :=
  { counter := counter, chain := chain, station := s.station, gate := some s.gate, day := s.today, minute := s.minuteNow
    direction := d, source := .localWrite }

/-- Record a sighting part, whatever was there before (R90); not recorded when no entry can be made (R84). -/
def State.recordSighting (s : State) (n : CardNumber) (x : Sighting) : State :=
  match findOrCreate s.sightings n with
  | some (e, l) => { s with sightings := touchSighting l { e with sighting := some x } }
  | none => s

/-- At a rollover, entries with a sighting part, no hold, and a day more than the lifetime before the new today are
removed (R86). -/
def ageSightings (today : Nat) (lifetime : Nat) (l : List SightingEntry) : List SightingEntry :=
  l.filter fun e =>
    match e.sighting with
    | some x => !(decide (e.hold = .noHold) && decide (x.day.toNat + lifetime < today))
    | none => true

end Sys2Proof.Machine
end

