-- ==== Sys2Proof/Machine/RingOps.lean ====
section
/-! DEFINITION. The ring unit's shared operations: the ring-out queue, what the part originates and forwards (R93 to R95). -/

namespace Sys2Proof.Machine

def ringQueueSize : Nat := 32

/-- The ring-out queue has room (R94). -/
def State.ringRoom (s : State) : Bool := decide (s.ring.queue.length < ringQueueSize)

/-- A message joins the ring-out queue at its tail, or is discarded when the queue holds 32 (R94, R95). -/
def State.send (s : State) (m : RingMessage) : State :=
  if s.ringRoom then s.setRing { s.ring with queue := s.ring.queue ++ [m] } else s

/-- How a mark byte of a ring message is read. R211 does not make a message bad for a mark byte that is neither 0 nor 1, and
the manual does not say how it is read: a free value (log entry 2). -/
def ringMark (b : Byte) : Bool :=
  match readMark b with
  | some m => m
  | none => Config.unlistedMark b

/-- How a direction byte of a ring message is read, likewise. -/
def ringDirection (b : Byte) : Direction :=
  match decodeIn directionList b with
  | some d => d
  | none => if Config.unlistedExit b then .exit else .entry

/-- What ring-out sends: the bytes of the message at the head of its queue. It rests idle with an empty queue, and while the
part is held in reset or has no power (R94, R209). -/
def State.ringOut (s : State) : Option (List Byte) :=
  if s.power = .running then s.ring.queue.head?.map ringBytes else none

/-- The contest bytes of a HOLD that no part has contested, and those of one that the part with gate `g` contests (R96). -/
def uncontested : HoldContest := { mark := markByte false, gate := 0 }

def contestedAt (g : Byte) : HoldContest := { mark := markByte true, gate := g }

/-- RELEASE COMMITTED with the fields of a sighting (R42, R53). -/
def State.sendCommitted (s : State) (n : CardNumber) (x : Sighting) : State :=
  s.send (.release s.gate 0 n (.committed x.counter x.chain x.station x.day x.minute (codeIn directionList x.direction)))

/-- RELEASE DROPPED for a context whose HOLD went out (R44, R47). -/
def State.sendDropped (s : State) (f : Face) : State :=
  if (s.context f).holdSent then s.send (.release s.gate 0 (s.context f).number (.dropped 0)) else s

/-- The ring becomes ISOLATED at a ring timeout, if it was UP (R104). -/
def State.isolate (s : State) : State :=
  if s.ring.state = .up then
    (s.setRing { s.ring with state := .isolated, censusStart := some s.now }).raise .ring
  else s

/-- A CENSUS is originated, and the next is due 2 s later (R105). -/
def State.sendCensus (s : State) : State :=
  let s' := s.send (.census s.gate 0)
  s'.setRing { s'.ring with censusStart := some s.now }

/-- A CENSUS has come home (R102). Its hop count is taken whatever it is, so that the size may pass R103's 64 (DESIGN CHOICE, log entry
53). -/
def State.censusHome (s : State) (hop : Byte) : State :=
  let s' := s.setRing { s.ring with state := .up, size := hop.toNat + 1, censusStart := none }
  if s.ring.state = .isolated then s'.raise .ring else s'

end Sys2Proof.Machine
end

