-- ==== Sys2Proof/Machine/AisleOps.lean ====
section
/-! DEFINITION. The aisle unit's shared operations: authorization queues, direction lock, leaf, crossings, run ends, alarms and counters (section 7). -/

namespace Sys2Proof.Machine

/-! ### Beams and the clear aisle -/

/-- A stuck beam counts as clear (R142). -/
def BeamInput.countsBlocked (b : BeamInput) : Bool := b.blocked && !b.stuck

/-- Every beam counts as clear (R143). -/
def Aisle.clear (a : Aisle) : Bool :=
  !(a.beams.beam1.countsBlocked || a.beams.beam2.countsBlocked || a.beams.beam3.countsBlocked || a.beams.beam4.countsBlocked)

/-- The input level read through the polarity (R140). -/
def BeamInput.readsBlocked (b : BeamInput) : Bool :=
  match b.polarity with
  | .blockedHigh => b.high
  | .blockedLow => !b.high

/-- The level is read: a difference from the accepted state begins a pending change now, or goes on with the one that is
pending; agreement drops it (R140, R141). -/
def BeamInput.read (b : BeamInput) (now : Word) : BeamInput :=
  { b with pendingSince := if b.readsBlocked = b.blocked then none else some (b.pendingSince.getD now) }

/-- A debounced line's level is read (R157, R170). -/
def LineInput.read (l : LineInput) (level : Bool) (now : Word) : LineInput :=
  { l with level := level, pendingSince := if level = l.accepted then none else some (l.pendingSince.getD now) }

/-! ### The queues and the lock -/

def queueSize : Nat := 3

def QueueEntry.isGranted (e : QueueEntry) : Bool :=
  match e.state with
  | .granted _ _ _ _ => true
  | .reserved => false

/-- The sequence of a GRANTED entry's transaction. -/
def QueueEntry.sequence (e : QueueEntry) : Option Word :=
  match e.state with
  | .granted q _ _ _ => some q
  | .reserved => none

def QueueEntry.isDeferred (e : QueueEntry) : Bool :=
  match e.state with
  | .granted _ _ _ d => d
  | .reserved => false

/-- A GRANTED entry is queued in either queue. -/
def Aisle.anyGranted (a : Aisle) : Bool := (a.queues.entry ++ a.queues.exit).any QueueEntry.isGranted

def lockOf : Direction → Lock
  | .entry => .entry
  | .exit => .exit

/-- The release check of the direction lock (R156). -/
def Aisle.checkLock (a : Aisle) : Aisle :=
  if a.mode = .bidirectional ∧ a.queues.entry = [] ∧ a.queues.exit = [] ∧ a.clear = true then { a with lock := .unlocked } else a

def State.checkLock (s : State) : State := s.setAisle s.aisle.checkLock

/-! ### The leaf (R157 to R163) -/

/-- The close delay runs while the leaf is OPEN, no grant is queued and the aisle is clear; it starts at `t` when the last
of the three becomes true, and is abandoned when one stops being true (R160). -/
def Aisle.refreshClose (a : Aisle) (t : Word) : Aisle :=
  if a.leaf = .opened ∧ a.anyGranted = false ∧ a.clear = true then { a with closeStart := some (a.closeStart.getD t) }
  else { a with closeStart := none }

/-- The leaf enters OPEN. -/
def Aisle.reachOpen (a : Aisle) (now : Word) : Aisle :=
  { a with leaf := .opened, travelStart := none, closeStart := none }.refreshClose now

/-- The leaf enters OPENING with a fresh travel timer, and passes on to OPEN when the open limit is asserted (R157). -/
def Aisle.startOpening (a : Aisle) (now : Word) : Aisle :=
  if a.openLimit.accepted then a.reachOpen now
  else { a with leaf := .opening, travelStart := some now, closeStart := none }

/-- The leaf enters CLOSED, and begins opening when a grant is already queued (R158). -/
def Aisle.reachClosed (a : Aisle) (now : Word) : Aisle :=
  let a' := { a with leaf := .closed, travelStart := none, closeStart := none }
  if a'.anyGranted then a'.startOpening now else a'

/-- The leaf enters CLOSING with a fresh travel timer, and passes on to CLOSED when the closed limit is asserted (R157). -/
def Aisle.startClosing (a : Aisle) (now : Word) : Aisle :=
  if a.closedLimit.accepted then a.reachClosed now
  else { a with leaf := .closing, travelStart := some now, closeStart := none }

/-- The leaf enters FREE from any state (R163). -/
def Aisle.setFree (a : Aisle) : Aisle := { a with leaf := .free, travelStart := none, closeStart := none }

/-- The leaf enters JAMMED: the drive is off and the travel timer is stopped (R162). -/
def Aisle.jam (a : Aisle) : Aisle := { a with leaf := .jammed, travelStart := none, closeStart := none }

/-- The leaf leaves FREE at a RESUME (R163). -/
def Aisle.leaveFree (a : Aisle) (now : Word) : Aisle := if a.clear then a.startClosing now else a.startOpening now

/-! ### Counters (R166) -/

def State.count (s : State) (d : Direction) (g : PassageCounters → PassageCounters) : State :=
  s.setAisle { s.aisle with counters := s.aisle.counters.set d (g (s.aisle.counters.get d)) }

/-! ### Reservations and grants (R27, R151, R152) -/

/-- Why the aisle unit refuses a reservation, if it does (R27). -/
def Aisle.refuses (a : Aisle) (d : Direction) : Option Reason :=
  if a.leaf = .jammed then some .aisleFault
  else if a.mode = .bidirectional ∧ a.lock ≠ .unlocked ∧ a.lock ≠ lockOf d then some .aisleBusy
  else if queueSize ≤ (a.queues.get d).length then some .queueFull
  else none

/-- A RESERVED entry joins the tail of its queue, and the lock is taken if it was NONE (R27). -/
def State.reserve (s : State) (f : Face) : State :=
  let c := s.context f
  let d := f.direction
  let s' := s.setAisle
    { s.aisle with
      queues := s.aisle.queues.set d (s.aisle.queues.get d ++ [{ face := f, number := c.number, state := .reserved }])
      lock := if s.aisle.lock = .unlocked then lockOf d else s.aisle.lock }
  s'.setContext f { c with reservation := .held }

/-- The RESERVED entry of a face's context. -/
def QueueEntry.isReservedBy (f : Face) (e : QueueEntry) : Bool := decide (e.face = f ∧ e.state = .reserved)

/-- The RESERVED entry of a face leaves its queue, and the lock is checked (R152). -/
def State.dropReserved (s : State) (f : Face) : State :=
  let d := f.direction
  (s.setAisle { s.aisle with
    queues := s.aisle.queues.set d ((s.aisle.queues.get d).eraseP (QueueEntry.isReservedBy f)) }).checkLock

/-- A transaction ends with its reservation held but not granted (R152). -/
def State.dropReservation (s : State) (f : Face) : State :=
  if (s.context f).reservation = .held then
    (s.dropReserved f).setContext f { s.context f with reservation := .noPlace }
  else s

/-- The first entry that satisfies p becomes x of it. -/
def updateFirst {α : Type} (p : α → Bool) (x : α → α) : List α → List α
  | [] => []
  | e :: es => if p e then x e :: es else e :: updateFirst p x es

/-- The grant of a held reservation (R151): the entry keeps its place; the leaf begins opening, or reverses. -/
def State.grant (s : State) (f : Face) (sequence : Word) : State :=
  if (s.context f).reservation = .held then
    let d := f.direction
    let q := updateFirst (QueueEntry.isReservedBy f)
      (fun e => { e with state := .granted sequence s.now s.grantLifetimeMs false }) (s.aisle.queues.get d)
    let a : Aisle := { s.aisle with queues := s.aisle.queues.set d q }
    let a' := if a.leaf = .closed ∨ a.leaf = .closing then a.startOpening s.now else a.refreshClose s.now
    (s.setAisle a').count d fun k => { k with granted := k.granted + 1 }
  else s

/-- The PASSAGE record that ends a GRANTED entry (R153 to R155). -/
def State.recordPassage (s : State) (o : PassageOutcome) (e : QueueEntry) : State :=
  s.append (.passage o) s.stamp e.face { RecordFields.blank with number := some e.number, reference := e.sequence }

/-- Every GRANTED entry is removed from both queues with a PASSAGE CANCELLED record, in queue order, the entry queue
first (R155, R184). -/
def State.cancelGrants (s : State) : State :=
  let gone := (s.aisle.queues.entry ++ s.aisle.queues.exit).filter QueueEntry.isGranted
  let keep := fun (q : List QueueEntry) => q.filter fun e => !e.isGranted
  let s' := s.setAisle { s.aisle with
    queues := { entry := keep s.aisle.queues.entry, exit := keep s.aisle.queues.exit } }
  gone.foldl (fun t e => t.recordPassage .cancelled e) s'

/-- A GRANTED entry that has been taken out of its queue ends EXPIRED: its record and its count (R154). -/
def State.recordExpired (s : State) (d : Direction) (e : QueueEntry) : State :=
  (s.recordPassage .expired e).count d fun k => { k with expired := k.expired + 1 }

/-! ### Crossings (R145 to R148, R153) -/

/-- The direction a run counts under: an UNKNOWN run's is its side's (R148, R166). -/
def Run.countsUnder (r : Run) : Direction :=
  match r.direction with
  | .entry => .entry
  | .exit => .exit
  | .unknown => r.side.direction

/-- Crossings are classified only in IN_SERVICE and CLOSED (R147). -/
def State.classifies (s : State) : Bool := decide (s.service.state = .inService ∨ s.service.state = .closed)

/-- The counter a passage alarm adds to (R148). -/
def PassageCounters.alarm (k : PassageCounters) : PassageOutcome → PassageCounters
  | .intrusion => { k with intrusion := k.intrusion + 1 }
  | .tailgate => { k with tailgate := k.tailgate + 1 }
  | .contraflow => { k with contraflow := k.contraflow + 1 }
  | _ => k

/-- A passage alarm raised by the run in progress (R148). -/
def State.passageAlarm (s : State) (r : Run) (o : PassageOutcome) : State :=
  let s1 := (s.count r.countsUnder fun k => k.alarm o).raise .alarm
  let s2 := s1.setAisle { s1.aisle with passageAlarm := .runInProgress, run := some { r with alarmed := true } }.cutTones
  s2.appendSpare (.passage o) r.side { RecordFields.blank with reference := r.lastConsumed }

/-- A crossing consumes a GRANTED entry (R153). -/
def State.consume (s : State) (r : Run) (d : Direction) (e : QueueEntry) : State :=
  let s1 := s.setAisle { s.aisle with
    queues := s.aisle.queues.set d ((s.aisle.queues.get d).eraseP QueueEntry.isGranted)
    run := some { r with lastConsumed := e.sequence } }
  let s2 := (s1.recordPassage .used e).count d fun k => { k with used := k.used + 1 }
  s2.checkLock

/-- What an entry or exit run's crossing is without a grant (R147). `r` counts this crossing. -/
def crossingWithoutGrant (l : Lock) (d : Direction) (r : Run) : PassageOutcome :=
  if l ≠ .unlocked ∧ l ≠ lockOf d then .contraflow
  else if r.crossings = 1 then .intrusion
  else .tailgate

/-- A crossing is classified in the event that recognised it (R147). `r` is the run, this crossing counted. -/
def State.classify (s : State) (r : Run) : State :=
  if s.classifies then
    match r.direction with
    | .unknown => s.passageAlarm r .intrusion
    | .entry =>
      match s.aisle.queues.entry.find? QueueEntry.isGranted with
      | some e => s.consume r .entry e
      | none => s.passageAlarm r (crossingWithoutGrant s.aisle.lock .entry r)
    | .exit =>
      match s.aisle.queues.exit.find? QueueEntry.isGranted with
      | some e => s.consume r .exit e
      | none => s.passageAlarm r (crossingWithoutGrant s.aisle.lock .exit r)
  else s

/-- The direction of a run by the beam whose event began it (R144). -/
def runDirectionOf : Beam → RunDirection
  | .beam1 => .entry
  | .beam4 => .exit
  | .beam2 => .unknown
  | .beam3 => .unknown

/-- The side of a run by the beam whose event began it (R144). -/
def runSideOf : Beam → Face
  | .beam1 => .street
  | .beam2 => .street
  | .beam3 => .paid
  | .beam4 => .paid

/-- A run that begins at a beam (R143, R144). Its marks are those of the beams as they then count. -/
def Aisle.newRun (a : Aisle) (b : Beam) : Run :=
  { direction := runDirectionOf b, side := runSideOf b, crossings := 0, cleared2 := !a.beams.beam2.countsBlocked
    cleared3 := !a.beams.beam3.countsBlocked, lastConsumed := none, alarmed := false }

/-- A crossing is recognised at the event in which a beam became blocked (R145, R146). -/
def Aisle.crosses (a : Aisle) (r : Run) (b : Beam) : Bool :=
  let b2 := a.beams.beam2.countsBlocked
  let b3 := a.beams.beam3.countsBlocked
  match r.direction, b with
  | .entry, .beam3 => b2 && (decide (r.crossings = 0) || r.cleared2)
  | .entry, .beam2 => b3 && r.cleared2
  | .exit, .beam2 => b3 && (decide (r.crossings = 0) || r.cleared3)
  | .exit, .beam3 => b2 && r.cleared3
  | .unknown, .beam1 => b2
  | .unknown, .beam2 => b3
  | .unknown, .beam3 => b2
  | .unknown, .beam4 => b3
  | _, _ => false

/-- The run after one more crossing: both "become clear" marks are cleared (R145). -/
def Run.crossed (r : Run) : Run := { r with crossings := r.crossings + 1, cleared2 := false, cleared3 := false }

/-- The run after a beam has become clear, or counts as clear from now on. -/
def Run.beamCleared (r : Run) : Beam → Run
  | .beam2 => { r with cleared2 := true }
  | .beam3 => { r with cleared3 := true }
  | _ => r

/-! ### The end of a run (R149) -/

/-- Step 1: a run with no crossing is withdrawn. -/
def State.withdrawRun (s : State) (r : Run) : State :=
  if r.crossings = 0 ∧ s.classifies = true then s.count r.countsUnder fun k => { k with withdrawn := k.withdrawn + 1 } else s

/-- Step 3: the deferred entries of one direction are removed as EXPIRED, in queue order. -/
def State.expireDeferred (s : State) (d : Direction) : State :=
  let q := s.aisle.queues.get d
  let s' := s.setAisle { s.aisle with queues := s.aisle.queues.set d (q.filter fun e => !e.isDeferred) }
  (q.filter QueueEntry.isDeferred).foldl (fun t e => t.recordExpired d e) s'

/-- The run in progress ends, at the time `t` that the ending event carried (R149). -/
def State.endRun (s : State) (t : Word) : State :=
  match s.aisle.run with
  | none => s
  | some r =>
    let s1 := s.withdrawRun r
    let s2 := if r.alarmed then s1.setAisle { s1.aisle with passageAlarm := .since t } else s1
    let s3 := match r.direction with
      | .entry => s2.expireDeferred .entry
      | .exit => s2.expireDeferred .exit
      | .unknown => s2
    let s4 := (s3.setAisle { s3.aisle with run := none }).checkLock
    s4.setAisle (s4.aisle.refreshClose t)

/-! ### Beam events (R141 to R146, R161) -/

/-- The event "beam b became blocked", carrying time `t`. -/
def State.beamBlocked (s : State) (b : Beam) (t : Word) : State :=
  let beam := { s.aisle.beams.get b with blocked := true, pendingSince := none, blockedSince := t }
  let a := { s.aisle with beams := s.aisle.beams.set b beam }
  let run := if s.aisle.clear then some (a.newRun b) else s.aisle.run
  let s1 := match run with
    | none => s.setAisle a
    | some r =>
      if a.crosses r b then (s.setAisle { a with run := some r.crossed }).classify r.crossed
      else s.setAisle { a with run := some r }
  s1.setAisle (if s1.aisle.leaf = .closing then s1.aisle.startOpening s1.now else s1.aisle.refreshClose s1.now)

/-- The event "beam b became clear", carrying time `t`. -/
def State.beamCleared (s : State) (b : Beam) (t : Word) : State :=
  let beam := { s.aisle.beams.get b with blocked := false, pendingSince := none }
  let a := { s.aisle with
    beams := s.aisle.beams.set b beam
    run := s.aisle.run.map fun r => r.beamCleared b }
  if a.clear then (s.setAisle a).endRun t else s.setAisle a

/-- The acceptance that a stuck beam is clear again: it clears the mark and is no beam event (R142). -/
def State.unstick (s : State) (b : Beam) : State :=
  let beam := { s.aisle.beams.get b with blocked := false, stuck := false, pendingSince := none }
  s.setAisle { s.aisle with beams := s.aisle.beams.set b beam }

/-! ### The watch alarm (R138) -/

/-- A watch alarm starts, or starts afresh. -/
def State.startWatchAlarm (s : State) : State := s.setAisle { s.aisle with watchAlarm := some s.now }.cutTones

end Sys2Proof.Machine
end

