-- ==== Sys2Proof/Machine/FaceOps.lean ====
section
/-! DEFINITION. The reader faces' shared operations: field requests, polls, front-end responses, and what a face does when its context is done (sections 1.1 to 1.3). -/

namespace Sys2Proof.Machine

/-- A context waiting in REMOVAL_WAIT or REFUSED_SHOWN receives card removed and enters IDLE (R49). -/
def State.cardRemoved (s : State) (f : Face) : State :=
  if (s.context f).state.waiting then s.setContext f Context.idle else s

/-- The field is turned off and the face enters OFF (R3, R6). -/
def FaceUnit.turnOff (u : FaceUnit) : FaceUnit :=
  { u with state := .off, settleStart := none, pollStart := none, poll := none, exchange := none, unanswered := 0
           offPending := false, lastOutcome := .noOutcome }

/-- The field is turned on and the settling time starts (R2). -/
def FaceUnit.startSettling (u : FaceUnit) (now : Word) : FaceUnit :=
  { u with state := .settling, settleStart := some now, pollStart := none, poll := none, exchange := none, missCount := 0
           offPending := false }

/-- A field-on request (R2, R3). Only the one of an accepted RESUME moves a DISABLED face (R9). -/
def State.fieldOnRequest (s : State) (f : Face) (fromResume : Bool) : State :=
  let u := s.face f
  match u.state with
  | .off => s.setFace f (u.startSettling s.now)
  | .disabled => if fromResume then s.setFace f (u.startSettling s.now) else s
  | .serving => s.setFace f { u with offPending := false }
  | .settling | .polling | .watching => s

/-- A field-off request (R3). -/
def State.fieldOffRequest (s : State) (f : Face) : State :=
  let u := s.face f
  match u.state with
  | .settling | .polling => s.setFace f u.turnOff
  | .watching => (s.setFace f u.turnOff).cardRemoved f
  | .serving => s.setFace f { u with offPending := true }
  | .off | .disabled => s

/-- A poll begins with its first WAKE; the next is due 100 ms after this start (R4). -/
def FaceUnit.startPoll (u : FaceUnit) (now : Word) : FaceUnit :=
  { u with pollStart := some now, poll := some { second := false, sentAt := now, responded := false } }

/-- A front-end response of any kind sets the miss count to 0 and marks the poll in progress as responded to (R8). -/
def FaceUnit.responded (u : FaceUnit) : FaceUnit :=
  { u with missCount := 0, poll := u.poll.map fun p => { p with responded := true } }

/-- A face whose field is off has no card command out, so nothing there is a response to one. -/
def State.responded (s : State) (f : Face) : State :=
  if (s.face f).state = .off ∨ (s.face f).state = .disabled then s else s.setFace f (s.face f).responded

/-- What the face does when its context has reached IDLE, REMOVAL_WAIT or REFUSED_SHOWN while it was SERVING (R3, R7): a
pending field-off is carried out, else it polls or watches, its first poll 100 ms later. -/
def State.leaveServing (s : State) (f : Face) : State :=
  let u := s.face f
  if u.state = .serving then
    if u.offPending then (s.setFace f u.turnOff).cardRemoved f
    else if (s.context f).state = .idle then
      s.setFace f { u with state := .polling, exchange := none, poll := none, pollStart := some s.now }
    else
      s.setFace f { u with state := .watching, exchange := none, poll := none, pollStart := some s.now, unanswered := 0 }
  else s.closeExchange f

/-- A context is done: its state and indication, the tone its outcome asks for, and the face's next state (R23, R44). -/
def State.conclude (s : State) (f : Face) (st : CtxState) (ind : Indication) (tone : Option ShortTone) : State :=
  let c := if st = .idle then Context.idle else { s.context f with state := st, indication := ind }
  let s1 := s.setContext f c
  let s2 := match tone with
    | some t => s1.askTone f t
    | none => s1
  s2.leaveServing f

/-- A poll that ends as a collision (R6, R7). -/
def State.pollCollision (s : State) (f : Face) : State :=
  let u := s.face f
  match u.state with
  | .polling =>
    (s.setFace f { u with state := .watching, poll := none, unanswered := 0, lastOutcome := .twoCards }).askTone f .refuse
  | _ => s.setFace f { u with poll := none, unanswered := 0 }

/-- A poll that ends answered (R5, R7): in POLLING the context takes card present and asks for NAME (R24). -/
def State.pollAnswered (s : State) (f : Face) : State :=
  let u := s.face f
  match u.state with
  | .polling =>
    let s1 := s.setFace f { u with state := .serving, poll := none, pollStart := none, offPending := false }
    (s1.setContext f { Context.idle with state := .naming }).ask f .name
  | _ => s.setFace f { u with poll := none, unanswered := 0 }

end Sys2Proof.Machine
end

