-- ==== Sys2Proof/Machine/Fare.lean ====
section
/-! DEFINITION. The fare unit: zones, bands, the exit fare stage by stage, the entry charges (sections 3.1 to 3.5). -/

namespace Sys2Proof.Machine

/-! ### Tables (R57 to R60) -/

/-- A station's table entry. A recorded station above 1 023, which a RELEASE COMMITTED of the ring can bring, has none, and is read as
an unloaded one (DEDUCED, log entry 48). -/
def FareUnit.stationEntry (u : FareUnit) (n : Half) : StationEntry :=
  u.stations.getD n.toNat { loaded := false, zone := 0, group := 0 }

/-- The zone as the fare unit sees it (R57). -/
def FareUnit.zone (u : FareUnit) (n : Half) : Option Byte :=
  if (u.stationEntry n).loaded then some (u.stationEntry n).zone else none

/-- The transfer group as the fare unit sees it (R57). -/
def FareUnit.group (u : FareUnit) (n : Half) : Byte :=
  if (u.stationEntry n).loaded then (u.stationEntry n).group else 0

/-- A cell of the band matrix (R59). -/
def FareUnit.cell (u : FareUnit) (row column : Byte) : Byte :=
  (u.bands.getD row.toNat (.replicate 32 15)).getD column.toNat 15

/-- The band of a journey (R60). -/
def FareUnit.band (u : FareUnit) (a b : Half) : Byte :=
  match u.zone a, u.zone b with
  | some za, some zb => u.cell za zb
  | _, _ => 15

/-- The minimum travel minutes of a journey (R60). -/
def FareUnit.minimumTravel (u : FareUnit) (a b : Half) : Nat :=
  (u.fares.minTravel.getD (u.band a b).toNat 0).toNat

def FareUnit.baseFare (u : FareUnit) (band : Byte) : Nat := (u.fares.base.getD band.toNat 0).toNat

def FareUnit.classEntry (u : FareUnit) (cls : Byte) : ClassEntry :=
  u.classes.getD cls.toNat { discount := 0, cap := 0 }

/-! ### The fare request (R66) -/

/-- What a fare request reads in its event beside the image and the tables (R66, R80). -/
structure FareClock where
  today : Half
  now : Half
  peakDay : Bool
  station : Half
  gate : Byte
  deriving DecidableEq, Repr

/-- D, the day spend for today. -/
def spendToday (k : FareClock) (c : CardImage) : Nat := if c.spendDay = k.today then c.daySpend.toNat else 0

/-- A stale entry record: its day is below today − 1. -/
def stale (k : FareClock) (e : EntryRecord) : Bool := decide ((e.day.toNat : Int) < (k.today.toNat : Int) - 1)

/-- JM, the journey minutes, 0 when they come out below 0. -/
def journeyMinutes (k : FareClock) (e : EntryRecord) : Nat :=
  (((k.today.toNat : Int) - e.day.toNat) * 1440 + ((k.now.toNat : Int) - e.minute.toNat)).toNat

/-- A zone lies from the pass's zone low to its zone high. -/
def Pass.coversZone (p : Pass) : Option Byte → Bool
  | some z => decide (p.zoneLow.toNat ≤ z.toNat ∧ z.toNat ≤ p.zoneHigh.toNat)
  | none => false

/-- The pass is valid today and covers every one of the zones (R69, R76). -/
def passCovers (k : FareClock) (p : Option Pass) (zones : List (Option Byte)) : Bool :=
  match p with
  | some q => decide (k.today.toNat ≤ q.lastDay.toNat) && zones.all q.coversZone
  | none => false

/-! ### The exit fare (R67 to R74) -/

/-- An enabled window [start, end) contains the minute (R61); a window whose start is not below its end contains none. -/
def inWindow (m : Nat) (w : Half × Half) : Bool := decide (w.1.toNat ≤ m ∧ m < w.2.toNat)

/-- P′, the peak percent of this journey (R70). -/
def peakPercent (u : FareUnit) (k : FareClock) (e : EntryRecord) : Nat :=
  if e.day = k.today ∧ k.peakDay = true ∧ u.fares.windows.toList.any (inWindow e.minute.toNat) = true then
    u.fares.peakPercent.toNat
  else 100

/-- f1: base fare, peak percent and concession with a single rounding to the step (R70). -/
def roundedFare (base peak discount step : Nat) : Nat :=
  ((base * peak * (100 - discount) + step * 5000) / (step * 10000)) * step

/-- f2: f1 less the transfer credit when the entry record carries the mark (R70). -/
def afterTransfer (credit : Nat) (e : EntryRecord) (f1 : Nat) : Nat := if e.transferMark then f1 - credit else f1

/-- f3: the fare within what remains of the daily cap; C = 0 is no cap (R71). -/
def afterCap (cap spend f2 : Nat) : Nat := if cap = 0 then f2 else min f2 (cap - spend)

/-- f4: the overstay charge (R72). -/
def afterOverstay (u : FareUnit) (jm f3 : Nat) : Nat :=
  if u.fares.overstayLimit.toNat < jm then f3 + u.fares.overstayCharge.toNat else f3

/-- f4 of stages 0 to 6, and the new day spend when stage 5 was reached (Table 8). -/
def exitStages (u : FareUnit) (k : FareClock) (c : CardImage) : Nat × Option Nat :=
  match c.entry with
  | none => (u.fares.incompleteFare.toNat, none)
  | some e =>
    if stale k e then (u.fares.incompleteFare.toNat, none)
    else
      let jm := journeyMinutes k e
      if e.station = k.station ∧ jm ≤ u.fares.grace.toNat then (0, none)
      else
        let b := u.baseFare (u.band e.station k.station)
        if passCovers k c.pass [u.zone e.station, u.zone k.station] then (afterOverstay u jm 0, none)
        else
          let d := u.classEntry c.cls
          let f1 := roundedFare b (peakPercent u k e) d.discount.toNat u.fares.step.toNat
          let f3 := afterCap d.cap.toNat (spendToday k c) (afterTransfer u.fares.transferCredit.toNat e f1)
          (afterOverstay u jm f3, some (min 65535 (spendToday k c + f3)))

/-- Stage 7: saturation, then the overdraft floor; `none` is INSUFFICIENT (R73). -/
def settleFare (u : FareUnit) (balance : Word) (f4 : Nat) : Option (Half × Word) :=
  let f := min f4 65535
  let after := balance.toInt - f
  if after < -(u.fares.floor.toNat : Int) then none else some (BitVec.ofNat 16 f, BitVec.ofInt 32 after)

/-- The exit fare, or INSUFFICIENT (R67 to R74). -/
def exitFare (u : FareUnit) (k : FareClock) (c : CardImage) : Except Reason FareResult :=
  let stages := exitStages u k c
  match settleFare u c.balance stages.1 with
  | none => .error .insufficient
  | some (f, after) =>
    .ok { fare := f, balanceAfter := after
          dayRecord := stages.2.map fun spend => (k.today, BitVec.ofNat 16 spend)
          entry := none
          journey := some { station := k.station, day := k.today, minute := k.now, fare := f }
          entryStation := c.entry.map (·.station) }

/-! ### The entry charges (R75 to R78) -/

/-- q: Q for an open entry record that is not released, else 0 (R75). -/
def entryCharge (u : FareUnit) (k : FareClock) (c : CardImage) : Half :=
  match c.entry with
  | none => 0
  | some e =>
    if stale k e then 0
    else if u.released.contains (e.station, e.day) then 0
    else u.fares.incompleteFare

/-- The transfer-eligible mark of the new entry record (R77). -/
def transferEligible (u : FareUnit) (k : FareClock) (c : CardImage) : Bool :=
  match c.history with
  | [] => false
  | j :: _ =>
    decide (u.group k.station ≠ 0) && decide (u.group j.station = u.group k.station) && decide (j.day = k.today)
      && decide (j.minute.toNat ≤ k.now.toNat ∧ k.now.toNat - j.minute.toNat ≤ u.fares.transferWindow.toNat)

/-- The entry charges, or a refusal (R76, R78). -/
def entryFare (u : FareUnit) (k : FareClock) (c : CardImage) : Except Reason FareResult :=
  let q := entryCharge u k c
  let after := c.balance.toInt - q.toNat
  if after < -(u.fares.floor.toNat : Int) then .error .insufficient
  else if passCovers k c.pass [u.zone k.station] = false ∧ after < (u.fares.minEntry.toNat : Int) then
    .error .belowEntryMinimum
  else
    .ok { fare := q, balanceAfter := BitVec.ofInt 32 after, dayRecord := none
          entry := some { station := k.station, gate := k.gate, day := k.today, minute := k.now
                          transferMark := transferEligible u k c }
          journey := none, entryStation := some k.station }

/-- The paid face asks for an exit fare, the street face for the entry charges (section 3.2). -/
def fareRequest (u : FareUnit) (k : FareClock) (f : Face) (c : CardImage) : Except Reason FareResult :=
  match f with
  | .paid => exitFare u k c
  | .street => entryFare u k c

/-- The image with the fields a fare result names (Tables 9 and 10); counter and chain word are set beside it. -/
def CardImage.withFare (c : CardImage) (r : FareResult) : CardImage :=
  { c with
    balance := r.balanceAfter
    spendDay := (r.dayRecord.map (·.1)).getD c.spendDay
    daySpend := (r.dayRecord.map (·.2)).getD c.daySpend
    entry := r.entry
    history := match r.journey with
      | some j => (j :: c.history).take 3
      | none => c.history }

/-- At a rollover, pairs whose day is below the new today minus 1 go (R64). -/
def purgeReleased (today : Nat) (l : List (Half × Half)) : List (Half × Half) :=
  l.filter fun p => decide ((today : Int) - 1 ≤ (p.2.toNat : Int))

end Sys2Proof.Machine
end

