-- ==== Sys2Proof/Machine/Hotlist.lean ====
section
/-! DEFINITION. The hotlist: the list, its LOCAL order and marks, the ranges, lookups and LOCAL adds (section 5.4). -/

namespace Sys2Proof.Machine

def hotlistSize : Nat := 2048

def Hotlist.find (h : Hotlist) (n : CardNumber) : Option HotEntry := h.entries.find? fun e => decide (e.number = n)

def Hotlist.listed (h : Hotlist) (n : CardNumber) : Bool := (h.find n).isSome

/-- A number joins in its place in ascending order (R114). -/
def insertHot (e : HotEntry) : List HotEntry → List HotEntry
  | [] => [e]
  | x :: xs => if e.number.toNat ≤ x.number.toNat then e :: x :: xs else x :: insertHot e xs

def Hotlist.remove (h : Hotlist) (n : CardNumber) : Hotlist :=
  { entries := h.entries.filter (fun e => decide (e.number ≠ n)), localOrder := h.localOrder.filter (fun m => decide (m ≠ n)) }

def Hotlist.addHost (h : Hotlist) (n : CardNumber) : Hotlist :=
  { h with entries := insertHot { number := n, origin := .host, ownBlock := false } h.entries }

def Hotlist.addLocal (h : Hotlist) (n : CardNumber) (mark : Bool) : Hotlist :=
  { entries := insertHot { number := n, origin := .localAdd, ownBlock := mark } h.entries, localOrder := h.localOrder ++ [n] }

/-- A LOCAL number's own-block mark is set or cleared (R121). A HOST number carries none. -/
def Hotlist.mark (h : Hotlist) (n : CardNumber) (b : Bool) : Hotlist :=
  { h with entries := h.entries.map fun e =>
      if e.number = n ∧ e.origin = .localAdd then { e with ownBlock := b } else e }

/-- A LOCAL number becomes HOST: it leaves the LOCAL order and its mark is cleared (R117). -/
def Hotlist.makeHost (h : Hotlist) (n : CardNumber) : Hotlist :=
  { entries := h.entries.map fun e => if e.number = n then { e with origin := .host, ownBlock := false } else e
    localOrder := h.localOrder.filter (fun m => decide (m ≠ n)) }

/-- The earliest LOCAL number in the LOCAL order that carries no own-block mark (R119). -/
def Hotlist.victim (h : Hotlist) : Option CardNumber :=
  h.localOrder.find? fun m => h.entries.any fun e => decide (e.number = m ∧ e.ownBlock = false)

/-- A LOCAL add (R119), with the own-block mark when a block path makes it (R121). -/
def Hotlist.localAdd (h : Hotlist) (n : CardNumber) (ownBlock : Bool) : Hotlist :=
  if h.listed n then (if ownBlock then h.mark n true else h)
  else if h.entries.length < hotlistSize then h.addLocal n ownBlock
  else match h.victim with
    | some v => (h.remove v).addLocal n ownBlock
    | none => h

/-- A LOCAL add raises CLONE attention, whether it was made or not (R119, R126). -/
def State.localAdd (s : State) (n : CardNumber) (ownBlock : Bool) : State :=
  { s with hotlist := s.hotlist.localAdd n ownBlock }.raise .clone

/-- An enabled range slot covers a number from its low to its high (R115). -/
def HotRange.enabled (r : HotRange) : Bool := decide (r.low.toNat ≤ r.high.toNat)

def HotRange.covers (r : HotRange) (n : CardNumber) : Bool :=
  decide (r.low.toNat ≤ n.toNat ∧ n.toNat ≤ r.high.toNat)

/-- The slots of every enabled range that covers a number (R120). -/
def State.coveringSlots (s : State) (n : CardNumber) : List Nat :=
  (List.range 8).filter fun i => (s.check.ranges.toList.getD i { low := 1, high := 0 }).covers n

/-- A hotlist lookup (R116). -/
def State.hotlisted (s : State) (n : CardNumber) : Bool :=
  s.hotlist.listed n || s.check.ranges.toList.any fun r => r.covers n

/-- A context is on the block path for a number at this moment: it has turned to it and has not written its record (R46). -/
def Context.blocking (c : Context) (n : CardNumber) : Bool := c.blockPath && c.state.admittedOpen && decide (c.number = n)

/-- When a block path ends otherwise than in BLOCKED_CARD, the mark is cleared unless the other face's context is on the
block path for the same number at that moment (R121; DEDUCED for another face whose path has ended, log entry 38, and for a
mark that an earlier BLOCKED_CARD left, log entry 50). -/
def State.endBlockMark (s : State) (f : Face) : State :=
  let c := s.context f
  if c.blockPath ∧ (s.context f.other).blocking c.number = false then { s with hotlist := s.hotlist.mark c.number false } else s

end Sys2Proof.Machine
end

