-- ==== Sys2Proof/Machine/WatchOps.lean ====
section
/-! DEFINITION. The watch unit: the match, the groups, the countdown, the fire and the watch status (sections 6.3 to 6.6). -/

namespace Sys2Proof.Machine

/-- A bound of a unit's range: signed for BALANCE_AFTER, unsigned for every other field (R128). -/
def WatchField.reads (f : WatchField) (x : BitVec 64) : Int :=
  match f with
  | .balanceAfter => x.toInt
  | _ => x.toNat

/-- A unit is enabled when its low value is at most its high value (R127). -/
def WatchUnit.enabled (w : WatchUnit) : Bool := decide (w.field.reads w.low ≤ w.field.reads w.high)

/-- The values of a transaction under evaluation (Table 16). -/
structure WatchValues where
  face : Face
  number : CardNumber
  cls : Byte
  counter : Nat
  balanceAfter : Int
  fare : Nat
  entryStation : Option Half
  deriving DecidableEq, Repr

/-- The value of a field; absent for ENTRY_STATION of an exit with no entry record. -/
def WatchValues.value (v : WatchValues) : WatchField → Option Int
  | .cardNumber => some v.number.toNat
  | .cardClass => some v.cls.toNat
  | .counter => some v.counter
  | .balanceAfter => some v.balanceAfter
  | .fare => some v.fare
  | .entryStation => v.entryStation.map fun s => (s.toNat : Int)

/-- The kind filter lets the transaction through: the street face's is an ENTRY, the paid face's an EXIT (R132, R133). -/
def KindFilter.admits : KindFilter → Face → Bool
  | .any, _ => true
  | .entry, .street => true
  | .exit, .paid => true
  | _, _ => false

/-- An enabled unit's own result (R133). -/
def WatchUnit.result (w : WatchUnit) (v : WatchValues) : Bool :=
  w.kind.admits v.face &&
    match v.value w.field with
    | none => false
    | some x =>
      let inside := decide (w.field.reads w.low ≤ x ∧ x ≤ w.field.reads w.high)
      match w.sense with
      | .inside => inside
      | .outside => !inside

/-- Bit n for each enabled unit n whose result is true: the matched units (R133, R210). -/
def matchedUnits (units : List WatchUnit) (v : WatchValues) : Byte :=
  natByte (units.foldr (fun w n => (if w.enabled && w.result v then 1 else 0) + 2 * n) 0)

/-- A group is in use when an enabled unit names it (R134). -/
def groupInUse (units : List WatchUnit) (g : Byte) : Bool := units.any fun w => w.enabled && decide (w.group = g)

/-- The result of a group: one of its enabled units gives true (R134). -/
def groupResult (units : List WatchUnit) (v : WatchValues) (g : Byte) : Bool :=
  units.any fun w => w.enabled && decide (w.group = g) && w.result v

/-- The effective match (R134). -/
def effectiveMatch (w : Watch) (v : WatchValues) : Bool :=
  let units := w.units.toList
  let used := [(0 : Byte), 1, 2, 3].filter (groupInUse units)
  match w.combine with
  | .or => used.any (groupResult units v)
  | .and => decide (used ≠ []) && used.all (groupResult units v)

/-- A fire fills the status when it is empty and sets the more mark when it is held (R139). -/
def fillStatus (st : Option WatchStatus) (v : WatchValues) (matched : Byte) : Option WatchStatus :=
  match st with
  | none => some { number := v.number, face := v.face, units := matched, sequence := none, more := false }
  | some x => some { x with more := true }

/-- A transaction's record is written: a pending sequence of the status is filled if the status is that transaction's. At
most one transaction is in progress on a face, so the status's face names it (R139). -/
def State.fillWatchSequence (s : State) (f : Face) (sequence : Word) : State :=
  match s.watch.status with
  | some x =>
    if x.face = f ∧ x.sequence = none then
      { s with watch := { s.watch with status := some { x with sequence := some sequence } } }
    else s
  | none => s

/-- What an evaluation answers its context (R135 to R138). -/
inductive WatchVerdict where
  | proceed
  | detain
  deriving DecidableEq, Repr

/-- The evaluation of a transaction within its DECIDING event (R131 to R138). -/
def State.evaluateWatch (s : State) (f : Face) (v : WatchValues) : WatchVerdict × State :=
  if effectiveMatch s.watch v then
    if s.watch.countdown ≠ 0 then
      (.proceed, { s with watch := { s.watch with countdown := s.watch.countdown - 1 } })
    else
      let m := matchedUnits s.watch.units.toList v
      let s1 := { s with watch := { s.watch with status := fillStatus s.watch.status v m } }
      let s2 := (s1.raise .watch).setContext f { s1.context f with watchUnits := some m }
      match s.watch.action with
      | .report => (.proceed, s2)
      | .detain => (.detain, s2)
      | .alarm => (.proceed, s2.startWatchAlarm)
  else (.proceed, s)

end Sys2Proof.Machine
end

