-- ==== Sys2Proof/Machine/TapOps.lean ====
section
/-! DEFINITION. The tap transaction's shared operations: proof, challenge and chain word (R19 to R21), image check (R15), evidence, records, the tear table, STAGE point, commit and the ways a transaction ends (section 2). -/

namespace Sys2Proof.Machine

/-! ### The arithmetic of the card dialogue -/

/-- The next value of the challenge sequence (R19). -/
def nextChallenge (c : Word) : Word := c * 1664525 + 1013904223

/-- One step of the proof (R20). -/
def proofStep (k h x : Word) : Word := h * 31821 + x + k

/-- The expected proof h4 (R20). -/
def expectedProof (k : Word) (number : CardNumber) (c : Word) (n : Half) : Word :=
  let h1 := proofStep k k (number.extractLsb' 32 32)
  let h2 := proofStep k h1 (number.extractLsb' 0 32)
  let h3 := proofStep k h2 c
  proofStep k h3 (n.zeroExtend 32)

/-- The chain word of a write (R21): the fetched chain word, the new counter, the new balance and this part's place. -/
def chainWord (chain : Word) (counter : Half) (balance : Word) (station : Half) (gate : Byte) : Word :=
  chain * 69069 + counter.zeroExtend 32 * 4099 + (balance + 1000000) + station.zeroExtend 32 * 64 + gate.zeroExtend 32

/-! ### The image check (R15) -/

/-- R15 step 1: the fields that must equal the name answer's, and the ranges of the others. The codes and the history count
are read by `CardImage.ofBytes`. -/
def CardImage.fieldsValid (c : CardImage) (a : NameAnswer) : Bool :=
  decide (c.number = a.number ∧ c.cls = a.cls ∧ c.generation = a.generation ∧ c.status = a.status ∧ c.cls.toNat ≤ 7)
    && (match c.entry with
        | some e => decide (e.station.toNat ≤ 1023 ∧ e.gate.toNat ≤ 63 ∧ e.minute.toNat ≤ 1439)
        | none => true)
    && c.history.all (fun j => decide (j.station.toNat ≤ 1023 ∧ j.minute.toNat ≤ 1439))
    && (match c.pass with
        | some p => decide (p.zoneLow.toNat ≤ 31 ∧ p.zoneHigh.toNat ≤ 31)
        | none => true)

/-- R15 step 2. -/
def balanceValid (b : Word) : Bool := decide (-99999 ≤ b.toInt ∧ b.toInt ≤ 999999)

/-- The fetched image is checked in the order of R15, and the first failure names the refusal. -/
def checkImage (a : NameAnswer) (bytes : List Byte) : Except Reason CardImage :=
  match CardImage.ofBytes bytes with
  | none => .error .cardInvalid
  | some c =>
    if c.fieldsValid a = false then .error .cardInvalid
    else if balanceValid c.balance = false then .error .cardInvalid
    else if c.counter = 65535 then .error .counterExhausted
    else .ok c

/-! ### Transaction records (R50) -/

/-- The fields every TRANSACTION record of a context carries when present: number, class, watch units, ring bypassed. -/
def Context.baseFields (c : Context) : RecordFields :=
  { RecordFields.blank with number := some c.number, cls := some c.cls, watchUnits := c.watchUnits, bypassed := c.bypassed }

/-- The evidence a record of an accepted or refused outcome carries: the refusing kind, else the first flagged. -/
def Context.recordEvidence (c : Context) : Option EvidenceKind :=
  match c.refusing with
  | some k => some k
  | none => c.flagged.head?

/-- The counter the write gives the card: that of the image to be staged (R16). -/
def Context.newCounter (c : Context) : Half := (c.staged.map (·.counter)).getD 0

/-- The counter of the fetched image. -/
def Context.fetchedCounter (c : Context) : Half := (c.image.map (·.counter)).getD 0

/-- The fare and the balance the write would leave: fare 0 and the unchanged balance on the block path (R51). -/
def Context.writeFare (c : Context) : Half := if c.blockPath then 0 else (c.fare.map (·.fare)).getD 0

def Context.writeBalance (c : Context) : Word := (c.staged.map (·.balance)).getD 0

/-- ENTERED, EXITED, BLOCKED_CARD and TORN: fare, balance after and counter after. -/
def Context.writtenFields (c : Context) : RecordFields :=
  { c.baseFields with
    fare := some c.writeFare, balanceAfter := some c.writeBalance, counterAfter := some c.newCounter }

def Context.refusedFields (c : Context) (r : Reason) : RecordFields :=
  { c.baseFields with evidence := c.recordEvidence, reason := some r }

/-- The LATE_ALERT a late finding asks for, just after its transaction record (R125). -/
def State.lateAlert (s : State) (f : Face) (k : EvidenceKind) (sequence : Word) : State :=
  (s.appendSpare .lateAlert f
    { RecordFields.blank with
      number := some (s.context f).number, evidence := some k, reference := some sequence }).raise .clone

/-- The context's transaction record: appended, its sequence given to the watch status, the context's share of the
obligations ended by its next state, and the late finding reported (R26, R50, R125, R139). -/
def State.closeRecord (s : State) (f : Face) (o : TxOutcome) (fields : RecordFields) (next : CtxState) : State :=
  let q := s.journal.next
  let s1 := (s.append (.transaction o) s.stamp f fields).fillWatchSequence f q
  let s2 := s1.setContext f { s1.context f with state := next }
  match (s.context f).late with
  | some k => s2.lateAlert f k q
  | none => s2

/-! ### REFUSED and ABANDONED (R44) -/

/-- The clean-up of R44 before its record: the reservation, the own hold, RELEASE DROPPED; and the own-block mark of a block
path that ends (R121). -/
def State.cleanUp (s : State) (f : Face) : State :=
  (((s.dropReservation f).releaseOwnHold f).sendDropped f).endBlockMark f

/-- An admitted transaction ends REFUSED. -/
def State.endRefused (s : State) (f : Face) (r : Reason) : State :=
  let s1 := s.cleanUp f
  let fields := (s1.context f).refusedFields r
  let ind := if fields.evidence.isSome ∨ r = .watchDetain then Indication.attend else .stop
  (s1.closeRecord f .refused fields .refusedShown).conclude f .refusedShown ind (some .refuse)

/-- An admitted transaction ends ABANDONED. -/
def State.endAbandoned (s : State) (f : Face) : State :=
  let s1 := s.cleanUp f
  let fields : RecordFields :=
    { RecordFields.blank with
      number := some (s1.context f).number, cls := some (s1.context f).cls
      watchUnits := (s1.context f).watchUnits, bypassed := (s1.context f).bypassed }
  (s1.closeRecord f .abandoned fields .idle).conclude f .idle .stop (some .refuse)

/-- A refusal before admission (R25). -/
def State.refuseBefore (s : State) (f : Face) : State := s.conclude f .refusedShown .stop (some .refuse)

/-- A failure that is REFUSED with reason `r`, or EVIDENCE on the block path (R46). -/
def State.endFailed (s : State) (f : Face) (r : Reason) : State :=
  s.endRefused f (if (s.context f).blockPath then .evidence else r)

/-- Card lost at FETCH or PROVE: ABANDONED, or REFUSED with EVIDENCE on the block path (R30, R31). -/
def State.endLost (s : State) (f : Face) : State :=
  if (s.context f).blockPath then s.endRefused f .evidence else s.endAbandoned f

/-! ### Evidence (R28, R46, R121) -/

/-- What a found evidence makes of the tap. -/
inductive Finding where
  | carryOn
  | refused
  | block
  deriving DecidableEq, Repr

/-- The block path is turned to: LOCAL add, own-block mark, ALERT; `refused` when the number is not in the list (R46, R121). -/
def State.turnToBlock (s : State) (f : Face) (k : EvidenceKind) : Finding × State :=
  let n := (s.context f).number
  let s1 := (s.localAdd n true).send (.alert s.gate 0 n k (markByte true))
  if s1.hotlist.listed n then (.block, s1.setContext f { s1.context f with blockPath := true }) else (.refused, s1)

/-- A context finds evidence: CLONE attention, then the policy of its kind (R28, R113, R126). -/
def State.findEvidence (s : State) (f : Face) (k : EvidenceKind) : Finding × State :=
  let s1 := s.raise .clone
  let c := s1.context f
  match s1.check.policies.get k with
  | .flag => (.carryOn, s1.setContext f { c with flagged := c.flagged ++ [k] })
  | .refuse => (.refused, s1.setContext f { c with refusing := some k })
  | .refuseAndBlock => (s1.setContext f { c with refusing := some k }).turnToBlock f k

/-- The kinds of the sighting checks are found one after the other until a policy refuses (R108). A CONCURRENT refused here
under REFUSE originates an ALERT with its block flag clear, before the clean-up (R111, R123). -/
def State.findAll (s : State) (f : Face) : List EvidenceKind → Finding × State
  | [] => (.carryOn, s)
  | k :: ks =>
    match s.findEvidence f k with
    | (.carryOn, s1) => s1.findAll f ks
    | (.block, s1) => (.block, s1)
    | (.refused, s1) =>
      if k = .concurrent ∧ s.check.policies.concurrent = .refuse then
        (.refused, s1.send (.alert s.gate 0 (s1.context f).number .concurrent (markByte false)))
      else (.refused, s1)

/-! ### The STAGE point (R37) and the images -/

/-- STAGE is sent in IN_SERVICE; elsewhere the transaction ends REFUSED with reason CLOSED, EVIDENCE on the block path.
The point is reached in IN_SERVICE and CLOSED only (R37). -/
def State.stagePoint (s : State) (f : Face) (img : CardImage) : State :=
  if s.service.state = .inService then
    (s.setContext f { s.context f with state := .staging, staged := some img }).ask f (.stage img.toBytes img.counter)
  else s.endFailed f .closed

/-- The image with the counter and chain word of a write made here (R16, R21). -/
def State.written (s : State) (c : CardImage) (balance : Word) : CardImage :=
  { c with counter := c.counter + 1, chain := chainWord c.chain (c.counter + 1) balance s.station s.gate }

/-- The block image: status BLOCKED, counter and chain word, nothing else (R46, R122). -/
def State.blockImage (s : State) (c : CardImage) : CardImage := { s.written c c.balance with status := .blocked }

/-- The fare image: counter, chain word and the fields the fare result names (R16, R36). -/
def State.fareImage (s : State) (c : CardImage) (r : FareResult) : CardImage :=
  (s.written c r.balanceAfter).withFare r

/-- A context on the block path with its card fetched and proven goes to the STAGE point (R46). -/
def State.blockStage (s : State) (f : Face) : State :=
  match (s.context f).image with
  | some c => s.stagePoint f (s.blockImage c)
  | none => s.endRefused f .evidence

/-- The fare request's clock and place (R66, R80). -/
def State.fareClock (s : State) : FareClock :=
  { today := s.today, now := s.minuteNow, peakDay := s.service.clock.peakDay, station := s.station, gate := s.gate }

/-! ### DECIDING (R36) -/

/-- The watch unit's values of a transaction (R132). -/
def watchValues (f : Face) (c : CardImage) (r : FareResult) : WatchValues :=
  { face := f, number := c.number, cls := c.cls, counter := c.counter.toNat + 1
    balanceAfter := r.balanceAfter.toInt, fare := r.fare.toNat, entryStation := r.entryStation }

/-- Steps 2 to 4 of R36. -/
def State.charge (s : State) (f : Face) (c : CardImage) : State :=
  if s.service.clock.isSet = false then s.endRefused f .noTime
  else match fareRequest s.fare s.fareClock f c with
    | .error r => s.endRefused f r
    | .ok result =>
      let s1 := s.setContext f { s.context f with fare := some result }
      match s1.evaluateWatch f (watchValues f c result) with
      | (.detain, s2) => s2.endRefused f .watchDetain
      | (.proceed, s2) => s2.stagePoint f (s2.fareImage c result)

/-- The notes and the contested mark are taken as evidence CONCURRENT, unless a CONCURRENT was found and flagged before
(R36, R113). `none` when there is nothing to take. -/
def Context.claimed (c : Context) : Bool := c.contested || !c.notes.isEmpty

/-- DECIDING: within the event that ends HOLDING, or within the proof answer when the ring was bypassed. -/
def State.deciding (s : State) (f : Face) : State :=
  let c := s.context f
  let s1 := s.setContext f { c with state := .deciding, ringTimer := none, contested := false, notes := [] }
  let found :=
    if c.claimed = true ∧ c.flagged.contains .concurrent = false then s1.findEvidence f .concurrent else (.carryOn, s1)
  match found with
  | (.refused, s2) => s2.endRefused f .evidence
  | (.block, s2) => s2.blockStage f
  | (.carryOn, s2) =>
    match c.image with
    | some img => s2.charge f img
    | none => s2.endRefused f .cardInvalid

/-! ### The sighting checks and the HOLD (R31 to R33, R108 to R111) -/

/-- The counter test (R109). -/
def counterTest (c : CardImage) (x : Sighting) : Option EvidenceKind :=
  if c.counter.toNat < x.counter.toNat then some .replay
  else if c.counter = x.counter ∧ c.chain ≠ x.chain then some .divergent
  else none

/-- The travel test (R110). -/
def State.travelTest (s : State) (c : CardImage) (x : Sighting) : Option EvidenceKind :=
  if x.counter.toNat < c.counter.toNat ∧ x.station ≠ s.station ∧ s.service.clock.isSet = true then
    let elapsed : Int := ((s.today.toNat : Int) - x.day.toNat) * 1440 + ((s.minuteNow.toNat : Int) - x.minute.toNat)
    if 0 ≤ elapsed ∧ elapsed < s.fare.minimumTravel x.station s.station then some .impossible else none
  else none

/-- The kinds the sighting checks find, in their order (R108), for a context that holds an entry. -/
def State.sightingFindings (s : State) (f : Face) (c : CardImage) : List EvidenceKind :=
  if (s.context f).holdsEntry then
    match findSighting s.sightings (s.context f).number with
    | some e =>
      (e.sighting.bind (counterTest c)).toList
        ++ (if e.contestNote.isSome then [EvidenceKind.concurrent] else [])
        ++ (e.sighting.bind (s.travelTest c)).toList
    | none => []
  else []

/-- The ring unit is asked for a HOLD (R33); with the ring ISOLATED or its queue full the ring is bypassed. -/
def State.sendHold (s : State) (f : Face) (counterRead : Half) : State :=
  let c := s.context f
  if s.ring.state = .up ∧ s.ringRoom = true then
    let s1 := s.send (.hold s.gate 0 c.number counterRead uncontested)
    let s2 := s1.setRing { s1.ring with holdOrder := s1.ring.holdOrder.filter (fun g => decide (g ≠ f)) ++ [f] }
    s2.setContext f { c with state := .holding, holdSent := true, ringTimer := some (s.now, s.setup.ringTimeout) }
  else (s.setContext f { c with bypassed := true }).deciding f

/-- A proof that matches leads to the sighting checks, then to the HOLD (R31 to R33). -/
def State.checkSightings (s : State) (f : Face) (c : CardImage) : State :=
  match s.findAll f (s.sightingFindings f c) with
  | (.refused, s1) => s1.endRefused f .evidence
  | (.block, s1) => s1.blockStage f
  | (.carryOn, s1) => s1.sendHold f c.counter

/-! ### Admission (R26, R27, R29) -/

/-- The face's direction is served by the aisle mode (R25). -/
def AisleMode.serves : AisleMode → Direction → Bool
  | .bidirectional, _ => true
  | .entryOnly, .entry => true
  | .exitOnly, .exit => true
  | _, _ => false

/-- The journal's admission check (R188). -/
def State.admits (s : State) : Bool := decide (s.obligations + 3 ≤ s.freeSlots)

/-- A check of R25 fails: the refusal has no record, so its reason is not kept. -/
def State.refusesBefore (s : State) (f : Face) : Bool :=
  decide (s.service.state = .closed) || decide (s.service.state = .emergency) || !s.service.clock.isSet
    || !s.aisle.mode.serves f.direction || !s.admits

/-- The name checks' evidence (R29 steps 2 and 3). -/
def State.nameEvidence (s : State) (f : Face) (status : CardStatus) : Finding × State :=
  match (if status = .blocked then s.findEvidence f .blocked else (.carryOn, s)) with
  | (.carryOn, s1) => if s1.hotlisted (s1.context f).number then s1.findEvidence f .hotlisted else (.carryOn, s1)
  | other => other

/-- FETCH is asked for and the context enters READING. -/
def State.startReading (s : State) (f : Face) : State :=
  (s.setContext f { s.context f with state := .reading }).ask f .fetch

/-- The name checks (R29), the key check first (R18). -/
def State.nameChecks (s : State) (f : Face) (a : NameAnswer) : State :=
  match s.check.keys.toList[a.generation.toNat]? with
  | none => s.endRefused f .unknownKey
  | some slot =>
    match slot.state with
    | .empty => s.endRefused f .unknownKey
    | .retired => s.endRefused f .keyRetired
    | .active =>
      match (s.setContext f { s.context f with key := some slot.key }).nameEvidence f a.status with
      | (.refused, s1) => s1.endRefused f .evidence
      | (_, s1) => s1.startReading f

/-- The admitted context asks for its reservation, then makes its name checks (R27, R29). -/
def State.admitCard (s : State) (f : Face) (a : NameAnswer) : State :=
  let s1 := s.setContext f { s.context f with state := .admitted }
  match s1.aisle.refuses f.direction with
  | some r => s1.endRefused f r
  | none => (s1.reserve f).nameChecks f a

/-! ### The tear table (R51 to R56) -/

def tearTableSize : Nat := 16

def findTear (l : List TearEntry) (n : CardNumber) : Option TearEntry := l.find? fun e => decide (e.number = n)

def removeTear (l : List TearEntry) (n : CardNumber) : List TearEntry := l.filter fun e => decide (e.number ≠ n)

def State.dropTear (s : State) (n : CardNumber) : State := { s with tears := removeTear s.tears n }

/-- The torn record's sequence. -/
def TearEntry.reference (e : TearEntry) : Option Word :=
  match e.state with
  | .torn _ r => some r
  | .pending => none

/-- How long ago the window of a TORN entry started; `none` for a PENDING entry. -/
def TearEntry.age (e : TearEntry) (now : Word) : Option Nat :=
  match e.state with
  | .torn t _ => some (now - t).toNat
  | .pending => none

def TearKind.direction : TearKind → Face → Direction
  | .entry, _ => .entry
  | .exit, _ => .exit
  | .block, f => f.direction

/-- An entry is removed with a TEAR record that references the torn record (R52, R54, R55); the counter is the one a read
found (Table 21). -/
def State.resolveTear (s : State) (o : TearOutcome) (e : TearEntry) (counter : Option Half) : State :=
  (s.dropTear e.number).append (.tear o) s.stamp e.face
    { RecordFields.blank with number := some e.number, counterAfter := counter, reference := e.reference }

/-- The TORN entries with the earliest window start: the oldest windows (R52, R174). -/
def oldestTears (now : Word) (l : List TearEntry) : List TearEntry :=
  let top := l.foldl (fun m e => max m ((e.age now).getD 0)) 0
  l.filter fun e => decide (e.age now = some top)

/-- The TORN entry that gives way in a full table: the earliest window start. The manual gives no order between equal
starts, so a free choice picks one. -/
def State.tearVictim (s : State) : Option TearEntry :=
  let l := oldestTears s.now s.tears
  l[Config.freeChoice s.freeCount % l.length]?

/-- A full table makes room (R52). -/
def State.tearRoom (s : State) : State :=
  if s.tears.length < tearTableSize then s
  else match s.tearVictim with
    | some v => ((s.drew 1).resolveTear .unresolved v none).raise .tear
    | none => s

/-- The PENDING entry of a context at its commit (R51). -/
def State.pendingTear (s : State) (f : Face) : TearEntry :=
  let c := s.context f
  { number := c.number, cls := c.cls, face := f
    kind := if c.blockPath then .block else match f with
      | .street => .entry
      | .paid => .exit
    oldCounter := c.fetchedCounter, newCounter := c.newCounter, fare := c.writeFare, balanceAfter := c.writeBalance
    written := s.stamp, state := .pending }

/-- The table is asked for a PENDING entry (R52); `none` when it refuses. -/
def State.makePending (s : State) (f : Face) : Option State :=
  let e := s.pendingTear f
  match findTear s.tears e.number with
  | some old =>
    if old.state = .pending then none
    else
      let s1 := s.resolveTear .unresolved old none
      some { s1 with tears := s1.tears ++ [e] }
  | none =>
    let s1 := s.tearRoom
    some { s1 with tears := s1.tears ++ [e] }

/-- The commit: a PENDING entry, then SETTLE; a refused entry is evidence CONCURRENT whatever the policy (R39), with CLONE attention even
where the tap flagged CONCURRENT before (DEDUCED, log entry 19). -/
def State.commit (s : State) (f : Face) : State :=
  match s.makePending f with
  | some s1 => (s1.setContext f { s1.context f with state := .settling }).ask f .settle
  | none =>
    let c := s.context f
    if c.blockPath then s.endRefused f .evidence
    else ((s.raise .clone).setContext f { c with refusing := some .concurrent }).endRefused f .evidence

/-- READY for a fare write: the notes and the contested mark taken since DECIDING (R39). -/
def State.readyToCommit (s : State) (f : Face) : State :=
  let c := s.context f
  if c.blockPath = false ∧ c.claimed = true ∧ c.flagged.contains .concurrent = false then
    let s1 := (s.raise .clone).setContext f { c with contested := false, notes := [] }
    match s1.check.policies.concurrent with
    | .flag => (s1.setContext f { s1.context f with flagged := c.flagged ++ [.concurrent] }).commit f
    | _ => (s1.setContext f { s1.context f with refusing := some .concurrent }).endRefused f .evidence
  else s.commit f

/-! ### A write found written, not written or torn (R40 to R43, R47) -/

/-- A fare write is confirmed (R42). -/
def State.confirmFare (s : State) (f : Face) (img : CardImage) : State :=
  let c := s.context f
  let q := s.journal.next
  let s1 := s.dropTear c.number
  let outcome := match f with
    | .street => TxOutcome.entered
    | .paid => .exited
  let fields : RecordFields :=
    { c.writtenFields with
      evidence := c.recordEvidence, entryStation := c.fare.bind (·.entryStation)
      freePassage := decide (c.reservation = .removed) }
  let s2 := (s1.closeRecord f outcome fields .removalWait).grant f q
  let x := s2.localSighting img.counter img.chain f.direction
  let s3 := (s2.recordSighting c.number x).releaseOwnHold f
  (s3.sendCommitted c.number x).conclude f .removalWait .go (some .accept)

/-- A block write is confirmed (R47). -/
def State.confirmBlock (s : State) (f : Face) (img : CardImage) : State :=
  let c := s.context f
  let s1 := s.dropTear c.number
  let s2 := (s1.closeRecord f .blockedCard { c.writtenFields with evidence := c.recordEvidence } .refusedShown).dropReservation f
  let x := s2.localSighting img.counter img.chain f.direction
  let s3 := ((s2.recordSighting c.number x).releaseOwnHold f).sendDropped f
  s3.conclude f .refusedShown .attend (some .refuse)

/-- The write is confirmed, by SETTLED or by the confirming read (R40, R41). -/
def State.confirmWrite (s : State) (f : Face) : State :=
  match (s.context f).staged with
  | some img => if (s.context f).blockPath then s.confirmBlock f img else s.confirmFare f img
  | none => s

/-- The card did not write (R40, R41): the PENDING entry goes without a record. -/
def State.notWritten (s : State) (f : Face) : State := (s.dropTear (s.context f).number).endFailed f .writeFailed

/-- The entry of a number becomes TORN. -/
def tearNow (l : List TearEntry) (n : CardNumber) (start reference : Word) : List TearEntry :=
  l.map fun e => if e.number = n then { e with state := .torn start reference } else e

/-- The write is torn (R43). On the block path the record is REFUSED with reason EVIDENCE. -/
def State.tornWrite (s : State) (f : Face) : State :=
  let c := s.context f
  let s1 := { s with tears := tearNow s.tears c.number s.now s.journal.next }
  let s2 :=
    if c.blockPath then s1.closeRecord f .refused (c.refusedFields .evidence) .idle
    else s1.closeRecord f .torn c.writtenFields .idle
  let s3 := ((s2.dropReservation f).releaseOwnHold f).send (.release s.gate 0 c.number (.uncertain 0))
  (s3.endBlockMark f).conclude f .idle .stop (some .refuse)

/-! ### A TORN entry met at a read (R53, R54) -/

/-- The LOCAL sighting and the RELEASE COMMITTED of a recovery: the fetched counter and chain word, with the direction of the
tear entry (R53, R90). -/
def State.recoverSighting (s : State) (e : TearEntry) (bytes : List Byte) : State :=
  let x := s.localSighting (imageCounter bytes) (imageChain bytes) (e.kind.direction e.face)
  (s.recordSighting e.number x).sendCommitted e.number x

/-- The fields a RECOVERED record takes from the tear entry (R50). R50 and R53 do not say whose class the record carries: it is the tear
entry's (DESIGN CHOICE, log entry 46). -/
def TearEntry.recoveredFields (e : TearEntry) (base : RecordFields) : RecordFields :=
  { base with
    number := some e.number, cls := some e.cls, fare := some e.fare, balanceAfter := some e.balanceAfter
    counterAfter := some e.newCounter, reference := e.reference }

/-- Recovery at the entry's own face, off the block path: the transaction ends RECOVERED (R53). -/
def State.recoverHere (s : State) (f : Face) (e : TearEntry) (bytes : List Byte) : State :=
  let c := s.context f
  let q := s.journal.next
  let fields := e.recoveredFields { c.baseFields with evidence := c.recordEvidence }
  let s1 := ((s.closeRecord f .recovered fields .removalWait).dropTear e.number).grant f q
  (s1.recoverSighting e bytes).conclude f .removalWait .go (some .accept)

/-- Recovery at the other face, or on the block path: a RECOVERED record for the entry, and nothing granted (R53). It carries neither the
evidence nor the marks of the tap that met the entry (DEDUCED, log entry 47). -/
def State.recoverElsewhere (s : State) (e : TearEntry) (bytes : List Byte) : State :=
  ((s.append (.transaction .recovered) s.stamp e.face (e.recoveredFields RecordFields.blank)).dropTear e.number).recoverSighting
    e bytes

/-- Whether the tap goes on after its TORN entry has been dealt with. -/
inductive Resolution where
  | ended
  | continues
  deriving DecidableEq, Repr

/-- Step 1 of the read (R30): a TORN entry for the card number is resolved by R53 or R54. -/
def State.resolveAtRead (s : State) (f : Face) (bytes : List Byte) : Resolution × State :=
  let c := s.context f
  match findTear s.tears c.number with
  | none => (.continues, s)
  | some e =>
    if e.state = .pending then (.continues, s)
    else if imageCounter bytes = e.oldCounter then
      (.continues, s.resolveTear .void e (some (imageCounter bytes)))
    else if e.kind ≠ .block ∧ imageCounter bytes = e.newCounter then
      if e.face = f ∧ c.blockPath = false then (.ended, s.recoverHere f e bytes)
      else (.continues, s.recoverElsewhere e bytes)
    else (.continues, s.resolveTear .unresolved e (some (imageCounter bytes)))

/-! ### The read (R30) -/

/-- PROVE is asked for with the next challenge (R19, R30 step 4). -/
def State.startProving (s : State) (f : Face) : State :=
  let v := nextChallenge s.check.challenge
  let s1 : State := { s with check := { s.check with challenge := v } }
  (s1.setContext f { s1.context f with state := .proving, challenge := some v }).ask f (.prove v)

/-- The card image arrives in READING (R30). -/
def State.readImage (s : State) (f : Face) (bytes : List Byte) : State :=
  match s.resolveAtRead f bytes with
  | (.ended, s1) => s1
  | (.continues, s1) =>
    match (s1.context f).name with
    | none => s1
    | some a =>
      match checkImage a bytes with
      | .error r => s1.endFailed f r
      | .ok img => ((s1.setContext f { s1.context f with image := some img }).setOwnHold f).startProving f

/-- The confirming read's image arrives (R41). -/
def State.confirmRead (s : State) (f : Face) (bytes : List Byte) : State :=
  let c := s.context f
  if imageNumber bytes = c.number ∧ imageCounter bytes = c.newCounter then s.confirmWrite f
  else if imageNumber bytes = c.number ∧ imageCounter bytes = c.fetchedCounter then s.notWritten f
  else s.tornWrite f

/-! ### An exchange that ends without its reply (R11, R24, R30, R31, R38, R41) -/

/-- Card lost. -/
def State.cardLost (s : State) (f : Face) : State :=
  match (s.context f).state with
  | .naming => s.conclude f .idle .stop none
  | .reading | .proving => s.endLost f
  | .staging => s.endFailed f .writeFailed
  | .confirming => s.tornWrite f
  | _ => s.closeExchange f

/-- Settle timeout: one FETCH, and CONFIRMING (R41). -/
def State.settleTimeout (s : State) (f : Face) : State :=
  (s.setContext f { s.context f with state := .confirming }).ask f .fetch

end Sys2Proof.Machine
end

