-- ==== Sys2Proof/Machine/ServiceOps.lean ====
section
/-! DEFINITION. The service unit's shared operations: changes of service state with all they hand on, faults and lockdown, the clock's minutes, the resets and the tear table at a reset (sections 2.8, 2.10, 8, 9.6, 10.7). -/

namespace Sys2Proof.Machine

/-! ### Aborts (R48) -/

/-- A context in SETTLING or CONFIRMING has its reservation removed. -/
def State.removeReservation (s : State) (f : Face) : State :=
  if (s.context f).reservation = .held then
    (s.dropReserved f).setContext f { s.context f with reservation := .removed }
  else s

/-- What a context does when the service state enters EMERGENCY or LOCKDOWN. -/
def State.abortContext (s : State) (f : Face) (r : Reason) : State :=
  match (s.context f).state with
  | .idle | .removalWait | .refusedShown => s
  | .naming => s.refuseBefore f
  | .admitted | .reading | .proving | .holding | .deciding | .staging => s.endRefused f r
  | .settling | .confirming => s.removeReservation f

/-- Both contexts, street face before paid face (R184). -/
def State.abortContexts (s : State) (r : Reason) : State := (s.abortContext .street r).abortContext .paid r

/-! ### Changes of service state (R1, R167, R172) -/

/-- The field each service state wants (R1). -/
def ServiceState.wantsField : ServiceState → Bool
  | .inService | .emergency => true
  | .starting | .closed | .lockdown => false

/-- The field requests of a change of service state (R1). -/
def State.fieldRequests (s : State) (old new : ServiceState) : State :=
  if old.wantsField = new.wantsField then s
  else if new.wantsField then (s.fieldOnRequest .street false).fieldOnRequest .paid false
  else (s.fieldOffRequest .street).fieldOffRequest .paid

/-- What a change hands to the contexts: the aborts of R48 on entry to EMERGENCY or LOCKDOWN. -/
def State.handToContexts (s : State) (new : ServiceState) : State :=
  match new with
  | .emergency => s.abortContexts .emergency
  | .lockdown => s.abortContexts .outOfService
  | _ => s

def State.setServiceState (s : State) (new : ServiceState) : State := s.setService { s.service with state := new }

/-- A change between IN_SERVICE and CLOSED, or out of STARTING to IN_SERVICE: the faces alone act on it. -/
def State.enterPlain (s : State) (new : ServiceState) : State :=
  (s.setServiceState new).fieldRequests s.service.state new

/-- EMERGENCY or LOCKDOWN is entered (R172): the grants are cancelled first, then the contexts, street before paid (R184). The
manual fixes no order between the contexts' aborts and the faces' field requests: a free choice. -/
def State.enterFree (s : State) (new : ServiceState) : State :=
  let old := s.service.state
  let s1 := ((s.setServiceState new).cancelGrants).drew 1
  let s2 :=
    if s.freeBit then (s1.handToContexts new).fieldRequests old new
    else (s1.fieldRequests old new).handToContexts new
  let s3 := s2.checkLock
  s3.setAisle s3.aisle.setFree

/-! ### Faults (R177, R178) -/

/-- A context's state and, when it is not IDLE, its card number. -/
def Context.snapshot (c : Context) : CtxState × Option CardNumber :=
  (c.state, if c.state = .idle then none else c.name.map (·.number))

/-- A fault record of this moment. -/
def State.faultRecord (s : State) (k : FaultKind) : FaultRecord :=
  { kind := k, time := s.now, stamp := s.stamp
    snapshot := { street := s.contexts.street.snapshot, paid := s.contexts.paid.snapshot }
    recoverable := !(s.contexts.street.state.committed || s.contexts.paid.state.committed) }

def State.fillFaultSlot (s : State) (r : FaultRecord) : State :=
  (s.setService { s.service with faultSlot := some r }).raise .fault

/-- The second fault: lockdown (R178). -/
def State.lockDown (s : State) (r : FaultRecord) : State :=
  (((s.setService { s.service with lockdownCause := some r }).enterFree .lockdown).raise .lockdown).raise .service

/-- A block hands the service unit a fault (R178). -/
def State.raiseFault (s : State) (k : FaultKind) : State :=
  let r := s.faultRecord k
  match s.service.state with
  | .starting => if s.service.faultSlot.isSome then s.raise .fault else s.fillFaultSlot r
  | .inService | .closed | .emergency =>
    if s.service.faultSlot.isSome then s.lockDown r else s.fillFaultSlot r
  | .lockdown => s.raise .lockdown

/-- The front-end miss count has reached 3 (R8): DISABLED, the fault, then card removed. -/
def State.readerFault (s : State) (f : Face) : State :=
  let u := s.face f
  let s1 := s.setFace f { u.turnOff with state := .disabled, missCount := 3 }
  (s1.raiseFault (.readerFault f)).cardRemoved f

/-! ### Emergency and RESUME -/

/-- The emergency input's assertion is accepted (R170). -/
def State.emergencyAsserted (s : State) : State :=
  match s.service.state with
  | .inService | .closed | .lockdown => (s.enterFree .emergency).raise .service
  | .emergency | .starting => s

/-- The RESUME conditions (R173). -/
def State.mayResume (s : State) : Bool :=
  (decide (s.service.state = .emergency) && s.service.faultSlot.isNone || decide (s.service.state = .lockdown))
    && !s.service.emergency.accepted

/-- An accepted RESUME (R173). In EMERGENCY the fault slot is empty already, so it is empty in either case. -/
def State.resumeService (s : State) : State :=
  let s1 := s.setService { s.service with faultSlot := none, lockdownCause := none, state := .inService }
  let s2 := (s1.fieldOnRequest .street true).fieldOnRequest .paid true
  s2.setAisle (s2.aisle.leaveFree s2.now)

/-! ### The service clock's minutes (R175) -/

/-- The rollover event: the day adds 1, and the fare unit and the card check unit are handed it (R64, R86). -/
def State.rollover (s : State) (k : Clock) : State :=
  let today := k.day.toNat + 1
  let s1 := s.setService { s.service with clock := { k with day := k.day + 1, minute := 0, peakDay := false } }
  { s1 with
    fare := { s1.fare with released := purgeReleased today s1.fare.released }
    sightings := ageSightings today s1.setup.sightingLifetime s1.sightings }

/-- The service minute advances; after day 65 535 the clock becomes unset with SERVICE attention. -/
def State.advanceMinute (s : State) : State :=
  let k := { s.service.clock with ms := 0 }
  if k.minute.toNat + 1 < 1440 then s.setService { s.service with clock := { k with minute := k.minute + 1 } }
  else if k.day = 65535 then
    (s.setService { s.service with clock := { Clock.afterReset with rollover := k.rollover } }).raise .service
  else s.rollover k

/-! ### The tear windows (R55) -/

/-- A TORN entry's window has passed. -/
def State.windowPassed (s : State) (e : TearEntry) : Bool :=
  match e.state with
  | .torn t _ => reached s.now t s.tearWindowMs
  | .pending => false

/-- A TORN entry expires: TEAR UNRESOLVED and TEAR attention. -/
def State.expireTear (s : State) (e : TearEntry) : State := (s.resolveTear .unresolved e none).raise .tear

/-- The entries a shortened window now exceeds expire (R205); the manual gives no order among them. -/
def State.expireTears (s : State) : State :=
  let gone := freelyOrdered s.freeCount (s.tears.filter s.windowPassed)
  gone.foldl (fun t e => t.expireTear e) (s.drew gone.length)

/-! ### Resets (R56, R194 to R197, R208) -/

/-- A PENDING entry becomes TORN at a reset with its TORN record, dated as the entry was written (R56). -/
def State.tearAtReset (s : State) (e : TearEntry) : State :=
  let q := s.journal.next
  { s with tears := tearNow s.tears e.number 0 q }.append (.transaction .torn) e.written e.face
    { RecordFields.blank with
      number := some e.number, cls := some e.cls, fare := some e.fare, balanceAfter := some e.balanceAfter
      counterAfter := some e.newCounter }

/-- Every TORN entry's window starts at the moment the reset ends, where the passage clock is 0. -/
def TearEntry.restart (e : TearEntry) : TearEntry :=
  match e.state with
  | .torn _ r => { e with state := .torn 0 r }
  | .pending => e

/-- The tear table is brought to rest: PENDING entries in the order street, paid (R194), then every window. -/
def State.restTears (s : State) : State :=
  let pendingOf := fun (f : Face) => s.tears.filter fun e => decide (e.state = .pending ∧ e.face = f)
  let s1 := (pendingOf .street ++ pendingOf .paid).foldl State.tearAtReset s
  { s1 with tears := s1.tears.map TearEntry.restart }

/-- Every block at its values after either kind of reset, the retained store as given, the inputs at their levels (R140, R157,
R170). What stands outside the part stays: the commands waiting, the free values drawn. -/
def State.afterReset (s : State) (retainedValid : Bool) : State :=
  let b := s.aisle.beams
  { State.reset with
    pending := s.pending, freeCount := s.freeCount, storeKept := s.storeKept
    hotlist := s.hotlist, tears := s.tears, journal := s.journal
    aisle := Aisle.afterReset
      { beam1 := b.beam1.high, beam2 := b.beam2.high, beam3 := b.beam3.high, beam4 := b.beam4.high }
      s.aisle.openLimit.level s.aisle.closedLimit.level
    service := Service.afterReset s.service.emergency.level retainedValid }

/-- A link reset takes effect: the retained store is not examined (R196, R208). -/
def State.linkReset (s : State) : State := (s.afterReset s.service.retainedValid).restTears

/-- A power-on that finds the retained store valid (R194). -/
def State.powerOnValid (s : State) : State := (s.afterReset true).restTears

/-- A power-on that finds the retained store invalid (R195): its three parts emptied, RETAINED_LOST in the fault slot. -/
def State.powerOnLost (s : State) : State :=
  let s1 := { s.afterReset false with
    hotlist := { entries := [], localOrder := [] }, tears := [], journal := { records := [], next := 1 } }
  s1.fillFaultSlot (s1.faultRecord .retainedLost)

/-- A power-on: main power applied, or the hardware reset input released. The store is valid when the backup supply has kept
it and its own check matches (R193). -/
def State.powerOn (s : State) (checkMatches : Bool) : State :=
  { (if s.storeKept ∧ checkMatches = true then s.powerOnValid else s.powerOnLost) with storeKept := true }

end Sys2Proof.Machine
end

