-- ==== Sys2Proof/Machine/AisleRequests.lean ====
section
/-! DEFINITION. The meanings of the aisle unit's requests and of TEAR LIST: SET AISLE, READ COUNTERS, AISLE STATUS, TEAR LIST (R205 to R207, R166). -/

namespace Sys2Proof.Machine

/-! ### SET AISLE (R205) -/

/-- The SET AISLE reply: every value as stored, in the order of the request, the lifetime in days in the two bytes that R210
gives days in a reply, the tear window and ring timeout in the two of the request (DEDUCED, log entry 14). Place zeros when none
is set (R210). -/
def State.aisleFields (s : State) : List Byte :=
  halfBytes s.station ++ [s.gate, codeIn aisleModeList s.aisle.mode,
      codeIn polarityList s.aisle.beams.beam1.polarity, codeIn polarityList s.aisle.beams.beam2.polarity,
      codeIn polarityList s.aisle.beams.beam3.polarity, codeIn polarityList s.aisle.beams.beam4.polarity,
      natByte s.setup.grantLifetime]
    ++ natHalf s.setup.tearWindow ++ natHalf s.setup.ringTimeout ++ natHalf s.setup.sightingLifetime

/-- The lock of a new aisle mode (R156). -/
def AisleMode.lock : AisleMode → Lock
  | .entryOnly => .entry
  | .exitOnly => .exit
  | .bidirectional => .unlocked

/-- A beam whose polarity changed is read again (R140, R205). -/
def BeamInput.setPolarity (b : BeamInput) (p : Polarity) (now : Word) : BeamInput :=
  if p = b.polarity then b else ({ b with polarity := p } : BeamInput).read now

/-- The aisle unit's values of an accepted SET AISLE. The lock changes with the mode only (R156). -/
def Aisle.accept (a : Aisle) (r : AisleRequest) (now : Word) : Aisle :=
  { a with
    mode := r.mode
    lock := if r.mode = a.mode then a.lock else r.mode.lock
    beams :=
      { beam1 := a.beams.beam1.setPolarity r.polarity.beam1 now
        beam2 := a.beams.beam2.setPolarity r.polarity.beam2 now
        beam3 := a.beams.beam3.setPolarity r.polarity.beam3 now
        beam4 := a.beams.beam4.setPolarity r.polarity.beam4 now } }

/-- All values stored together, the challenge seeded (R19), and the tear entries the window now exceeds expired (R55). -/
def State.acceptAisle (s : State) (r : AisleRequest) : State :=
  let s1 : State := { s with
    aisle := s.aisle.accept r s.now
    check := { s.check with challenge := r.station.zeroExtend 32 * 64 + r.gate.zeroExtend 32 }
    setup :=
      { place := some { station := r.station, gate := r.gate }, grantLifetime := r.grantLifetime
        tearWindow := r.tearWindow, ringTimeout := r.ringTimeout, sightingLifetime := r.sightingLifetime } }
  s1.expireTears

/-- SET AISLE (R205). -/
def execSetAisle (body : List Byte) (s : State) : Host.Outcome State Fault Refusal :=
  whenRunning s fun s =>
    s.request 0x03 14 body fun t =>
      match readAisle body with
      | none => { result := .outOfRange, fields := t.aisleFields, after := t }
      | some r =>
        if r.mode ≠ t.aisle.mode ∧ ¬(t.aisle.queues.entry = [] ∧ t.aisle.queues.exit = []) then
          { result := .wrongState, fields := t.aisleFields, after := t }
        else
          let u := t.acceptAisle r
          { result := .done, fields := u.aisleFields, after := u }

/-! ### READ COUNTERS (R166) -/

def PassageCounters.toBytes (k : PassageCounters) : List Byte :=
  wordBytes k.granted ++ wordBytes k.used ++ wordBytes k.expired ++ wordBytes k.withdrawn ++ wordBytes k.intrusion
    ++ wordBytes k.tailgate ++ wordBytes k.contraflow

/-- READ COUNTERS (R166): the seven entry counts, then the seven exit counts. -/
def execReadCounters (body : List Byte) (s : State) : Host.Outcome State Fault Refusal :=
  whenRunning s fun s =>
    s.query 0x1D 0 body fun t => t.aisle.counters.entry.toBytes ++ t.aisle.counters.exit.toBytes

/-! ### AISLE STATUS (R206) -/

def BeamInput.toBytes (b : BeamInput) : List Byte := [markByte b.blocked, markByte b.stuck]

/-- A context: its state and, when not IDLE, its card number. A context that is not IDLE but never had a name answer has no
number to send: its presence mark is clear (DESIGN CHOICE, log entry 42). -/
def contextBytes (c : Context) : List Byte :=
  codeIn ctxStateList c.state :: optional 8 (if c.state = .idle then none else c.name.map fun a => longBytes a.number)

/-- The run: direction, side and crossing count, under one presence mark (log entry 43). A count above 255 does not fit its one byte and the manual states no value
for it: a free byte (log entry 2). -/
def State.runBytes (s : State) : List Byte :=
  optional 3 (s.aisle.run.map fun r =>
    [codeIn runDirectionList r.direction, codeIn faceList r.side,
      if r.crossings ≤ 255 then natByte r.crossings else Config.freeByte s.freeCount])

/-- A queue entry; its sequence and its time remaining have a presence mark each (log entry 43), and the time remaining is 0
once its expiry has passed (R206). -/
def QueueEntry.toBytes (e : QueueEntry) (now : Word) : List Byte :=
  match e.state with
  | .reserved => [0, codeIn faceList e.face] ++ longBytes e.number ++ optional 4 none ++ optional 4 none
  | .granted q at_ life _ =>
    [1, codeIn faceList e.face] ++ longBytes e.number ++ optional 4 (some (wordBytes q))
      ++ optional 4 (some (natWord (remaining now at_ life)))

def faceBytes (u : FaceUnit) : List Byte := [codeIn faceStateList u.state, codeIn lastOutcomeList u.lastOutcome]

/-- The passage alarm: whether it runs, and the time remaining once its end is set; the watch alarm likewise. -/
def State.alarmBytes (s : State) : List Byte :=
  let passageLeft := match s.aisle.passageAlarm with
    | .since t => some (natWord (remaining s.now t alarmTime))
    | _ => none
  [markByte (decide (s.aisle.passageAlarm ≠ .silent)), markByte s.aisle.watchAlarm.isSome]
    ++ optional 4 passageLeft ++ optional 4 (s.aisle.watchAlarm.map fun t => natWord (remaining s.now t alarmTime))

/-- The groups Service, Faces and Contexts (R206). -/
def State.blockBytes (s : State) : List Byte :=
  let k := s.service.clock
  [codeIn serviceStateList s.service.state] ++ wordBytes s.now
    ++ halfBytes k.day ++ halfBytes k.minute ++ [markByte k.peakDay, markByte k.isSet]
    ++ faceBytes s.faces.street ++ faceBytes s.faces.paid
    ++ contextBytes s.contexts.street ++ contextBytes s.contexts.paid

/-- The groups Ring, Sightings and Beams. -/
def State.checkBytes (s : State) : List Byte :=
  [codeIn ringStateList s.ring.state, natByte s.ring.size] ++ natHalf s.ring.queue.length
    ++ natHalf s.sightings.length ++ natHalf (s.sightings.countP fun e => decide (e.hold ≠ .noHold))
    ++ s.aisle.beams.beam1.toBytes ++ s.aisle.beams.beam2.toBytes ++ s.aisle.beams.beam3.toBytes
    ++ s.aisle.beams.beam4.toBytes

/-- The groups Queues and Aisle. Of both limits' accepted states the open limit's comes first (DESIGN CHOICE, log entry 51). -/
def Aisle.passageBytes (a : Aisle) (now : Word) : List Byte :=
  counted (a.queues.entry.map fun e => e.toBytes now) ++ counted (a.queues.exit.map fun e => e.toBytes now)
    ++ [codeIn aisleModeList a.mode, codeIn lockList a.lock, codeIn leafStateList a.leaf,
        markByte a.openLimit.accepted, markByte a.closedLimit.accepted]

/-- The AISLE STATUS reply's fields, group by group in the order of R206's table. -/
def State.statusFields (s : State) : List Byte :=
  s.blockBytes ++ s.checkBytes ++ s.runBytes ++ s.aisle.passageBytes s.now ++ s.alarmBytes

/-- The free byte of `runBytes` has been drawn, if it was needed. -/
def State.runDrew (s : State) : State :=
  match s.aisle.run with
  | some r => if r.crossings ≤ 255 then s else s.drew 1
  | none => s

/-- AISLE STATUS (R206). It changes nothing. -/
def execAisleStatus (body : List Byte) (s : State) : Host.Outcome State Fault Refusal :=
  whenRunning s fun s =>
    s.request 0x1E 0 body fun t => { result := .done, fields := t.statusFields, after := t.runDrew }

/-! ### TEAR LIST (R207) -/

/-- A tear entry: its fields, and for a TORN one its reference and the time remaining, with a presence mark each (log entry
43). -/
def TearEntry.toBytes (e : TearEntry) (now : Word) (window : Nat) : List Byte :=
  longBytes e.number ++ [e.cls, codeIn faceList e.face, codeIn tearKindList e.kind] ++ halfBytes e.oldCounter
    ++ halfBytes e.newCounter ++ halfBytes e.fare ++ wordBytes e.balanceAfter
    ++ halfBytes ((e.written.map (·.1)).getD 0) ++ halfBytes ((e.written.map (·.2)).getD 0)
    ++ match e.state with
      | .pending => [0] ++ optional 4 none ++ optional 4 none
      | .torn start reference =>
        [1] ++ optional 4 (some (wordBytes reference)) ++ optional 4 (some (natWord (remaining now start window)))

/-- TEAR LIST (R207): the tear window in s, then the entries in the order they were written. -/
def execTearList (body : List Byte) (s : State) : Host.Outcome State Fault Refusal :=
  whenRunning s fun s =>
    s.query 0x1F 0 body fun t =>
      natHalf t.setup.tearWindow ++ counted (t.tears.map fun e => e.toBytes t.now t.tearWindowMs)

end Sys2Proof.Machine
end

