-- ==== Sys2Proof/Machine/CardReplies.lean ====
section
/-! DEFINITION. The meanings of the card replies: name answer, card image, proof answer, READY, STALE, SETTLED (sections 2.2 to 2.6). A reply that no open exchange expects is discarded, but it is a front-end response all the same (R8, R10). -/

namespace Sys2Proof.Machine

/-- The command of a face's open exchange. -/
def State.exchanged (s : State) (f : Face) : Option CardCommand := (s.face f).exchange.map (·.command)

/-- A card reply arrives: it is a front-end response (R8); when the open exchange expects it, the exchange ends and the reply
is handed on, else it is discarded (R10). -/
def State.cardReply (s : State) (f : Face) (expected : CardCommand → Bool) (act : State → State) : State :=
  let s1 := s.responded f
  match s1.exchanged f with
  | some c => if expected c then act (s1.closeExchange f) else s1
  | none => s1

/-- The name answer (R24, R25, R26). -/
def execNameAnswer (f : Face) (number : CardNumber) (cls generation : Byte) (status : CardStatus) (s : State) :
    Host.Outcome State Fault Refusal :=
  whenRunning s fun s =>
    s.cardReply f (fun c => decide (c = .name)) fun t =>
      let a : NameAnswer := { number := number, cls := cls, generation := generation, status := status }
      let u := t.setContext f { t.context f with name := some a }
      if u.refusesBefore f then u.refuseBefore f else u.admitCard f a

/-- The card image in READING or CONFIRMING (R30, R41). A reply that is not 64 bytes long is no card image. -/
def execCardImage (f : Face) (image : List Byte) (s : State) : Host.Outcome State Fault Refusal :=
  whenRunning s fun s =>
    s.cardReply f (fun c => decide (c = .fetch ∧ image.length = 64)) fun t =>
      match (t.context f).state with
      | .reading => t.readImage f image
      | .confirming => t.confirmRead f image
      | _ => t

/-- The proof the context expects: its copied key, its challenge, and the counter it fetched (R20). -/
def Context.expectedProof (c : Context) : Word :=
  Machine.expectedProof (c.key.getD 0) c.number (c.challenge.getD 0) c.fetchedCounter

/-- A proof that does not match is evidence FORGED; on the block path it does not replace the refusing evidence (R28, R31). -/
def State.proofFailed (s : State) (f : Face) : State :=
  if (s.context f).blockPath then (s.raise .clone).endRefused f .evidence
  else
    match s.findEvidence f .forged with
    | (.carryOn, s1) =>
      match (s1.context f).image with
      | some c => s1.checkSightings f c
      | none => s1.endRefused f .evidence
    | (_, s1) => s1.endRefused f .evidence

/-- A proof that matches: the sighting checks, or the STAGE point on the block path (R31). -/
def State.proofMatched (s : State) (f : Face) : State :=
  if (s.context f).blockPath then s.blockStage f
  else match (s.context f).image with
    | some c => s.checkSightings f c
    | none => s.endRefused f .cardInvalid

/-- The proof answer (R31). -/
def execProofAnswer (f : Face) (proof : Word) (s : State) : Host.Outcome State Fault Refusal :=
  whenRunning s fun s =>
    s.cardReply f (fun c => match c with | .prove _ => true | _ => false) fun t =>
      if proof = (t.context f).expectedProof then t.proofMatched f else t.proofFailed f

/-- A STAGE exchange is open. -/
def CardCommand.isStage : CardCommand → Bool
  | .stage _ _ => true
  | _ => false

/-- READY (R39). -/
def execReady (f : Face) (s : State) : Host.Outcome State Fault Refusal :=
  whenRunning s fun s => s.cardReply f CardCommand.isStage fun t => t.readyToCommit f

/-- STALE (R38). -/
def execStale (f : Face) (s : State) : Host.Outcome State Fault Refusal :=
  whenRunning s fun s => s.cardReply f CardCommand.isStage fun t => t.endFailed f .writeFailed

/-- SETTLED, with the card's counter (R40). -/
def execSettled (f : Face) (counter : Half) (s : State) : Host.Outcome State Fault Refusal :=
  whenRunning s fun s =>
    s.cardReply f (fun c => decide (c = .settle)) fun t =>
      if counter = (t.context f).newCounter then t.confirmWrite f else t.notWritten f

end Sys2Proof.Machine
end

