-- ==== Sys2Proof/Machine/CheckRequests.lean ====
section
/-! DEFINITION. The meanings of the card check unit's requests: LOAD KEY, SET POLICY, the hotlist requests, PUSH SIGHTING (R17, R91, R112, R115 to R120). -/

namespace Sys2Proof.Machine

def State.setCheck (s : State) (c : CardCheck) : State := { s with check := c }

def State.setHotlist (s : State) (h : Hotlist) : State := { s with hotlist := h }

/-- The generation and the slot's state; a generation above 15 has no slot: a free code of its three states (log entry 2). -/
def State.keyFields (s : State) (g : Byte) : List Byte :=
  match s.check.keys.toList[g.toNat]? with
  | some slot => [g, codeIn keyStateList slot.state]
  | none => [g, s.freeCode keyStateList.length]

/-- The slot a LOAD KEY stores: EMPTY has key 0 (R17). -/
def keySlot (k : KeyState) (key : Word) : KeySlot := { state := k, key := if k = .empty then 0 else key }

/-- LOAD KEY (R17). -/
def execLoadKey (body : List Byte) (s : State) : Host.Outcome State Fault Refusal :=
  whenRunning s fun s =>
    s.request 0x08 6 body fun t =>
      let g := byteAt body 0
      if 15 < g.toNat then { result := .outOfRange, fields := t.keyFields g, after := t.drew 1 }
      else match decodeIn keyStateList (byteAt body 1) with
        | some k =>
          let u := t.setCheck
            { t.check with keys := t.check.keys.setIfInBounds g.toNat (keySlot k (wordAt body 2)) }
          { result := .done, fields := u.keyFields g, after := u }
        | none => { result := .outOfRange, fields := t.keyFields g, after := t }

/-- SET POLICY (R112): the reply carries the kind and the policy stored for it; for a kind that does not exist it carries the byte
sent as the kind (DESIGN CHOICE, log entry 52), and the policy is a free code of the three policies (log entry 2). -/
def execSetPolicy (body : List Byte) (s : State) : Host.Outcome State Fault Refusal :=
  whenRunning s fun s =>
    s.request 0x09 2 body fun t =>
      match readPolicy body with
      | some (k, p) =>
        { result := .done, fields := [codeIn evidenceList k, codeIn policyList p]
          after := t.setCheck { t.check with policies := t.check.policies.set k p } }
      | none =>
        match decodeIn evidenceList (byteAt body 0) with
        | some k =>
          { result := .outOfRange, fields := [codeIn evidenceList k, codeIn policyList (t.check.policies.get k)], after := t }
        | none => { result := .outOfRange, fields := [byteAt body 0, t.freeCode policyList.length], after := t.drew 1 }

/-! ### The hotlist requests -/

/-- The two counts of R117: numbers in the list, LOCAL numbers. -/
def Hotlist.counts (h : Hotlist) : List Byte :=
  natHalf h.entries.length ++ natHalf (h.entries.countP fun e => decide (e.origin = .localAdd))

/-- Whether the number is in the list and, if so, its origin: one presence mark before the origin (R117, log entry 43). -/
def Hotlist.originField (h : Hotlist) (n : CardNumber) : List Byte :=
  optional 1 ((h.find n).map fun e => [codeIn hotOriginList e.origin])

/-- HOTLIST ADD by its four cases (R117). -/
def hotlistAdd (h : Hotlist) (n : CardNumber) : Result × Hotlist :=
  match h.find n with
  | some e => (.done, if e.origin = .host then h else h.makeHost n)
  | none => if h.entries.length < hotlistSize then (.done, h.addHost n) else (.full, h)

/-- HOTLIST ADD (R117). -/
def execHotlistAdd (body : List Byte) (s : State) : Host.Outcome State Fault Refusal :=
  whenRunning s fun s =>
    s.request 0x0F 8 body fun t =>
      let n := longAt body 0
      let r := hotlistAdd t.hotlist n
      { result := r.1, fields := longBytes n ++ r.2.originField n ++ r.2.counts, after := t.setHotlist r.2 }

/-- HOTLIST REMOVE (R118). -/
def execHotlistRemove (body : List Byte) (s : State) : Host.Outcome State Fault Refusal :=
  whenRunning s fun s =>
    s.request 0x10 8 body fun t =>
      let n := longAt body 0
      if t.hotlist.listed n then
        let h := t.hotlist.remove n
        { result := .done, fields := longBytes n ++ h.counts, after := t.setHotlist h }
      else { result := .notFound, fields := longBytes n ++ t.hotlist.counts, after := t }

/-- The range a slot holds and whether it is enabled; a slot above 7 has none: two free numbers
and a free mark (log entry 2). -/
def State.rangeFields (s : State) (slot : Byte) : List Byte :=
  match s.check.ranges.toList[slot.toNat]? with
  | some r => slot :: longBytes r.low ++ longBytes r.high ++ [markByte r.enabled]
  | none => slot :: s.freeBytes 16 ++ [(s.drew 16).freeCode 2]

/-- HOTLIST RANGE (R115). -/
def execHotlistRange (body : List Byte) (s : State) : Host.Outcome State Fault Refusal :=
  whenRunning s fun s =>
    s.request 0x11 17 body fun t =>
      let slot := byteAt body 0
      if 7 < slot.toNat then { result := .outOfRange, fields := t.rangeFields slot, after := t.drew 17 }
      else
        let u := t.setCheck
          { t.check with ranges := t.check.ranges.setIfInBounds slot.toNat { low := longAt body 1, high := longAt body 9 } }
        { result := .done, fields := u.rangeFields slot, after := u }

/-- The HOTLIST QUERY reply's fields (R120). The covering slots are a list, each slot's number in rising order after their count (DESIGN
CHOICE, log entry 55). -/
def State.hotlistFields (s : State) (n : CardNumber) : List Byte :=
  longBytes n
    ++ optional 2 ((s.hotlist.find n).map fun e => [codeIn hotOriginList e.origin, markByte e.ownBlock])
    ++ counted ((s.coveringSlots n).map fun i => [natByte i])
    ++ [markByte (s.hotlisted n)] ++ s.hotlist.counts

/-- HOTLIST QUERY (R120). -/
def execHotlistQuery (body : List Byte) (s : State) : Host.Outcome State Fault Refusal :=
  whenRunning s fun s => s.query 0x12 8 body fun t => t.hotlistFields (longAt body 0)

/-! ### PUSH SIGHTING (R91) -/

/-- A sighting part in a reply; an unknown gate is 255 (R210). -/
def Sighting.toBytes (x : Sighting) : List Byte :=
  halfBytes x.counter ++ wordBytes x.chain ++ halfBytes x.station ++ [x.gate.getD 255] ++ halfBytes x.day
    ++ halfBytes x.minute ++ [codeIn directionList x.direction, codeIn sightingSourceList x.source]

/-- A pushed sighting replaces the entry's when there is none or its counter is greater. -/
def SightingEntry.takesPush (e : SightingEntry) (x : Sighting) : Bool :=
  match e.sighting with
  | none => true
  | some old => decide (old.counter.toNat < x.counter.toNat)

/-- PUSH SIGHTING (R91). The reply of an accepted push: replaced 0 or ignored 1, then the sighting part. -/
def execPushSighting (body : List Byte) (s : State) : Host.Outcome State Fault Refusal :=
  whenRunning s fun s =>
    s.request 0x13 21 body fun t =>
      match readPush body with
      | none => { result := .outOfRange, fields := [], after := t }
      | some p =>
        match findOrCreate t.sightings p.number with
        | none => { result := .full, fields := [], after := t }
        | some (e, l) =>
          if e.takesPush p.sighting then
            { result := .done, fields := (0 : Byte) :: p.sighting.toBytes
              after := { t with sightings := touchSighting l { e with sighting := some p.sighting } } }
          else
            { result := .done, fields := (1 : Byte) :: (e.sighting.map Sighting.toBytes).getD [], after := t }

end Sys2Proof.Machine
end

