-- ==== Sys2Proof/Machine/FaceEvents.lean ====
section
/-! DEFINITION. The meanings of the reader faces' commands: the field's settling, polls, front-end responses and command timeouts (sections 1.1 to 1.3). -/

namespace Sys2Proof.Machine

/-- The settling time ends: POLLING, and the first poll at once (R2). -/
def execSettlingTimeExpiry (f : Face) (s : State) : Host.Outcome State Fault Refusal :=
  whenRunning s fun s =>
    let u := s.face f
    if u.state = .settling ∧ due s.now u.settleStart settlingTime = true then
      s.setFace f (({ u with state := .polling, settleStart := none } : FaceUnit).startPoll s.now)
    else s

/-- The poll interval expires in POLLING or WATCHING (R4). -/
def execPollDue (f : Face) (s : State) : Host.Outcome State Fault Refusal :=
  whenRunning s fun s =>
    let u := s.face f
    if (u.state = .polling ∨ u.state = .watching) ∧ due s.now u.pollStart pollInterval = true then
      s.setFace f (u.startPoll s.now)
    else s

/-- A poll ends unanswered: the miss count if neither WAKE got a response (R8), then the removal watch (R7). -/
def State.pollUnanswered (s : State) (f : Face) (p : Poll) : State :=
  let u := s.face f
  let misses := if p.responded then u.missCount else u.missCount + 1
  let u1 := { u with poll := none, missCount := misses }
  if 3 ≤ misses then (s.setFace f u1).readerFault f
  else if u.state = .watching then
    if 2 ≤ u.unanswered + 1 then
      (s.setFace f { u1 with state := .polling, pollStart := some s.now, unanswered := 0, lastOutcome := .noOutcome }).cardRemoved f
    else s.setFace f { u1 with unanswered := u.unanswered + 1 }
  else s.setFace f u1

/-- The 25 ms timeout of a poll's WAKE: the first sends the WAKE again, the second makes the poll unanswered (R4). -/
def execWakeTimeout (f : Face) (s : State) : Host.Outcome State Fault Refusal :=
  whenRunning s fun s =>
    match (s.face f).poll with
    | none => s
    | some p =>
      if reached s.now p.sentAt replyTimeout = false then s
      else if p.second then s.pollUnanswered f p
      else s.setFace f { s.face f with poll := some { p with second := true, sentAt := s.now } }

/-- A single well-formed presence answer ends a poll as answered (R4, R5); elsewhere it is discarded (R10). -/
def execPresenceAnswer (f : Face) (s : State) : Host.Outcome State Fault Refusal :=
  whenRunning s fun s =>
    let s1 := s.responded f
    if (s.face f).poll.isSome then s1.pollAnswered f else s1

/-- A collision report ends a poll as a collision (R4, R6); elsewhere it is discarded (R10). -/
def execCollisionReport (f : Face) (s : State) : Host.Outcome State Fault Refusal :=
  whenRunning s fun s =>
    let s1 := s.responded f
    if (s.face f).poll.isSome then s1.pollCollision f else s1

/-- A garbled or doubled presence answer ends a poll as a collision (R4); a garbled reply elsewhere is discarded (R10). -/
def execGarbledReply (f : Face) (s : State) : Host.Outcome State Fault Refusal :=
  whenRunning s fun s =>
    let s1 := s.responded f
    if (s.face f).poll.isSome then s1.pollCollision f else s1

/-- A silence notice records that the front end is alive, and ends nothing (R4, R8). -/
def execSilenceNotice (f : Face) (s : State) : Host.Outcome State Fault Refusal :=
  whenRunning s fun s => s.responded f

/-- WAKE, NAME, FETCH and STAGE are sent once more; PROVE and SETTLE are not (R11). -/
def CardCommand.isResent (c : CardCommand) : Bool :=
  match c with
  | .wake => true
  | .name => true
  | .prove _ => false
  | .fetch => true
  | .stage _ _ => true
  | .settle => false

/-- The 25 ms reply timeout of an exchange (R11). -/
def execCommandTimeout (f : Face) (s : State) : Host.Outcome State Fault Refusal :=
  whenRunning s fun s =>
    match (s.face f).exchange with
    | none => s
    | some e =>
      if reached s.now e.sentAt replyTimeout = false then s
      else if e.command.isResent = true ∧ e.resent = false then
        s.setFace f { s.face f with exchange := some { e with sentAt := s.now, resent := true } }
      else if e.command = .settle then (s.closeExchange f).settleTimeout f
      else (s.closeExchange f).cardLost f

end Sys2Proof.Machine
end

