-- ==== Sys2Proof/Machine/FareRequests.lean ====
section
/-! DEFINITION. The meanings of the fare unit's requests: LOAD STATIONS, LOAD BANDS, LOAD FARES, LOAD CLASSES, RELEASE DAYS (section 3.1). -/

namespace Sys2Proof.Machine

def State.setFare (s : State) (u : FareUnit) : State := { s with fare := u }

/-- The items of a vector from place `first` on, replaced by a list in order. -/
def replaceFrom {α : Type} {n : Nat} (v : Vector α n) (first : Nat) (items : List α) : Vector α n :=
  Vector.ofFn fun (i : Fin n) => if first ≤ i.val then items.getD (i.val - first) (v[i.val]) else v[i.val]

/-- LOAD STATIONS (R58): the reply carries the first station, the count and the loaded entries of the whole table. -/
def execLoadStations (body : List Byte) (s : State) : Host.Outcome State Fault Refusal :=
  whenRunning s fun s =>
    s.takeRequest 0x04 (stationsFit body) fun t =>
      let fields := fun (u : State) =>
        halfBytes (halfAt body 0) ++ halfBytes (halfAt body 2)
          ++ natHalf (u.fare.stations.toList.countP fun e => e.loaded)
      match readStations body with
      | some (first, entries) =>
        let u := t.setFare { t.fare with stations := replaceFrom t.fare.stations first entries }
        { result := .done, fields := fields u, after := u }
      | none => { result := .outOfRange, fields := fields t, after := t }

/-- LOAD BANDS (R59): the reply carries the first row in one byte and the count in the two of a table count (R210). -/
def execLoadBands (body : List Byte) (s : State) : Host.Outcome State Fault Refusal :=
  whenRunning s fun s =>
    s.takeRequest 0x05 (bandsFit body) fun t =>
      let fields := byteAt body 0 :: natHalf (byteAt body 1).toNat
      match readBands body with
      | some (first, rows) =>
        { result := .done, fields := fields
          after := t.setFare { t.fare with bands := replaceFrom t.fare.bands first rows } }
      | none => { result := .outOfRange, fields := fields, after := t }

/-- LOAD FARES (R61): the reply carries every value as stored. -/
def execLoadFares (body : List Byte) (s : State) : Host.Outcome State Fault Refusal :=
  whenRunning s fun s =>
    s.request 0x06 81 body fun t =>
      match readFares body with
      | some f =>
        { result := .done, fields := f.toBytes, after := t.setFare { t.fare with fares := f, faresLoaded := true } }
      | none => { result := .outOfRange, fields := t.fare.fares.toBytes, after := t }

/-- One named class of the reply: the class with its stored d and C. A class above 7 has none: a free
discount of 0 to 100 and a free cap (log entry 2). -/
def State.classBytes (s : State) (cls : Byte) : List Byte :=
  match s.fare.classes.toList[cls.toNat]? with
  | some e => [cls, e.discount] ++ halfBytes e.cap
  | none => [cls, s.freeCode 101] ++ (s.drew 1).freeBytes 2

/-- The fields of a list of named classes, one item for each entry carried, so a class named twice is listed twice (DESIGN
CHOICE, log entry 39); every class that does not exist draws fresh free values. -/
def State.namedClassBytes (s : State) : List Byte → List (List Byte)
  | [] => []
  | c :: cs => s.classBytes c :: (if c.toNat ≤ 7 then s else s.drew 3).namedClassBytes cs

/-- The entries of a LOAD CLASSES are applied in the order carried (R62). -/
def applyClasses (v : Vector ClassEntry 8) (l : List (Byte × ClassEntry)) : Vector ClassEntry 8 :=
  l.foldl (fun u e => u.setIfInBounds e.1.toNat e.2) v

/-- LOAD CLASSES (R62): the reply carries each class named with its stored d and C. -/
def execLoadClasses (body : List Byte) (s : State) : Host.Outcome State Fault Refusal :=
  whenRunning s fun s =>
    s.takeRequest 0x07 (classesFit body) fun t =>
      match readClasses body with
      | some l =>
        let u := t.setFare { t.fare with classes := applyClasses t.fare.classes l }
        { result := .done, fields := counted (u.namedClassBytes (namedClasses body)), after := u }
      | none =>
        let unknown := (namedClasses body).countP fun c => decide (7 < c.toNat)
        { result := .outOfRange, fields := counted (t.namedClassBytes (namedClasses body)), after := t.drew (3 * unknown) }

def releasedSize : Nat := 16

/-- RELEASE DAYS by its action (R63). -/
def releaseDays (a : ReleaseAction) (pair : Half × Half) (l : List (Half × Half)) : Result × List (Half × Half) :=
  match a with
  | .add =>
    if 1023 < pair.1.toNat then (.outOfRange, l)
    else if l.contains pair then (.done, l)
    else if releasedSize ≤ l.length then (.full, l)
    else (.done, l ++ [pair])
  | .remove => if l.contains pair then (.done, l.filter fun p => decide (p ≠ pair)) else (.notFound, l)
  | .clear => (.done, [])

/-- RELEASE DAYS (R63): the reply carries the action, the pair where one was given, and the number of pairs. With an action
that has no code the reply carries the byte sent as the action (DESIGN CHOICE, log entry 52), and the manual does not say whether a
pair was given: the presence mark is free, and the pair follows as it was carried or as zeros (R210, log entry 2). -/
def execReleaseDays (body : List Byte) (s : State) : Host.Outcome State Fault Refusal :=
  whenRunning s fun s =>
    s.request 0x0E 5 body fun t =>
      let pair := (halfAt body 1, halfAt body 3)
      let carried := halfBytes pair.1 ++ halfBytes pair.2
      let shown := fun (p : List Byte) (u : State) => byteAt body 0 :: p ++ natHalf u.fare.released.length
      match decodeIn releaseActionList (byteAt body 0) with
      | some a =>
        let r := releaseDays a pair t.fare.released
        let u := t.setFare { t.fare with released := r.2 }
        { result := r.1, fields := shown (optional 4 (if a = .clear then none else some carried)) u, after := u }
      | none =>
        { result := .outOfRange, fields := shown (optional 4 (if t.freeCode 2 = 1 then some carried else none)) t
          after := t.drew 1 }

end Sys2Proof.Machine
end

