-- ==== Sys2Proof/Machine/JournalRequests.lean ====
section
/-! DEFINITION. The meanings of the journal's requests: READ JOURNAL and FREE JOURNAL (section 9.4). -/

namespace Sys2Proof.Machine

/-- The oldest sequence held, or 0 when the journal is empty. -/
def Journal.oldest (j : Journal) : Word := (j.records.head?.map (·.sequence)).getD 0

/-- The oldest records at or after a sequence, up to a count (R190). -/
def Journal.from (j : Journal) (start : Word) (count : Nat) : List Record :=
  (j.records.filter fun r => atOrAfter r.sequence start).take count

/-- The journal holds a record after the last one returned; clear when none was returned, as in a refused reply, which has no
last one (DESIGN CHOICE, log entry 40). -/
def Journal.more (j : Journal) (returned : List Record) : Bool :=
  match returned.getLast?, j.records.getLast? with
  | some a, some b => decide (a.sequence ≠ b.sequence)
  | _, _ => false

/-- The READ JOURNAL reply (11.2). -/
def State.journalFields (s : State) (start : Word) (count : Byte) (returned : List Record) : List Byte :=
  wordBytes start ++ count :: wordBytes s.journal.oldest ++ wordBytes s.journal.next
    ++ natHalf s.journal.records.length ++ natHalf s.freeSlots ++ natHalf s.obligations
    ++ [natByte returned.length, markByte (s.journal.more returned)] ++ (returned.map recordBytes).flatten

/-- READ JOURNAL (R190). A refused request returns no record. -/
def execReadJournal (body : List Byte) (s : State) : Host.Outcome State Fault Refusal :=
  whenRunning s fun s =>
    s.request 0x1B 5 body fun t =>
      let start := wordAt body 0
      let count := byteAt body 4
      if 1 ≤ count.toNat ∧ count.toNat ≤ 8 then
        { result := .done, fields := t.journalFields start count (t.journal.from start count.toNat), after := t }
      else { result := .outOfRange, fields := t.journalFields start count [], after := t }

/-- The journal without the records up to a sequence, from the oldest end (R191). Removal stops at the first record after the
sequence, also where a sequence about 2^31 away is at or after the newest record but not the oldest: none goes then (DESIGN CHOICE,
log entry 56). -/
def Journal.free (j : Journal) (upTo : Word) : Journal :=
  { j with records := j.records.dropWhile fun r => atOrAfter upTo r.sequence }

/-- FREE JOURNAL (R191). -/
def execFreeJournal (body : List Byte) (s : State) : Host.Outcome State Fault Refusal :=
  whenRunning s fun s =>
    s.request 0x1C 4 body fun t =>
      let u : State := { t with journal := t.journal.free (wordAt body 0) }
      { result := .done
        fields := natHalf (t.journal.records.length - u.journal.records.length) ++ wordBytes u.journal.oldest
          ++ wordBytes u.journal.next ++ natHalf u.freeSlots ++ natHalf u.obligations
        after := u }

end Sys2Proof.Machine
end

