-- ==== Sys2Proof/Machine/LinkUnit.lean ====
section
/-! DEFINITION. The meanings of the link unit's commands: IDENTIFY, RESET, unknown and damaged frames, the collector and the end of a reply (section 10). -/

namespace Sys2Proof.Machine

/-- The part code of the GA220 and the largest body of the link (R204). -/
def partCode : Half := 0x0220
def largestBody : Nat := 1024

/-- The IDENTIFY reply's fields, in the order of R204. The number of ACTIVE key slots takes one byte: R210 gives table and list
counts two and does not say whether it is one (DESIGN CHOICE, log entry 41). One presence mark stands before station and gate
(log entry 43). -/
def State.identity (s : State) : List Byte :=
  halfBytes partCode ++ [Config.siliconRevision] ++ natHalf largestBody
    ++ optional 3 (s.setup.place.map fun p => halfBytes p.station ++ [p.gate])
    ++ [markByte s.fare.faresLoaded,
        natByte (s.check.keys.toList.countP fun k => decide (k.state = .active)),
        codeIn serviceStateList s.service.state, markByte s.service.clock.isSet, markByte s.service.retainedValid]
    ++ wordBytes s.now

/-- IDENTIFY (R204). -/
def execIdentify (body : List Byte) (s : State) : Host.Outcome State Fault Refusal :=
  whenRunning s fun s => s.query 0x01 0 body State.identity

/-- RESET (R208): the reply carries the next sequence; the reset takes effect when its last byte has been sent. -/
def execReset (body : List Byte) (s : State) : Host.Outcome State Fault Refusal :=
  whenRunning s fun s =>
    s.request 0x20 0 body fun t =>
      { result := .done, fields := wordBytes t.journal.next, after := t.setLink { t.link with resetPending := true } }

/-- A frame whose kind byte names no request (R202). -/
def execUnknownRequest (kind : Byte) (s : State) : Host.Outcome State Fault Refusal :=
  whenRunning s fun s => s.takeFrame fun t => (t, { kind := kind, body := [resultByte .unknownRequest] })

/-- A complete frame with a check mismatch (R200, R201). -/
def execCheckMismatch (kind : Byte) (s : State) : Host.Outcome State Fault Refusal :=
  whenRunning s fun s => s.takeFrame fun t => (t, badFrame (checkBody kind))

/-- A frame ended by a failed stop bit or a bad length (R198, R200). -/
def execFramingError (s : State) : Host.Outcome State Fault Refusal :=
  whenRunning s fun s => s.takeFrame fun t => (t, badFrame framingBody)

/-- More than 10 ms between two bytes of a frame being collected (R198, R200). No frame is being collected while hunting. -/
def execFrameGapTimeout (s : State) : Host.Outcome State Fault Refusal :=
  whenRunning s fun s =>
    if s.link.collector = .collecting then s.takeFrame fun t => (t, badFrame framingBody) else s

/-- A frame handed to a busy receive buffer (R200). A free buffer takes frames by the other commands. -/
def execFrameOverrun (s : State) : Host.Outcome State Fault Refusal :=
  whenRunning s fun s => if s.link.busy then s.takeFrame fun t => (t, badFrame framingBody) else s

/-- A start byte with a good stop bit arrives while the collector is hunting (R198). -/
def execFrameStart (s : State) : Host.Outcome State Fault Refusal :=
  whenRunning s fun s => s.setLink { s.link with collector := .collecting }

/-- The last byte of a reply has been sent (R200, R208). -/
def execReplySent (s : State) : Host.Outcome State Fault Refusal :=
  whenRunning s fun s =>
    if s.link.reply = none then s
    else if s.link.resetPending then s.linkReset
    else if 0 < s.link.overrun then
      s.setLink { s.link with reply := some (badFrame (overrunBody s.link.overrun)), overrun := 0 }
    else s.setLink { s.link with reply := none, busy := false }

end Sys2Proof.Machine
end

