-- ==== Sys2Proof/Machine/AisleEvents.lean ====
section
/-! DEFINITION. The meanings of the aisle's commands: beams, limits, the leaf's timers, grant expiry, alarms and tones (section 7). -/

namespace Sys2Proof.Machine

/-! ### Beams (R141, R142) -/

/-- A beam input level changes; the pin's level stands outside the part and is recorded whether or not the part runs. -/
def execBeamInputChange (b : Beam) (high : Bool) (s : State) : Host.Outcome State Fault Refusal :=
  let u := { s.aisle.beams.get b with high := high }
  let v := if s.power = .running then u.read s.now else u
  .next (s.setAisle { s.aisle with beams := s.aisle.beams.set b v })

/-- A pending change of a beam that has held for 30 ms is accepted: a beam event with the time the change began, or, for a
stuck beam, the end of its mark (R141, R142). -/
def State.acceptBeam (s : State) (b : Beam) (t : Word) : State :=
  let u := s.aisle.beams.get b
  if u.blocked = false then s.beamBlocked b t
  else if u.stuck then s.unstick b
  else s.beamCleared b t

/-- A beam's pending change has held for 30 ms (R141). -/
def execBeamDebounceExpiry (b : Beam) (s : State) : Host.Outcome State Fault Refusal :=
  whenRunning s fun s =>
    match (s.aisle.beams.get b).pendingSince with
    | some t => if reached s.now t debounceTime then s.acceptBeam b t else s
    | none => s

/-- A beam becomes stuck: its mark, the fault, then the run's end if every beam now counts as clear (R142, R144). -/
def State.becomeStuck (s : State) (b : Beam) : State :=
  let s1 := s.setAisle { s.aisle with
    beams := s.aisle.beams.set b { s.aisle.beams.get b with stuck := true }
    run := s.aisle.run.map fun r => r.beamCleared b }
  let s2 := s1.raiseFault (.beamStuck b)
  if s2.aisle.clear then s2.endRun s2.now else s2

/-- A beam has been blocked for 60 s (R142). -/
def execBeamStuck (b : Beam) (s : State) : Host.Outcome State Fault Refusal :=
  whenRunning s fun s =>
    let u := s.aisle.beams.get b
    if u.blocked = true ∧ u.stuck = false ∧ reached s.now u.blockedSince stuckTime = true then s.becomeStuck b else s

/-! ### Limits (R157 to R162) -/

def Aisle.limit (a : Aisle) : Limit → LineInput
  | .openLimit => a.openLimit
  | .closedLimit => a.closedLimit

def Aisle.setLimit (a : Aisle) (l : Limit) (u : LineInput) : Aisle :=
  match l with
  | .openLimit => { a with openLimit := u }
  | .closedLimit => { a with closedLimit := u }

/-- A line's level changes: the pin's level is recorded whether or not the part runs. -/
def LineInput.change (u : LineInput) (running : Bool) (level : Bool) (now : Word) : LineInput :=
  if running then u.read level now else { u with level := level }

/-- A limit input level changes (R157). -/
def execLimitInputChange (l : Limit) (asserted : Bool) (s : State) : Host.Outcome State Fault Refusal :=
  .next (s.setAisle (s.aisle.setLimit l ((s.aisle.limit l).change (decide (s.power = .running)) asserted s.now)))

/-- What an accepted assertion of a limit does to the leaf (R159, R161, R162). -/
def Aisle.limitAsserted (a : Aisle) (l : Limit) (now : Word) : Aisle :=
  match l, a.leaf with
  | .openLimit, .opening | .openLimit, .jammed => a.reachOpen now
  | .closedLimit, .closing | .closedLimit, .jammed => a.reachClosed now
  | _, _ => a

/-- A limit's change is accepted (R157). A release of the closed limit in CLOSED is a forced leaf (R158). -/
def State.acceptLimit (s : State) (l : Limit) : State :=
  let u := s.aisle.limit l
  let now := !u.accepted
  let a := s.aisle.setLimit l { u with accepted := now, pendingSince := none }
  if now then s.setAisle (a.limitAsserted l s.now)
  else if l = .closedLimit ∧ a.leaf = .closed then (s.setAisle a).raiseFault .leafForced
  else s.setAisle a

/-- A limit's pending change has held for 30 ms (R157). -/
def execLimitDebounceExpiry (l : Limit) (s : State) : Host.Outcome State Fault Refusal :=
  whenRunning s fun s => if due s.now (s.aisle.limit l).pendingSince debounceTime then s.acceptLimit l else s

/-! ### The leaf's timers (R159 to R161) -/

/-- The travel timer expires in OPENING or CLOSING: JAMMED and LEAF_TIMEOUT (R159, R161). -/
def execTravelTimeout (s : State) : Host.Outcome State Fault Refusal :=
  whenRunning s fun s =>
    if (s.aisle.leaf = .opening ∨ s.aisle.leaf = .closing) ∧ due s.now s.aisle.travelStart travelTime = true then
      (s.setAisle s.aisle.jam).raiseFault .leafTimeout
    else s

/-- The close delay has run 800 ms (R160). -/
def execCloseDelayExpiry (s : State) : Host.Outcome State Fault Refusal :=
  whenRunning s fun s =>
    if s.aisle.leaf = .opened ∧ due s.now s.aisle.closeStart closeDelay = true then
      s.setAisle (s.aisle.startClosing s.now)
    else s

/-! ### Grant expiry (R154) -/

/-- The GRANTED entry of a transaction whose expiry has passed and is not deferred yet. -/
def QueueEntry.expires (e : QueueEntry) (sequence now : Word) : Bool :=
  match e.state with
  | .granted q t life false => decide (q = sequence) && reached now t life
  | _ => false

/-- The entry is marked deferred (R154). -/
def QueueEntry.defer (e : QueueEntry) : QueueEntry :=
  match e.state with
  | .granted q t life _ => { e with state := .granted q t life true }
  | .reserved => e

/-- A run of the direction is in progress. -/
def Aisle.runIn (a : Aisle) (d : Direction) : Bool :=
  match a.run with
  | some r => decide (r.direction = match d with
    | .entry => .entry
    | .exit => .exit)
  | none => false

/-- A GRANTED entry expires with no run of its direction in progress (R154). -/
def State.expireGrant (s : State) (d : Direction) (p : QueueEntry → Bool) (e : QueueEntry) : State :=
  let s1 := (s.setAisle { s.aisle with queues := s.aisle.queues.set d ((s.aisle.queues.get d).eraseP p) }).recordExpired d e
  let s2 := s1.checkLock
  s2.setAisle (s2.aisle.refreshClose s2.now)

/-- A GRANTED entry reaches its expiry (R154). -/
def execGrantExpiry (d : Direction) (sequence : Word) (s : State) : Host.Outcome State Fault Refusal :=
  whenRunning s fun s =>
    let p := fun (e : QueueEntry) => e.expires sequence s.now
    match (s.aisle.queues.get d).find? p with
    | none => s
    | some e =>
      if s.aisle.runIn d then
        s.setAisle { s.aisle with queues := s.aisle.queues.set d (updateFirst p QueueEntry.defer (s.aisle.queues.get d)) }
      else s.expireGrant d p e

/-! ### Alarms and tones (R138, R149, R165) -/

/-- The passage alarm's end is reached, 3 s after its run ended (R149). -/
def execPassageAlarmEnd (s : State) : Host.Outcome State Fault Refusal :=
  whenRunning s fun s =>
    match s.aisle.passageAlarm with
    | .since t => if reached s.now t alarmTime then s.setAisle { s.aisle with passageAlarm := .silent } else s
    | _ => s

/-- The 3 s watch alarm expires (R138). -/
def execWatchAlarmEnd (s : State) : Host.Outcome State Fault Refusal :=
  whenRunning s fun s =>
    if due s.now s.aisle.watchAlarm alarmTime then s.setAisle { s.aisle with watchAlarm := none } else s

/-- An accept or refuse tone finishes playing (R165). -/
def execShortToneEnd (f : Face) (s : State) : Host.Outcome State Fault Refusal :=
  whenRunning s fun s =>
    match s.aisle.tones.get f with
    | some (tone, t) =>
      if reached s.now t (toneTime tone) then s.setAisle { s.aisle with tones := s.aisle.tones.set f none } else s
    | none => s

end Sys2Proof.Machine
end

