-- ==== Sys2Proof/Machine/PowerEvents.lean ====
section
/-! DEFINITION. The meanings of the commands of power, the hardware reset input, the emergency input and the service clock (R170, R175, R193 to R195, R209). -/

namespace Sys2Proof.Machine

/-- Main power applied, or the hardware reset input released (R194, R195). The part's own check of the store is the operand. -/
def execPowerOn (storeCheckMatches : Bool) (s : State) : Host.Outcome State Fault Refusal :=
  .next (s.powerOn storeCheckMatches)

/-- The hardware reset input is asserted (R209): the part is held in reset, and the exchange on the link is lost. -/
def execHardwareResetAssert (s : State) : Host.Outcome State Fault Refusal :=
  .next (if s.power = .running then { s with power := .heldInReset, link := Link.afterReset } else s)

/-- Main power is lost (R193): the backup supply keeps the retained store. -/
def execPowerLoss (s : State) : Host.Outcome State Fault Refusal :=
  .next { s with power := .off, link := Link.afterReset }

/-- The backup supply fails (R193): the store is invalid at the next power-on. -/
def execBackupSupplyFailure (s : State) : Host.Outcome State Fault Refusal := .next { s with storeKept := false }

/-- The emergency input level changes (R170). -/
def execEmergencyInputChange (asserted : Bool) (s : State) : Host.Outcome State Fault Refusal :=
  .next (s.setService { s.service with
    emergency := s.service.emergency.change (decide (s.power = .running)) asserted s.now })

/-- The emergency input's pending change has held for 30 ms (R170). -/
def execEmergencyDebounceExpiry (s : State) : Host.Outcome State Fault Refusal :=
  whenRunning s fun s =>
    let u := s.service.emergency
    if due s.now u.pendingSince debounceTime then
      let s1 := s.setService { s.service with emergency := { u with accepted := !u.accepted, pendingSince := none } }
      if u.accepted then s1 else s1.emergencyAsserted
    else s

/-- The count within the minute reaches 60 000 (R175). -/
def execMinuteTick (s : State) : Host.Outcome State Fault Refusal :=
  whenRunning s fun s =>
    if s.service.clock.isSet = true ∧ 60000 ≤ s.service.clock.ms then s.advanceMinute else s

end Sys2Proof.Machine
end

