-- ==== Sys2Proof/Machine/RingEvents.lean ====
section
/-! DEFINITION. The meanings of the gate ring's commands: arrivals, what comes home, the end of a sending, ring timeout, census, the expiries of holds and tear windows (sections 4.4 to 4.7, R55, R85). -/

namespace Sys2Proof.Machine

/-- The hop count at which a message has passed every place a live originator could be (R93). -/
def hopLimit : Nat := 63

/-- R93 steps 2 to 5: before a gate is set no action is taken; a message with this gate as origin has come home; one past
the hop limit is discarded; any other takes its arrival action `arrive`, which answers the message to forward. -/
def State.ringArrival (s : State) (origin hop : Byte) (unread : RingMessage) (home : State → State)
    (arrive : State → State × RingMessage) : State :=
  match s.setup.place with
  | none => if hopLimit ≤ hop.toNat then s else s.send unread
  | some p =>
    if origin = p.gate then home s
    else if hopLimit ≤ hop.toNat then s
    else (arrive s).1.send (arrive s).2

/-! ### HOLD (R96, R101) -/

/-- The hold part of R96's table: the entry afterwards, or `none` when it stays as it was, and whether this part contests. -/
def SightingEntry.takeHold (e : SightingEntry) (o : Byte) (now : Word) : Option SightingEntry × Bool :=
  match e.hold with
  | .noHold => (some { e with hold := .peer o now }, false)
  | .peer o2 _ => if o2 = o then (some { e with hold := .peer o now }, false) else (none, true)
  | .own _ =>
    (some { e with
      contestNote := some o
      displaced := e.displaced.map fun d => if d.1 = o then (o, now) else d }, true)

/-- The card claimed at the origin is behind a write this part has recorded (R96). -/
def SightingEntry.ahead (e : SightingEntry) (counterRead : Half) : Bool :=
  match e.sighting with
  | some x => decide (counterRead.toNat < x.counter.toNat)
  | none => false

/-- The arrival action of a HOLD: the state after, and whether this part contests it (R84, R96). -/
def State.holdArrives (s : State) (o : Byte) (n : CardNumber) (counterRead : Half) : State × Bool :=
  match findOrCreate s.sightings n with
  | none => (s, true)
  | some (e, l) =>
    let taken := e.takeHold o s.now
    let s1 := match taken.1 with
      | some e' => { s with sightings := touchSighting l e' }
      | none => s
    let s2 := match e.hold with
      | .own _ => s1.noteHolders n (.contest o)
      | _ => s1
    (s2, taken.2 || e.ahead counterRead)

/-- The context a HOLD that comes home is matched to: HOLDING, HOLD sent, the same number, the earliest sent (R101). -/
def State.holdOwner (s : State) (n : CardNumber) : Option Face :=
  s.ring.holdOrder.find? fun f =>
    let c := s.context f
    decide (c.state = .holding) && c.holdSent && decide (c.number = n)

/-- A HOLD comes home: the hold-return event of its context, or discarded (R34, R101). -/
def State.holdReturns (s : State) (n : CardNumber) (contest : HoldContest) : State :=
  match s.holdOwner n with
  | none => s
  | some f =>
    let c := s.context f
    let c1 := if ringMark contest.mark then { c with contested := true, notes := c.notes ++ [.contest contest.gate] } else c
    (s.setContext f c1).deciding f

/-- A HOLD arrives (R93, R96, R101). Forwarded, it keeps its last two bytes unless this part contests it (R211). -/
def execHold (origin hop : Byte) (number : CardNumber) (counterRead : Half) (contest : HoldContest) (s : State) :
    Host.Outcome State Fault Refusal :=
  whenRunning s fun s =>
    s.ringArrival origin hop (.hold origin (hop + 1) number counterRead contest)
      (fun t => t.holdReturns number contest)
      (fun t =>
        let r := t.holdArrives origin number counterRead
        (r.1, .hold origin (hop + 1) number counterRead (if r.2 then contestedAt t.gate else contest)))

/-! ### RELEASE (R97, R98) -/

/-- Step 1 of R97: peer(o) ends, and a displaced hold of o is removed. The entry moves in the recency order when its own hold field is
cleared, not for a displaced hold (DEDUCED from R82, log entry 49). -/
def State.clearPeer (s : State) (o : Byte) (n : CardNumber) : State :=
  match findSighting s.sightings n with
  | none => s
  | some e =>
    let e1 := { e with displaced := match e.displaced with
      | some d => if d.1 = o then none else some d
      | none => none }
    match e.hold with
    | .peer o2 _ =>
      if o2 = o then { s with sightings := touchSighting s.sightings { e1 with hold := .noHold } }
      else { s with sightings := replaceSighting s.sightings e1 }
    | _ => { s with sightings := replaceSighting s.sightings e1 }

/-- Step 2 of R97: the carried sighting is recorded when it is the first or has a greater counter. -/
def State.peerSighting (s : State) (n : CardNumber) (x : Sighting) : State :=
  match findOrCreate s.sightings n with
  | none => s
  | some (e, l) =>
    let newer := match e.sighting with
      | some old => decide (old.counter.toNat < x.counter.toNat)
      | none => true
    if newer then { s with sightings := touchSighting l { e with sighting := some x } } else s

/-- Step 3 of R97: the holding contexts receive a CONCURRENT note. -/
def State.committedElsewhere (s : State) (o : Byte) (n : CardNumber) (x : Sighting) : State :=
  ((s.clearPeer o n).peerSighting n x).noteHolders n .concurrent

/-- The arrival action of a RELEASE (R97, R98). -/
def State.releaseArrives (s : State) (o : Byte) (n : CardNumber) : ReleaseBody → State
  | .committed counter chain station day minute direction =>
    s.committedElsewhere o n
      { counter := counter, chain := chain, station := station, gate := some o, day := day, minute := minute
        direction := ringDirection direction, source := .peer }
  | .dropped _ => s.clearPeer o n
  | .uncertain _ => s.clearPeer o n

/-- A RELEASE arrives (R93, R97, R98, R102). -/
def execRelease (origin hop : Byte) (number : CardNumber) (body : ReleaseBody) (s : State) :
    Host.Outcome State Fault Refusal :=
  whenRunning s fun s =>
    s.ringArrival origin hop (.release origin (hop + 1) number body) id
      (fun t => (t.releaseArrives origin number body, .release origin (hop + 1) number body))

/-! ### ALERT and CENSUS (R99, R100, R102, R124) -/

/-- An ALERT arrives (R93, R99, R102, R124). -/
def execAlert (origin hop : Byte) (number : CardNumber) (kind : EvidenceKind) (block : Byte) (s : State) :
    Host.Outcome State Fault Refusal :=
  whenRunning s fun s =>
    s.ringArrival origin hop (.alert origin (hop + 1) number kind block) id
      (fun t =>
        ((if ringMark block then t.localAdd number false else t).noteHolders number (.alert kind),
          .alert origin (hop + 1) number kind block))

/-- A CENSUS arrives (R93, R100, R102). -/
def execCensus (origin hop : Byte) (s : State) : Host.Outcome State Fault Refusal :=
  whenRunning s fun s =>
    s.ringArrival origin hop (.census origin (hop + 1)) (fun t => t.censusHome hop)
      (fun t => (t, .census origin (hop + 1)))

/-- A bad message is discarded (R93 step 1, R211). -/
def execBadRingMessage (s : State) : Host.Outcome State Fault Refusal := whenRunning s id

/-- Ring-out has sent the message at the head of its queue (R94). -/
def execRingOutSent (s : State) : Host.Outcome State Fault Refusal :=
  whenRunning s fun s => s.setRing { s.ring with queue := s.ring.queue.tail }

/-! ### The ring's deadlines (R34, R85, R104, R105) -/

/-- The ring timeout of a HOLDING context has been reached. -/
def Context.timedOut (c : Context) (now : Word) : Bool :=
  decide (c.state = .holding) && match c.ringTimer with
    | some (t, d) => reached now t d
    | none => false

/-- A HOLD's ring timeout expires (R34, R104). -/
def execRingTimeout (f : Face) (s : State) : Host.Outcome State Fault Refusal :=
  whenRunning s fun s =>
    if (s.context f).timedOut s.now then
      let s1 := s.isolate
      (s1.setContext f { s1.context f with bypassed := true }).deciding f
    else s

/-- The 2 s census interval expires while ISOLATED (R105). -/
def execCensusDue (s : State) : Host.Outcome State Fault Refusal :=
  whenRunning s fun s =>
    if s.ring.state = .isolated ∧ due s.now s.ring.censusStart censusInterval = true then s.sendCensus else s

/-- A peer hold's expiry passes (R85). -/
def execPeerHoldExpiry (number : CardNumber) (s : State) : Host.Outcome State Fault Refusal :=
  whenRunning s fun s =>
    match findSighting s.sightings number with
    | none => s
    | some e =>
      match e.hold with
      | .peer _ t =>
        if reached s.now t peerHoldLife then { s with sightings := touchSighting s.sightings { e with hold := .noHold } } else s
      | _ => s

/-- A displaced hold's own expiry passes while the own hold stands (R85). -/
def execDisplacedHoldExpiry (number : CardNumber) (s : State) : Host.Outcome State Fault Refusal :=
  whenRunning s fun s =>
    match findSighting s.sightings number with
    | none => s
    | some e =>
      match e.displaced with
      | some (_, t) =>
        if reached s.now t peerHoldLife then { s with sightings := replaceSighting s.sightings { e with displaced := none } }
        else s
      | none => s

/-- A TORN entry's tear window passes (R55). -/
def execTearWindowExpiry (number : CardNumber) (s : State) : Host.Outcome State Fault Refusal :=
  whenRunning s fun s =>
    match findTear s.tears number with
    | some e => if s.windowPassed e then s.expireTear e else s
    | none => s

end Sys2Proof.Machine
end

