-- ==== Sys2Proof/Machine/ServiceRequests.lean ====
section
/-! DEFINITION. The meanings of the service unit's requests: SET CLOCK, CONFIG DONE, SET SERVICE, EMERGENCY, RESUME, ATTENTION, SET ATTENTION MASK, READ FAULT, CLEAR FAULT (section 8). -/

namespace Sys2Proof.Machine

/-- The SET CLOCK reply: day, service minute, flag and rollover minute as stored (R176). -/
def State.clockFields (s : State) : List Byte :=
  let k := s.service.clock
  halfBytes k.day ++ halfBytes k.minute ++ markByte k.peakDay :: halfBytes k.rollover

/-- The clock after an accepted SET CLOCK (R176). -/
def ClockRequest.apply (r : ClockRequest) (k : Clock) : Clock :=
  let rollover := r.rollover.getD k.rollover
  { isSet := true, day := r.day, minute := BitVec.ofNat 16 (serviceMinute r.minute.toNat rollover.toNat), ms := 0
    peakDay := r.peakDay, rollover := rollover }

/-- SET CLOCK (R176). -/
def execSetClock (body : List Byte) (s : State) : Host.Outcome State Fault Refusal :=
  whenRunning s fun s =>
    s.request 0x02 8 body fun t =>
      match readClock body with
      | some r =>
        let u := t.setService { t.service with clock := r.apply t.service.clock }
        { result := .done, fields := u.clockFields, after := u }
      | none => { result := .outOfRange, fields := t.clockFields, after := t }

def State.stateField (s : State) : List Byte := [codeIn serviceStateList s.service.state]

/-- An answer that carries the service state after the request. -/
def stateAnswer (r : Result) (t : State) : Answer := { result := r, fields := t.stateField, after := t }

/-- The conditions of CONFIG DONE (R168). -/
def State.configured (s : State) : Bool :=
  decide (s.service.state = .starting) && s.setup.place.isSome && s.fare.faresLoaded
    && s.check.keys.toList.any fun k => decide (k.state = .active)

/-- STARTING is left (R168): the new state, the ring ISOLATED and its first CENSUS (R105). -/
def State.leaveStarting (s : State) : State :=
  let s1 :=
    if s.service.emergency.accepted then (s.enterFree .emergency).raise .service else s.enterPlain .inService
  (s1.setRing { s1.ring with state := .isolated }).sendCensus

/-- CONFIG DONE (R168). -/
def execConfigDone (body : List Byte) (s : State) : Host.Outcome State Fault Refusal :=
  whenRunning s fun s =>
    s.request 0x0A 0 body fun t =>
      if t.configured then stateAnswer .done t.leaveStarting else stateAnswer .wrongState t

/-- SET SERVICE by its target (R169). -/
def State.setServiceTarget (s : State) (target : ServiceState) : Result × State :=
  if s.service.state = .inService ∧ target = .closed then (.done, s.enterPlain .closed)
  else if s.service.state = .closed ∧ target = .inService then (.done, s.enterPlain .inService)
  else if (s.service.state = .inService ∨ s.service.state = .closed) ∧ target = s.service.state then (.done, s)
  else (.wrongState, s)

/-- SET SERVICE (R169). -/
def execSetService (body : List Byte) (s : State) : Host.Outcome State Fault Refusal :=
  whenRunning s fun s =>
    s.request 0x0B 1 body fun t =>
      match decodeIn serviceStateList (byteAt body 0) with
      | some target => stateAnswer (t.setServiceTarget target).1 (t.setServiceTarget target).2
      | none => stateAnswer .outOfRange t

/-- EMERGENCY (R171). -/
def execEmergency (body : List Byte) (s : State) : Host.Outcome State Fault Refusal :=
  whenRunning s fun s =>
    s.request 0x0C 0 body fun t =>
      match t.service.state with
      | .inService | .closed | .lockdown => stateAnswer .done (t.enterFree .emergency)
      | .emergency => stateAnswer .done t
      | .starting => stateAnswer .wrongState t

/-- RESUME (R173). -/
def execResume (body : List Byte) (s : State) : Host.Outcome State Fault Refusal :=
  whenRunning s fun s =>
    s.request 0x0D 0 body fun t =>
      if t.mayResume then stateAnswer .done t.resumeService else stateAnswer .wrongState t

/-- ATTENTION (R182): the flags that are set, enabled or not, and every one of them cleared. -/
def execAttention (body : List Byte) (s : State) : Host.Outcome State Fault Refusal :=
  whenRunning s fun s =>
    s.request 0x17 0 body fun t =>
      { result := .done, fields := halfBytes t.service.flags.toBits
        after := t.setService { t.service with flags := FlagSet.none } }

/-- SET ATTENTION MASK (R181): the reply carries the mask stored and the level of the attention line. -/
def execSetAttentionMask (body : List Byte) (s : State) : Host.Outcome State Fault Refusal :=
  whenRunning s fun s =>
    s.request 0x18 2 body fun t =>
      let u := t.setService { t.service with mask := FlagSet.ofBits (halfAt body 0) }
      { result := .done, fields := halfBytes u.service.mask.toBits ++ [markByte u.attentionLine], after := u }

/-! ### Faults (R177, R179) -/

def snapshotBytes (x : CtxState × Option CardNumber) : List Byte :=
  codeIn ctxStateList x.1 :: optional 8 (x.2.map longBytes)

/-- A fault record in a reply, in the order of R177's list. -/
def FaultRecord.toBytes (r : FaultRecord) : List Byte :=
  faultKindByte r.kind :: wordBytes r.time
    ++ optional 4 (r.stamp.map fun x => halfBytes x.1 ++ halfBytes x.2)
    ++ optional 1 ((faultConcerns r.kind).map fun b => [b])
    ++ snapshotBytes r.snapshot.street ++ snapshotBytes r.snapshot.paid ++ [markByte r.recoverable]

/-- The width of a fault record in a reply. -/
def faultRecordWidth : Nat := 33

/-- The READ FAULT reply's fields: R179's four, then the retained-valid indication (R193). -/
def State.faultFields (s : State) : List Byte :=
  [codeIn serviceStateList s.service.state, markByte s.service.emergency.accepted]
    ++ optional faultRecordWidth (s.service.faultSlot.map FaultRecord.toBytes)
    ++ optional faultRecordWidth (s.service.lockdownCause.map FaultRecord.toBytes)
    ++ [markByte s.service.retainedValid]

/-- READ FAULT (R179). -/
def execReadFault (body : List Byte) (s : State) : Host.Outcome State Fault Refusal :=
  whenRunning s fun s => s.query 0x19 0 body State.faultFields

/-- CLEAR FAULT (R179). -/
def execClearFault (body : List Byte) (s : State) : Host.Outcome State Fault Refusal :=
  whenRunning s fun s =>
    s.request 0x1A 0 body fun t =>
      if t.service.state = .lockdown then { result := .wrongState, fields := [], after := t }
      else { result := .done, fields := [], after := t.setService { t.service with faultSlot := none } }

end Sys2Proof.Machine
end

