-- ==== Sys2Proof/Machine/WatchRequests.lean ====
section
/-! DEFINITION. The meanings of the watch unit's requests: SET WATCH for a unit and for the common settings, WATCH STATUS, CLEAR WATCH (sections 6.2 and 6.6). -/

namespace Sys2Proof.Machine

def State.setWatch (s : State) (w : Watch) : State := { s with watch := w }

/-- The six values of a unit and whether it is enabled. -/
def WatchUnit.toBytes (w : WatchUnit) : List Byte :=
  codeIn watchFieldList w.field :: longBytes w.low ++ longBytes w.high
    ++ [codeIn senseList w.sense, codeIn kindFilterList w.kind, w.group, markByte w.enabled]

/-- The SET WATCH reply for a unit; a unit above 7 does not exist: its six values and its enabled mark are
free, each among the codes it can have (R210, log entry 2). -/
def State.watchUnitFields (s : State) (target : Byte) : List Byte :=
  match s.watch.units.toList[target.toNat]? with
  | some w => target :: w.toBytes
  | none =>
    target :: s.freeCode watchFieldList.length :: (s.drew 1).freeBytes 16
      ++ [(s.drew 17).freeCode senseList.length, (s.drew 18).freeCode kindFilterList.length, (s.drew 19).freeCode 4,
          (s.drew 20).freeCode 2]

/-- The SET WATCH reply for the common settings: combine mode, action, countdown. -/
def State.watchCommonFields (s : State) : List Byte :=
  [codeIn combineList s.watch.combine, codeIn watchActionList s.watch.action] ++ halfBytes s.watch.countdown

/-- A SET WATCH that names a unit, or a target that does not exist (R128). -/
def State.programUnit (t : State) (body : List Byte) : Answer :=
  let target := byteAt body 0
  if 7 < target.toNat then { result := .outOfRange, fields := t.watchUnitFields target, after := t.drew 21 }
  else match readWatchUnit body with
    | some w =>
      let u := t.setWatch { t.watch with units := t.watch.units.setIfInBounds target.toNat w }
      { result := .done, fields := u.watchUnitFields target, after := u }
    | none => { result := .outOfRange, fields := t.watchUnitFields target, after := t }

/-- A SET WATCH that names the common settings (R129). -/
def State.programCommon (t : State) (body : List Byte) : Answer :=
  match readWatchCommon body with
  | some (c, a, n) =>
    let u := t.setWatch { t.watch with combine := c, action := a, countdown := n }
    { result := .done, fields := u.watchCommonFields, after := u }
  | none => { result := .outOfRange, fields := t.watchCommonFields, after := t }

/-- A SET WATCH body by its target byte: the two rows of the table share one kind byte (Table 27). -/
def State.program (t : State) (body : List Byte) : Answer :=
  if byteAt body 0 = commonTarget then t.programCommon body else t.programUnit body

/-- SET WATCH, as the row of a watch unit (R128). -/
def execSetWatchUnit (body : List Byte) (s : State) : Host.Outcome State Fault Refusal :=
  whenRunning s fun s => s.request 0x14 25 body fun t => t.program body

/-- SET WATCH, as the row of the common settings (R129). -/
def execSetWatchCommon (body : List Byte) (s : State) : Host.Outcome State Fault Refusal :=
  whenRunning s fun s => s.request 0x14 25 body fun t => t.program body

/-- A status in a reply; a pending sequence is 0 (R210). -/
def WatchStatus.toBytes (x : WatchStatus) : List Byte :=
  longBytes x.number ++ [codeIn faceList x.face, x.units] ++ wordBytes (x.sequence.getD 0) ++ [markByte x.more]

/-- The WATCH STATUS reply: the status, then the countdown, the combine mode and the action (R139). -/
def State.watchFields (s : State) : List Byte :=
  optional 15 (s.watch.status.map WatchStatus.toBytes) ++ halfBytes s.watch.countdown
    ++ [codeIn combineList s.watch.combine, codeIn watchActionList s.watch.action]

/-- WATCH STATUS (R139). -/
def execWatchStatus (body : List Byte) (s : State) : Host.Outcome State Fault Refusal :=
  whenRunning s fun s => s.query 0x15 0 body State.watchFields

/-- CLEAR WATCH (R139). -/
def execClearWatch (body : List Byte) (s : State) : Host.Outcome State Fault Refusal :=
  whenRunning s fun s =>
    s.request 0x16 0 body fun t =>
      { result := .done, fields := [], after := t.setWatch { t.watch with status := none } }

end Sys2Proof.Machine
end

