-- ==== Sys2Proof/Machine/Dispatch.lean ====
section
/-! DEFINITION. The one match from a command to its meaning: an arm for each row of the opcode table. -/

namespace Sys2Proof.Machine

def exec (i : Instr) (s : State) : Host.Outcome State Fault Refusal :=
  match i with
  | .identify body => Sys2Proof.Machine.execIdentify body s
  | .setClock body => Sys2Proof.Machine.execSetClock body s
  | .setAisle body => Sys2Proof.Machine.execSetAisle body s
  | .loadStations body => Sys2Proof.Machine.execLoadStations body s
  | .loadBands body => Sys2Proof.Machine.execLoadBands body s
  | .loadFares body => Sys2Proof.Machine.execLoadFares body s
  | .loadClasses body => Sys2Proof.Machine.execLoadClasses body s
  | .loadKey body => Sys2Proof.Machine.execLoadKey body s
  | .setPolicy body => Sys2Proof.Machine.execSetPolicy body s
  | .configDone body => Sys2Proof.Machine.execConfigDone body s
  | .setService body => Sys2Proof.Machine.execSetService body s
  | .emergency body => Sys2Proof.Machine.execEmergency body s
  | .resume body => Sys2Proof.Machine.execResume body s
  | .releaseDays body => Sys2Proof.Machine.execReleaseDays body s
  | .hotlistAdd body => Sys2Proof.Machine.execHotlistAdd body s
  | .hotlistRemove body => Sys2Proof.Machine.execHotlistRemove body s
  | .hotlistRange body => Sys2Proof.Machine.execHotlistRange body s
  | .hotlistQuery body => Sys2Proof.Machine.execHotlistQuery body s
  | .pushSighting body => Sys2Proof.Machine.execPushSighting body s
  | .setWatchUnit body => Sys2Proof.Machine.execSetWatchUnit body s
  | .setWatchCommon body => Sys2Proof.Machine.execSetWatchCommon body s
  | .watchStatus body => Sys2Proof.Machine.execWatchStatus body s
  | .clearWatch body => Sys2Proof.Machine.execClearWatch body s
  | .attention body => Sys2Proof.Machine.execAttention body s
  | .setAttentionMask body => Sys2Proof.Machine.execSetAttentionMask body s
  | .readFault body => Sys2Proof.Machine.execReadFault body s
  | .clearFault body => Sys2Proof.Machine.execClearFault body s
  | .readJournal body => Sys2Proof.Machine.execReadJournal body s
  | .freeJournal body => Sys2Proof.Machine.execFreeJournal body s
  | .readCounters body => Sys2Proof.Machine.execReadCounters body s
  | .aisleStatus body => Sys2Proof.Machine.execAisleStatus body s
  | .tearList body => Sys2Proof.Machine.execTearList body s
  | .reset body => Sys2Proof.Machine.execReset body s
  | .unknownRequest kind => Sys2Proof.Machine.execUnknownRequest kind s
  | .checkMismatch kind => Sys2Proof.Machine.execCheckMismatch kind s
  | .framingError => Sys2Proof.Machine.execFramingError s
  | .frameGapTimeout => Sys2Proof.Machine.execFrameGapTimeout s
  | .frameOverrun => Sys2Proof.Machine.execFrameOverrun s
  | .replySent => Sys2Proof.Machine.execReplySent s
  | .powerOn storeCheckMatches => Sys2Proof.Machine.execPowerOn storeCheckMatches s
  | .hardwareResetAssert => Sys2Proof.Machine.execHardwareResetAssert s
  | .powerLoss => Sys2Proof.Machine.execPowerLoss s
  | .settlingTimeExpiry f => Sys2Proof.Machine.execSettlingTimeExpiry f s
  | .pollDue f => Sys2Proof.Machine.execPollDue f s
  | .wakeTimeout f => Sys2Proof.Machine.execWakeTimeout f s
  | .presenceAnswer f => Sys2Proof.Machine.execPresenceAnswer f s
  | .collisionReport f => Sys2Proof.Machine.execCollisionReport f s
  | .garbledReply f => Sys2Proof.Machine.execGarbledReply f s
  | .silenceNotice f => Sys2Proof.Machine.execSilenceNotice f s
  | .commandTimeout f => Sys2Proof.Machine.execCommandTimeout f s
  | .nameAnswer f number cls generation status => Sys2Proof.Machine.execNameAnswer f number cls generation status s
  | .cardImage f image => Sys2Proof.Machine.execCardImage f image s
  | .proofAnswer f proof => Sys2Proof.Machine.execProofAnswer f proof s
  | .ready f => Sys2Proof.Machine.execReady f s
  | .stale f => Sys2Proof.Machine.execStale f s
  | .settled f counter => Sys2Proof.Machine.execSettled f counter s
  | .hold origin hop number counterRead contest => Sys2Proof.Machine.execHold origin hop number counterRead contest s
  | .release origin hop number body => Sys2Proof.Machine.execRelease origin hop number body s
  | .alert origin hop number kind block => Sys2Proof.Machine.execAlert origin hop number kind block s
  | .census origin hop => Sys2Proof.Machine.execCensus origin hop s
  | .badRingMessage => Sys2Proof.Machine.execBadRingMessage s
  | .ringOutSent => Sys2Proof.Machine.execRingOutSent s
  | .ringTimeout f => Sys2Proof.Machine.execRingTimeout f s
  | .censusDue => Sys2Proof.Machine.execCensusDue s
  | .peerHoldExpiry number => Sys2Proof.Machine.execPeerHoldExpiry number s
  | .displacedHoldExpiry number => Sys2Proof.Machine.execDisplacedHoldExpiry number s
  | .tearWindowExpiry number => Sys2Proof.Machine.execTearWindowExpiry number s
  | .beamInputChange beam high => Sys2Proof.Machine.execBeamInputChange beam high s
  | .beamDebounceExpiry beam => Sys2Proof.Machine.execBeamDebounceExpiry beam s
  | .beamStuck beam => Sys2Proof.Machine.execBeamStuck beam s
  | .limitInputChange limit asserted => Sys2Proof.Machine.execLimitInputChange limit asserted s
  | .limitDebounceExpiry limit => Sys2Proof.Machine.execLimitDebounceExpiry limit s
  | .travelTimeout => Sys2Proof.Machine.execTravelTimeout s
  | .closeDelayExpiry => Sys2Proof.Machine.execCloseDelayExpiry s
  | .grantExpiry direction sequence => Sys2Proof.Machine.execGrantExpiry direction sequence s
  | .passageAlarmEnd => Sys2Proof.Machine.execPassageAlarmEnd s
  | .watchAlarmEnd => Sys2Proof.Machine.execWatchAlarmEnd s
  | .shortToneEnd f => Sys2Proof.Machine.execShortToneEnd f s
  | .emergencyInputChange asserted => Sys2Proof.Machine.execEmergencyInputChange asserted s
  | .emergencyDebounceExpiry => Sys2Proof.Machine.execEmergencyDebounceExpiry s
  | .minuteTick => Sys2Proof.Machine.execMinuteTick s
  | .backupSupplyFailure => Sys2Proof.Machine.execBackupSupplyFailure s
  | .frameStart => Sys2Proof.Machine.execFrameStart s

end Sys2Proof.Machine
end

