-- ==== Sys2Proof/Machine/Timers.lean ====
section
/-! DEFINITION. Time: the millisecond that passes when no command waits, and the deadlines it reaches (R174, R175). -/

namespace Sys2Proof.Machine

/-- A command when a condition holds. -/
def whenDue (b : Bool) (c : Instr) : List Instr := if b then [c] else []

/-- The deadlines of a face and its context that the clock has reached. -/
def State.faceDeadlines (s : State) (f : Face) : List Instr :=
  let u := s.face f
  whenDue (decide (u.state = .settling) && due s.now u.settleStart settlingTime) (.settlingTimeExpiry f)
    ++ whenDue (decide (u.state = .polling ∨ u.state = .watching) && due s.now u.pollStart pollInterval) (.pollDue f)
    ++ whenDue (due s.now (u.poll.map (·.sentAt)) replyTimeout) (.wakeTimeout f)
    ++ whenDue (due s.now (u.exchange.map (·.sentAt)) replyTimeout) (.commandTimeout f)
    ++ whenDue ((s.context f).timedOut s.now) (.ringTimeout f)
    ++ match s.aisle.tones.get f with
      | some (tone, t) => whenDue (reached s.now t (toneTime tone)) (.shortToneEnd f)
      | none => []

/-- The expiry of an entry's peer hold or displaced hold. -/
def SightingEntry.deadlines (e : SightingEntry) (now : Word) : List Instr :=
  (match e.hold with
    | .peer _ t => whenDue (reached now t peerHoldLife) (.peerHoldExpiry e.number)
    | _ => [])
    ++ match e.displaced with
      | some (_, t) => whenDue (reached now t peerHoldLife) (.displacedHoldExpiry e.number)
      | none => []

def State.beamDeadlines (s : State) (b : Beam) : List Instr :=
  let u := s.aisle.beams.get b
  whenDue (due s.now u.pendingSince debounceTime) (.beamDebounceExpiry b)
    ++ whenDue (u.blocked && !u.stuck && reached s.now u.blockedSince stuckTime) (.beamStuck b)

/-- The expiry of a GRANTED entry that is not deferred. -/
def QueueEntry.deadlines (e : QueueEntry) (d : Direction) (now : Word) : List Instr :=
  match e.state with
  | .granted q t life false => whenDue (reached now t life) (.grantExpiry d q)
  | _ => []

def State.aisleDeadlines (s : State) : List Instr :=
  let a := s.aisle
  [Beam.beam1, .beam2, .beam3, .beam4].flatMap s.beamDeadlines
    ++ whenDue (due s.now a.openLimit.pendingSince debounceTime) (.limitDebounceExpiry .openLimit)
    ++ whenDue (due s.now a.closedLimit.pendingSince debounceTime) (.limitDebounceExpiry .closedLimit)
    ++ whenDue (decide (a.leaf = .opening ∨ a.leaf = .closing) && due s.now a.travelStart travelTime) .travelTimeout
    ++ whenDue (decide (a.leaf = .opened) && due s.now a.closeStart closeDelay) .closeDelayExpiry
    ++ a.queues.entry.flatMap (fun e => e.deadlines .entry s.now)
    ++ a.queues.exit.flatMap (fun e => e.deadlines .exit s.now)
    ++ (match a.passageAlarm with
      | .since t => whenDue (reached s.now t alarmTime) .passageAlarmEnd
      | _ => [])
    ++ whenDue (due s.now a.watchAlarm alarmTime) .watchAlarmEnd

/-- Every deadline the passage clock and the service clock have reached, as the commands of their expiry. -/
def State.deadlines (s : State) : List Instr :=
  s.faceDeadlines .street ++ s.faceDeadlines .paid
    ++ whenDue (decide (s.ring.state = .isolated) && due s.now s.ring.censusStart censusInterval) .censusDue
    ++ s.sightings.flatMap (fun e => e.deadlines s.now)
    ++ s.tears.flatMap (fun e => whenDue (s.windowPassed e) (.tearWindowExpiry e.number))
    ++ s.aisleDeadlines
    ++ whenDue (due s.now s.service.emergency.pendingSince debounceTime) .emergencyDebounceExpiry
    ++ whenDue (s.service.clock.isSet && decide (60000 ≤ s.service.clock.ms)) .minuteTick

/-- Both clocks count one millisecond; the service clock only while it is set (R174, R175). -/
def State.clocksAdvance (s : State) : State :=
  let k := s.service.clock
  { s with
    now := s.now + 1
    service := { s.service with clock := { k with ms := if k.isSet then k.ms + 1 else k.ms } } }

/-- A millisecond passes while the part runs: the clocks count, and the deadlines now reached wait as commands, in a free order
(the manual fixes none between deadlines of one moment). A part that does not run keeps no time. -/
def State.millisecond (s : State) : State :=
  if s.power = .running then
    let s1 := s.clocksAdvance
    let found := s1.deadlines
    { s1 with pending := freelyOrdered s1.freeCount found, freeCount := s1.freeCount + found.length }
  else s

end Sys2Proof.Machine
end

