-- ==== Sys2Proof/Machine/Wire.lean ====
section
/-! DEFINITION. From bytes to commands: what the collector of the link makes of the bytes on RXD (R198 to R200), and what ring-in makes of its bytes (R211). -/

namespace Sys2Proof.Machine

/-! ### The link -/

/-- The command of a complete frame with a good check: the request its kind byte names (Table 27), SET WATCH by its target. -/
def requestCommand (kind : Byte) (body : List Byte) : Instr :=
  match kind.toNat with
  | 0x01 => .identify body
  | 0x02 => .setClock body
  | 0x03 => .setAisle body
  | 0x04 => .loadStations body
  | 0x05 => .loadBands body
  | 0x06 => .loadFares body
  | 0x07 => .loadClasses body
  | 0x08 => .loadKey body
  | 0x09 => .setPolicy body
  | 0x0A => .configDone body
  | 0x0B => .setService body
  | 0x0C => .emergency body
  | 0x0D => .resume body
  | 0x0E => .releaseDays body
  | 0x0F => .hotlistAdd body
  | 0x10 => .hotlistRemove body
  | 0x11 => .hotlistRange body
  | 0x12 => .hotlistQuery body
  | 0x13 => .pushSighting body
  | 0x14 => if byteAt body 0 = commonTarget then .setWatchCommon body else .setWatchUnit body
  | 0x15 => .watchStatus body
  | 0x16 => .clearWatch body
  | 0x17 => .attention body
  | 0x18 => .setAttentionMask body
  | 0x19 => .readFault body
  | 0x1A => .clearFault body
  | 0x1B => .readJournal body
  | 0x1C => .freeJournal body
  | 0x1D => .readCounters body
  | 0x1E => .aisleStatus body
  | 0x1F => .tearList body
  | 0x20 => .reset body
  | _ => .unknownRequest kind

/-- The command of a complete frame's bytes after its start byte: length, kind, body, check (R199). -/
def frameCommand (bytes : List Byte) : Instr :=
  let checked := bytes.take (bytes.length - 2)
  if halfAt bytes (bytes.length - 2) = crc16 checked then requestCommand (byteAt checked 2) (checked.drop 3)
  else .checkMismatch (byteAt checked 2)

/-- A byte on RXD: whether its stop bit is good, and whether more than 10 ms passed since the start of the byte before it. -/
structure LineByte where
  byte : Byte
  stopGood : Bool
  late : Bool
  deriving DecidableEq, Repr

/-- The byte that ten bit times on RXD bring: start bit, data bits from the least significant on, stop bit (R197). -/
def LineByte.ofBits (late : Bool) (levels : List Bool) : LineByte :=
  { byte := BitVec.ofNat 8 (((levels.drop 1).take 8).foldr (fun b n => b.toNat + 2 * n) 0)
    stopGood := decide (levels.getD 9 startLevel = stopLevel), late := late }

/-- A byte sent in its turn. -/
def LineByte.plain (b : Byte) : LineByte := { byte := b, stopGood := true, late := false }

/-- The collector with the bytes of the frame it is collecting, after the start byte (R198). -/
inductive Gather where
  | hunting
  | collecting (bytes : List Byte)
  deriving DecidableEq, Repr

/-- A byte looked at alone (R198, hunting). -/
def hunt (b : LineByte) : List Instr × Gather :=
  if b.byte = 0xA5 ∧ b.stopGood = true then ([.frameStart], .collecting []) else ([], .hunting)

/-- The largest length field: a kind and 1 024 bytes of body. -/
def largestLength : Nat := 1025

/-- A byte of a frame being collected (R198, collecting). A length above 1 025 is a framing error at its second byte, also where the first
alone shows it (DEDUCED, log entry 54). -/
def collect (bytes : List Byte) (b : LineByte) : List Instr × Gather :=
  if b.late then (.frameGapTimeout :: (hunt b).1, (hunt b).2)
  else if b.stopGood = false then ([.framingError], .hunting)
  else
    let got := bytes ++ [b.byte]
    let length := (halfAt got 0).toNat
    if got.length < 2 then ([], .collecting got)
    else if length = 0 ∨ largestLength < length then ([.framingError], .hunting)
    else if got.length < length + 4 then ([], .collecting got)
    else ([frameCommand got], .hunting)

/-- The commands that the bytes on RXD bring, in order. -/
def linkCommands : Gather → List LineByte → List Instr
  | _, [] => []
  | .hunting, b :: bs => (hunt b).1 ++ linkCommands (hunt b).2 bs
  | .collecting got, b :: bs => (collect got b).1 ++ linkCommands (collect got b).2 bs

/-! ### The ring -/

/-- The length of a ring message by its kind (Table 30), the start byte and the check included. -/
def ringLength (kind : Byte) : Option Nat :=
  match kind.toNat with
  | 0 => some 18
  | 1 => some 28
  | 2 => some 16
  | 3 => some 6
  | _ => none

/-- What a RELEASE carries after its card number; `none` when the outcome has no code. -/
def ringRelease (m : List Byte) : Option ReleaseBody :=
  match (byteAt m 12).toNat with
  | 0 =>
    some (.committed (halfAt m 13) (wordAt m 15) (halfAt m 19) (halfAt m 21) (halfAt m 23) (byteAt m 25))
  | 1 => some (.dropped (unreadAt m 13))
  | 2 => some (.uncertain (unreadAt m 13))
  | _ => none

/-- The command of a whole ring message, from its start byte to its check; a bad one is discarded (R211). -/
def ringCommand (m : List Byte) : Instr :=
  let checked := (m.drop 1).take (m.length - 3)
  let origin := byteAt m 2
  let hop := byteAt m 3
  let number := longAt m 4
  if halfAt m (m.length - 2) = crc16 checked then
    match (byteAt m 1).toNat with
    | 0 => .hold origin hop number (halfAt m 12) { mark := byteAt m 14, gate := byteAt m 15 }
    | 1 =>
      match ringRelease m with
      | some body => .release origin hop number body
      | none => .badRingMessage
    | 2 =>
      match decodeIn evidenceList (byteAt m 12) with
      | some kind => .alert origin hop number kind (byteAt m 13)
      | none => .badRingMessage
    | 3 => .census origin hop
    | _ => .badRingMessage
  else .badRingMessage

/-- The commands that the bytes on ring-in bring (R211): after a bad message the bytes after its start byte are searched. -/
def ringCommandsFuel : Nat → List Byte → List Instr
  | 0, _ => []
  | _ + 1, [] => []
  | fuel + 1, b :: bs =>
    if b = 0x5A then
      match bs with
      | [] => []
      | kind :: _ =>
        match ringLength kind with
        | none => .badRingMessage :: ringCommandsFuel fuel bs
        | some n =>
          if (b :: bs).length < n then []
          else if ringCommand ((b :: bs).take n) = .badRingMessage then .badRingMessage :: ringCommandsFuel fuel bs
          else ringCommand ((b :: bs).take n) :: ringCommandsFuel fuel ((b :: bs).drop n)
    else ringCommandsFuel fuel bs

def ringCommands (bytes : List Byte) : List Instr := ringCommandsFuel bytes.length bytes

/-- The command a ring message arrives as. -/
def RingMessage.command : RingMessage → Instr
  | .hold o h n c x => .hold o h n c x
  | .release o h n b => .release o h n b
  | .alert o h n k b => .alert o h n k b
  | .census o h => .census o h

end Sys2Proof.Machine
end

