-- ==== Sys2Proof/Safety.lean ====
section
/-! DEFINITION. The terms claims use: a part that listens and its replies, and what holds of every state the part can be in (the bounds of its tables and queues, the journal's margin with the links between faces, contexts and tear table that it rests on). -/

namespace Sys2Proof.Machine

/-! ### The link -/

/-- The part runs and its receive buffer is free: it takes the next complete frame (R200). -/
def State.listening (s : State) : Prop := s.power = .running ∧ s.link.busy = false

/-- A state with the reply of a request in its reply buffer: the request's kind, the result, the fields (R202). The receive
buffer is busy and the collector hunts (R198, R200). -/
def State.replying (u : State) (kind : Byte) (r : Result) (fields : List Byte) : State :=
  { u with link := { u.link with
      collector := .hunting, busy := true, reply := some { kind := kind, body := resultByte r :: fields } } }

/-- The length each request's body must have (Table 27). Where the length follows from a count the body carries, a body too
short to hold its count is shorter than this. -/
def requestLength (kind : Byte) (body : List Byte) : Nat :=
  match kind.toNat with
  | 0x02 => 8
  | 0x03 => 14
  | 0x04 => 4 + 3 * (halfAt body 2).toNat
  | 0x05 => 2 + 32 * (byteAt body 1).toNat
  | 0x06 => 81
  | 0x07 => 1 + 4 * (byteAt body 0).toNat
  | 0x08 => 6
  | 0x09 => 2
  | 0x0B => 1
  | 0x0E => 5
  | 0x0F | 0x10 | 0x12 => 8
  | 0x11 => 17
  | 0x13 => 21
  | 0x14 => 25
  | 0x18 => 2
  | 0x1B => 5
  | 0x1C => 4
  | _ => 0

/-! ### Bounds of the tables and queues -/

/-- The sightings table holds at most 256 entries, no card number twice (R81, R83). -/
def State.SightingsBounded (s : State) : Prop :=
  s.sightings.length ≤ sightingsSize ∧ (s.sightings.map (·.number)).Nodup

/-- The hotlist list holds at most 2 048 numbers in ascending order, none twice (R114). -/
def State.HotlistOrdered (s : State) : Prop :=
  s.hotlist.entries.length ≤ hotlistSize ∧ s.hotlist.entries.Pairwise fun a b => a.number.toNat < b.number.toNat

/-- The LOCAL order names exactly the LOCAL numbers of the list, none twice (R114). -/
def State.LocalOrderExact (s : State) : Prop :=
  s.hotlist.localOrder.Nodup
    ∧ ∀ n, n ∈ s.hotlist.localOrder ↔ ∃ e ∈ s.hotlist.entries, e.number = n ∧ e.origin = .localAdd

/-- Each authorization queue holds at most 3 entries (R150). -/
def State.QueuesBounded (s : State) : Prop :=
  s.aisle.queues.entry.length ≤ queueSize ∧ s.aisle.queues.exit.length ≤ queueSize

/-- In a bidirectional aisle the lock is that of every direction with an entry queued, so at most one direction's queue holds
entries (R27, R150, R156). -/
def State.OneDirectionQueued (s : State) : Prop :=
  s.aisle.mode = .bidirectional → ∀ d, s.aisle.queues.get d ≠ [] → s.aisle.lock = lockOf d

/-- In a one-way aisle the lock holds the aisle's direction (R156). -/
def State.LockFitsMode (s : State) : Prop :=
  (s.aisle.mode = .entryOnly → s.aisle.lock = .entry) ∧ (s.aisle.mode = .exitOnly → s.aisle.lock = .exit)

/-- The ring-out queue holds at most 32 messages (R94). -/
def State.RingQueueBounded (s : State) : Prop := s.ring.queue.length ≤ ringQueueSize

/-- The released station-days are at most 16 pairs, no pair twice (R63). -/
def State.ReleasedBounded (s : State) : Prop := s.fare.released.length ≤ 16 ∧ s.fare.released.Nodup

/-- The service minute and the rollover minute lie within a day (R175). -/
def State.ClockInDay (s : State) : Prop :=
  s.service.clock.minute.toNat < 1440 ∧ s.service.clock.rollover.toNat < 1440

/-- While the clock is unset, day, minute and flag read 0 (R175). -/
def State.UnsetClockZero (s : State) : Prop :=
  s.service.clock.isSet = false → s.service.clock.day = 0 ∧ s.service.clock.minute = 0 ∧ s.service.clock.peakDay = false

/-- The policies that Table 15 fixes. -/
def State.FixedPolicies (s : State) : Prop :=
  s.check.policies.blocked = .refuse ∧ s.check.policies.forged = .refuse

/-- The leaf is FREE in EMERGENCY and LOCKDOWN, and in no other service state (R163, Table 18). -/
def State.LeafFitsService (s : State) : Prop :=
  s.aisle.leaf = .free ↔ s.service.state = .emergency ∨ s.service.state = .lockdown

/-- The fault slot is full for as long as the service state is LOCKDOWN (R178). -/
def State.LockdownHoldsFault (s : State) : Prop := s.service.state = .lockdown → s.service.faultSlot.isSome = true

/-- The close delay runs only while the leaf is OPEN, no grant is queued and the aisle is clear (R160), and the leaf is in CLOSING
only while every beam counts as clear (R161). -/
def State.ClosingClear (s : State) : Prop :=
  (s.aisle.closeStart.isSome = true → s.aisle.leaf = .opened ∧ s.aisle.anyGranted = false ∧ s.aisle.clear = true)
    ∧ (s.aisle.leaf = .closing → s.aisle.clear = true)

/-- Sequence 0 is given to no record (R183). -/
def State.SequencesNonzero (s : State) : Prop :=
  s.journal.next ≠ 0 ∧ ∀ r ∈ s.journal.records, r.sequence ≠ 0

/-- The overrun count stays within 0 to 255 (R200). -/
def State.OverrunBounded (s : State) : Prop := s.link.overrun ≤ 255

/-- Each face's front-end miss count stays within 0 to 3 (R8). -/
def State.MissesBounded (s : State) : Prop := s.faces.street.missCount ≤ 3 ∧ s.faces.paid.missCount ≤ 3

/-! ### The faces, their contexts and the tear table -/

/-- The states in which a context waits for the reply to a card command. -/
def CardCommand.fits : CardCommand → CtxState → Bool
  | .name, .naming | .fetch, .reading | .fetch, .confirming | .prove _, .proving | .stage _ _, .staging
  | .settle, .settling => true
  | _, _ => false

/-- The states of a context whose face is not SERVING. -/
def CtxState.atRest : CtxState → Bool
  | .idle | .removalWait | .refusedShown => true
  | _ => false

/-- A face and its context agree: a face that is not SERVING has its context at rest and no exchange open, a face with a poll in
progress is POLLING or WATCHING, and an open exchange is one the context waits for. -/
def State.FaceAgrees (s : State) (f : Face) : Prop :=
  ((s.face f).state ≠ .serving → (s.context f).state.atRest = true ∧ (s.face f).exchange = none)
    ∧ ((s.face f).poll.isSome = true → (s.face f).state = .polling ∨ (s.face f).state = .watching)
    ∧ ∀ e, (s.face f).exchange = some e → e.command.fits (s.context f).state = true

/-- The tear table holds no number twice, and a PENDING entry belongs to the context at or past its commit point on the entry's
face, for the card of that context (R51, R52). -/
def State.TearsAgree (s : State) : Prop :=
  (s.tears.map (·.number)).Nodup
    ∧ ∀ e ∈ s.tears, e.state = .pending →
      (s.context e.face).state.committed = true ∧ (s.context e.face).number = e.number

/-- The free slots cover the obligations (R187). -/
def State.Margin (s : State) : Prop :=
  s.journal.records.length ≤ journalSize ∧ s.obligations ≤ s.freeSlots

/-- The journal's margin with what it rests on. -/
def State.JournalSafe (s : State) : Prop :=
  s.Margin ∧ s.TearsAgree ∧ s.FaceAgrees .street ∧ s.FaceAgrees .paid

end Sys2Proof.Machine
end

