-- ==== Sys2Proof/WellFormed.lean ====
section
/-! DEFINITION. Which commands can come from outside: the bounds of a frame's body, of a card image and of the operands the rows of the table distinguish. -/

namespace Sys2Proof

/-- The kind bytes of Table 27. -/
def requestKind (k : Byte) : Bool := decide (1 ≤ k.toNat ∧ k.toNat ≤ 0x20)

/-- A body holds 0 to 1 024 bytes (Table 23). -/
def bodyFits (b : List Byte) : Bool := decide (b.length ≤ 1024)

/-- A SET WATCH body addresses the common settings. -/
def namesCommon (b : List Byte) : Bool := decide (b.head? = some 255)

def Instr.wellFormed : Instr → Bool
  | .setWatchUnit b => bodyFits b && !namesCommon b
  | .setWatchCommon b => bodyFits b && namesCommon b
  | .identify b | .setClock b | .setAisle b | .loadStations b | .loadBands b | .loadFares b | .loadClasses b
  | .loadKey b | .setPolicy b | .configDone b | .setService b | .emergency b | .resume b | .releaseDays b
  | .hotlistAdd b | .hotlistRemove b | .hotlistRange b | .hotlistQuery b | .pushSighting b | .watchStatus b
  | .clearWatch b | .attention b | .setAttentionMask b | .readFault b | .clearFault b | .readJournal b
  | .freeJournal b | .readCounters b | .aisleStatus b | .tearList b | .reset b => bodyFits b
  | .unknownRequest k => !requestKind k
  | .checkMismatch _ | .framingError | .frameGapTimeout | .frameOverrun | .replySent => true
  | .powerOn _ | .hardwareResetAssert | .powerLoss => true
  | .settlingTimeExpiry _ | .pollDue _ | .wakeTimeout _ | .presenceAnswer _ | .collisionReport _ | .garbledReply _
  | .silenceNotice _ | .commandTimeout _ => true
  | .nameAnswer _ _ _ _ _ => true
  | .cardImage _ image => decide (image.length = 64)
  | .proofAnswer _ _ | .ready _ | .stale _ | .settled _ _ => true
  | .hold _ _ _ _ _ | .release _ _ _ _ | .alert _ _ _ _ _ | .census _ _ | .badRingMessage | .ringOutSent
  | .ringTimeout _ | .censusDue | .peerHoldExpiry _ | .displacedHoldExpiry _ | .tearWindowExpiry _ => true
  | .beamInputChange _ _ | .beamDebounceExpiry _ | .beamStuck _ | .limitInputChange _ _ | .limitDebounceExpiry _
  | .travelTimeout | .closeDelayExpiry | .grantExpiry _ _ | .passageAlarmEnd | .watchAlarmEnd | .shortToneEnd _
  | .emergencyInputChange _ | .emergencyDebounceExpiry | .minuteTick | .backupSupplyFailure | .frameStart => true

end Sys2Proof
end

