-- ==== Sys2Proof/Certificates/Slice0/Obligations.lean ====
section
/-! DEFINITION. The statements for the provers, block by block. -/

open Sys2Proof Sys2Proof.Machine

/-! ### The queue of commands and the link unit -/

/-- One step takes the command at the front of the queue and runs it with the queue's rest. That commands wait in one queue, first in,
first out, is the model's choice (log entry 8). -/
def Obligations.StepRunsTheFrontCommand : Prop :=
  ∀ (c : Instr) (rest : List Instr) (s : State), s.pending = c :: rest → step s = exec c { s with pending := rest }

/-- Every command has an effect in every state: none ends in a fault or a refusal, and none touches the queue. Both are the model's
choice: a card reply, an expiry or any other command that nothing expects still answers a next state (log entry 35), and the queue of
waiting commands is the model's own (log entry 8). -/
def Obligations.EveryCommandAnswersANextState : Prop :=
  ∀ (c : Instr) (s : State), ∃ t : State, exec c s = .next t ∧ t.pending = s.pending

/-- A deadline that started at `start` and may be stopped has been reached after `life` ms (R174). -/
def Claims.passed (now : Word) (start : Option Word) (life : Nat) : Prop := ∃ t, start = some t ∧ life ≤ (now - t).toNat

/-- The command is the expiry of a reader face's deadline, or of its context's, that the passage clock has reached (R2, R4, R11, R104, R165). -/
def Claims.faceExpired (s : State) (c : Instr) : Prop :=
  ∃ f, let u := s.face f
    (c = .settlingTimeExpiry f ∧ u.state = .settling ∧ Claims.passed s.now u.settleStart 20)
    ∨ (c = .pollDue f ∧ (u.state = .polling ∨ u.state = .watching) ∧ Claims.passed s.now u.pollStart 100)
    ∨ (c = .wakeTimeout f ∧ ∃ p, u.poll = some p ∧ 25 ≤ (s.now - p.sentAt).toNat)
    ∨ (c = .commandTimeout f ∧ ∃ e, u.exchange = some e ∧ 25 ≤ (s.now - e.sentAt).toNat)
    ∨ (c = .ringTimeout f ∧ (s.context f).state = .holding
        ∧ ∃ start life, (s.context f).ringTimer = some (start, life) ∧ life ≤ (s.now - start).toNat)
    ∨ (c = .shortToneEnd f ∧ ∃ tone t, s.aisle.tones.get f = some (tone, t)
        ∧ (if tone = .accept then 120 else 360) ≤ (s.now - t).toNat)

/-- The command is the expiry of a deadline of the ring, the sightings, the tears or the service minute that the clocks have reached (R55,
R85, R105, R175). -/
def Claims.tableExpired (s : State) (c : Instr) : Prop :=
  (c = .censusDue ∧ s.ring.state = .isolated ∧ Claims.passed s.now s.ring.censusStart 2000)
  ∨ (∃ e ∈ s.sightings, c = .peerHoldExpiry e.number ∧ ∃ o t, e.hold = .peer o t ∧ 5000 ≤ (s.now - t).toNat)
  ∨ (∃ e ∈ s.sightings, c = .displacedHoldExpiry e.number ∧ ∃ o t, e.displaced = some (o, t) ∧ 5000 ≤ (s.now - t).toNat)
  ∨ (∃ e ∈ s.tears, c = .tearWindowExpiry e.number
      ∧ ∃ t q, e.state = .torn t q ∧ s.setup.tearWindow * 1000 ≤ (s.now - t).toNat)
  ∨ (c = .minuteTick ∧ s.service.clock.isSet = true ∧ 60000 ≤ s.service.clock.ms)

/-- The command is the expiry of a deadline of the aisle or of the emergency input that the passage clock has reached (R138, R141, R142,
R149, R154, R157, R159, R160, R170). -/
def Claims.aisleExpired (s : State) (c : Instr) : Prop :=
  let a := s.aisle
  (∃ b, c = .beamDebounceExpiry b ∧ Claims.passed s.now (a.beams.get b).pendingSince 30)
  ∨ (∃ b, c = .beamStuck b ∧ (a.beams.get b).blocked = true ∧ (a.beams.get b).stuck = false
      ∧ 60000 ≤ (s.now - (a.beams.get b).blockedSince).toNat)
  ∨ (c = .limitDebounceExpiry .openLimit ∧ Claims.passed s.now a.openLimit.pendingSince 30)
  ∨ (c = .limitDebounceExpiry .closedLimit ∧ Claims.passed s.now a.closedLimit.pendingSince 30)
  ∨ (c = .travelTimeout ∧ (a.leaf = .opening ∨ a.leaf = .closing) ∧ Claims.passed s.now a.travelStart 1500)
  ∨ (c = .closeDelayExpiry ∧ a.leaf = .opened ∧ Claims.passed s.now a.closeStart 800)
  ∨ (∃ d q, c = .grantExpiry d q
      ∧ ∃ e ∈ a.queues.get d, ∃ t life, e.state = .granted q t life false ∧ life ≤ (s.now - t).toNat)
  ∨ (c = .passageAlarmEnd ∧ ∃ t, a.passageAlarm = .since t ∧ 3000 ≤ (s.now - t).toNat)
  ∨ (c = .watchAlarmEnd ∧ Claims.passed s.now a.watchAlarm 3000)
  ∨ (c = .emergencyDebounceExpiry ∧ Claims.passed s.now s.service.emergency.pendingSince 30)

/-- The command is the expiry of a deadline that the clocks of `s` have reached. -/
def Claims.expired (s : State) (c : Instr) : Prop :=
  Claims.faceExpired s c ∨ Claims.tableExpired s c ∨ Claims.aisleExpired s c

/-- On an empty queue a running part lets a millisecond pass: both clocks count it, the service clock only while it is set (R174, R175),
and nothing else changes but the queue. The queue receives exactly the expiries of the deadlines that the clocks have now reached, every
one of them once and no other command: no command stands in it twice while sightings, tear entries and the grants of each queue have
different numbers and sequences. That a millisecond passes there, and that the expiries wait as commands, is the model's choice (log entry
7), and so is a free order among them (log entry 3). -/
def Obligations.EmptyQueueLetsAMillisecondPass : Prop :=
  ∀ s : State, s.pending = [] → s.power = .running →
    let k := s.service.clock
    let later : State := { s with
      now := s.now + 1, service := { s.service with clock := { k with ms := if k.isSet then k.ms + 1 else k.ms } } }
    ∃ (queue : List Instr) (n : Nat), step s = .next { later with pending := queue, freeCount := n }
      ∧ (∀ c, c ∈ queue ↔ Claims.expired later c)
      ∧ ((s.sightings.map (·.number)).Nodup → (s.tears.map (·.number)).Nodup →
        (∀ d, ((s.aisle.queues.get d).filterMap QueueEntry.sequence).Nodup) → queue.Nodup)

/-- While the part is held in reset or has no power, only the commands of power, of the backup supply and of the input pins do
anything, and every output rests: ATTN low, TXD at the stop level, ring-out idle, leaf drive and fields off, lamps OFF, sounders silent
(R209). A power-on ends this from time 0 in STARTING (R194, R195). That an unpowered part rests like one held in reset, and that it records the levels of its input pins, is the model's choice
(log entry 12); a stop level that is the level of a 1 is PRESUMED (log entry 45). -/
def Obligations.StoppedPartRests : Prop :=
  ∀ s : State, s.power ≠ .running →
    (∀ c : Instr, (∀ b, c ≠ .powerOn b) → c ≠ .hardwareResetAssert → c ≠ .powerLoss → c ≠ .backupSupplyFailure →
      (∀ b h, c ≠ .beamInputChange b h) → (∀ l a, c ≠ .limitInputChange l a) → (∀ a, c ≠ .emergencyInputChange a) →
      exec c s = .next s)
    ∧ exec .hardwareResetAssert s = .next s
    ∧ exec .powerLoss s = .next { s with power := .off, link := Link.afterReset }
    ∧ exec .backupSupplyFailure s = .next { s with storeKept := false }
    ∧ (∀ b, ∃ t, exec (.powerOn b) s = .next t ∧ t.power = .running ∧ t.now = 0 ∧ t.service.state = .starting ∧ t.storeKept = true)
    ∧ s.attn = false ∧ (∀ n, s.txd n = true) ∧ s.ringOut = none ∧ s.leafDrive = .off
    ∧ ∀ f, s.lamp f = .off ∧ s.sound f = .silent ∧ s.fieldOn f = false

/-- A complete frame, or one ended by a framing error, that finds the receive buffer busy is discarded without its kind being
examined: the overrun count adds 1, up to 255, and nothing else changes (R200). The collector hunts again (R198). -/
def Claims.BusyBufferCountsAnOverrun : Prop :=
  ∀ s : State, s.power = .running → s.link.busy = true →
    let t : State := { s with link := { s.link with collector := .hunting, overrun := min 255 (s.link.overrun + 1) } }
    (∀ kind body, exec (requestCommand kind body) s = .next t)
    ∧ (∀ kind, exec (.unknownRequest kind) s = .next t) ∧ (∀ kind, exec (.checkMismatch kind) s = .next t)
    ∧ exec .framingError s = .next t ∧ exec .frameOverrun s = .next t
    ∧ (s.link.collector = .collecting → exec .frameGapTimeout s = .next t)

/-- A request whose body has not the length its kind requires is refused OUT_OF_RANGE with the result byte alone, and changes
nothing but the link (R202, Table 27). -/
def Claims.WrongLengthIsOutOfRange : Prop :=
  ∀ (s : State) (kind : Byte) (body : List Byte), s.listening → requestKind kind = true →
    body.length ≠ requestLength kind body →
    exec (requestCommand kind body) s = .next (s.replying kind .outOfRange [])

/-- A free buffer answers a damaged frame with BAD_FRAME (kind 0x80) and an unknown kind with UNKNOWN_REQUEST; a start byte only
sets the collector (R198, R200 to R202). -/
def Claims.DamagedAndUnknownFramesAreAnswered : Prop :=
  ∀ s : State, s.listening →
    let answered := fun (kind : Byte) (body : List Byte) =>
      ({ s with link := { s.link with
          collector := .hunting, busy := true, reply := some { kind := kind, body := body } } } : State)
    exec .framingError s = .next (answered 0x80 [0])
    ∧ (s.link.collector = .collecting → exec .frameGapTimeout s = .next (answered 0x80 [0]))
    ∧ (∀ kind, exec (.checkMismatch kind) s = .next (answered 0x80 [1, kind]))
    ∧ (∀ kind, exec (.unknownRequest kind) s = .next (answered kind [5]))
    ∧ exec .frameStart s = .next { s with link := { s.link with collector := .collecting } }

/-- When the last byte of a reply has been sent, an overrun count above 0 is reported by BAD_FRAME with error OVERRUN and returns
to 0; with the count at 0 the buffer becomes free (R200). With no reply being sent the command does nothing (log entry 10). -/
def Claims.ReplySentFreesOrReportsOverrun : Prop :=
  ∀ s : State, s.power = .running → s.link.resetPending = false →
    (s.link.reply ≠ none → s.link.overrun = 0 →
      exec .replySent s = .next { s with link := { s.link with reply := none, busy := false } })
    ∧ (s.link.reply ≠ none → 0 < s.link.overrun →
      exec .replySent s = .next { s with link := { s.link with
        reply := some { kind := 0x80, body := [2, BitVec.ofNat 8 s.link.overrun] }, overrun := 0 } })
    ∧ (s.link.reply = none → exec .replySent s = .next s)

/-- TXD carries the reply in the reply buffer byte by byte, each byte a start bit, its 8 data bits from the least significant on and a
stop bit, and rests at the stop level after it and with no reply; ten such bit times on RXD are read as that byte. A stop level that is
the level of a 1 is PRESUMED (R197; log entry 45). -/
def Claims.TxdCarriesTheReply : Prop :=
  (∀ (s : State) (r : Reply), s.power = .running → s.link.reply = some r →
    (∀ (i : Nat) (b : Byte), r.frame[i]? = some b →
      s.txd (10 * i) = false ∧ (∀ j < 8, s.txd (10 * i + 1 + j) = b.getLsbD j) ∧ s.txd (10 * i + 9) = true)
    ∧ ∀ n, 10 * r.frame.length ≤ n → s.txd n = true)
  ∧ (∀ (s : State) (n : Nat), s.link.reply = none → s.txd n = true)
  ∧ ∀ (b : Byte) (late : Bool), LineByte.ofBits late (lineBits b) = { byte := b, stopGood := true, late := late }

/-- The receive buffer: what a busy and a free buffer make of each frame, and what the end of a reply brings; the line itself (R197, R198,
R200 to R202). -/
def Obligations.FramesMeetTheReceiveBuffer : Prop :=
  Claims.BusyBufferCountsAnOverrun
    ∧ Claims.WrongLengthIsOutOfRange
    ∧ Claims.DamagedAndUnknownFramesAreAnswered
    ∧ Claims.ReplySentFreesOrReportsOverrun
    ∧ Claims.TxdCarriesTheReply

/-- IDENTIFY changes nothing but the link, and its reply carries R204's items in their order: part code 0x0220, the silicon
revision (a constant of Config), the largest body 1 024, the place if one is set, fares-loaded, the ACTIVE key slots, the service
state, whether the clock is set, the retained-valid indication, and the passage clock. The model's choice: one byte for the number of
ACTIVE key slots (log entry 41) and one presence mark before station and gate (log entry 43). -/
def Claims.IdentifyReportsThePart : Prop :=
  ∀ s : State, s.listening →
    exec (.identify []) s = .next (s.replying 0x01 .done
      ([0x02, 0x20, Config.siliconRevision, 0x04, 0x00]
        ++ (match s.setup.place with
            | some p => 1 :: halfBytes p.station ++ [p.gate]
            | none => [0, 0, 0, 0])
        ++ [markByte s.fare.faresLoaded, BitVec.ofNat 8 (s.check.keys.toList.countP fun k => decide (k.state = .active)),
            codeIn serviceStateList s.service.state, markByte s.service.clock.isSet, markByte s.service.retainedValid]
        ++ wordBytes s.now))

/-- RESET is accepted in every service state: its reply carries the next sequence, and the reset waits for that reply to be
sent (R208). -/
def Claims.ResetRequestWaitsForItsReply : Prop :=
  ∀ s : State, s.listening →
    exec (.reset []) s = .next
      (({ s with link := { s.link with resetPending := true } } : State).replying 0x20 .done (wordBytes s.journal.next))

/-- IDENTIFY reports the part; RESET is answered at once and waits for its reply to be sent (R204, R208). -/
def Obligations.IdentifyAndResetAreAnswered : Prop :=
  Claims.IdentifyReportsThePart ∧ Claims.ResetRequestWaitsForItsReply

/-! ### The service unit's requests -/

/-- SET CLOCK: refused OUT_OF_RANGE with nothing changed if the minute or a carried rollover minute is 1 440 or more (or a mark
byte is neither 0 nor 1); else the clock is set, its service minute the wall-clock minute minus the stored rollover minute, with
1 440 added when that comes out below 0. It is a jump: nothing else changes (R176). -/
def Obligations.SetClockStoresServiceTime : Prop :=
  ∀ (s : State) (body : List Byte), s.listening → body.length = 8 →
    let wall := (halfAt body 2).toNat
    let accepted := (byteAt body 4 = 0 ∨ byteAt body 4 = 1) ∧ (byteAt body 5 = 0 ∨ byteAt body 5 = 1) ∧ wall < 1440
      ∧ (byteAt body 5 = 1 → (halfAt body 6).toNat < 1440)
    let rollover := if byteAt body 5 = 1 then halfAt body 6 else s.service.clock.rollover
    let minute : Half := BitVec.ofNat 16
      (if rollover.toNat ≤ wall then wall - rollover.toNat else wall + 1440 - rollover.toNat)
    let shown := fun (k : Clock) => halfBytes k.day ++ halfBytes k.minute ++ [markByte k.peakDay] ++ halfBytes k.rollover
    let k : Clock :=
      { isSet := true, day := halfAt body 0, minute := minute, ms := 0, peakDay := decide (byteAt body 4 = 1)
        rollover := rollover }
    (accepted → exec (.setClock body) s
      = .next (({ s with service := { s.service with clock := k } } : State).replying 0x02 .done (shown k)))
    ∧ (¬ accepted → exec (.setClock body) s = .next (s.replying 0x02 .outOfRange (shown s.service.clock)))

/-- A face whose field has just gone off: OFF, with no poll, exchange or pending request, and its last outcome NONE (R3, R6). -/
def Claims.fieldGone (u : FaceUnit) : FaceUnit :=
  { u with state := .off, settleStart := none, pollStart := none, poll := none, exchange := none, unanswered := 0
           offPending := false, lastOutcome := .noOutcome }

/-- A face whose field has just been turned on: SETTLING, with its miss count at 0 (R2). -/
def Claims.settlingFrom (u : FaceUnit) (now : Word) : FaceUnit :=
  { u with state := .settling, settleStart := some now, pollStart := none, poll := none, exchange := none, missCount := 0
           offPending := false }

/-- What a field-off request makes of a face: in SETTLING, POLLING and WATCHING its field goes off at once, in SERVING the request is
pending, and OFF and DISABLED stay (R3, R9). -/
def Claims.offAsked (u : FaceUnit) : FaceUnit :=
  match u.state with
  | .settling | .polling | .watching => Claims.fieldGone u
  | .serving => { u with offPending := true }
  | .off | .disabled => u

/-- What it makes of the face's context: one that waits for its card's removal while the face is WATCHING enters IDLE (R3, R49). -/
def Claims.cardGone (u : FaceUnit) (c : Context) : Context :=
  if u.state = .watching ∧ (c.state = .removalWait ∨ c.state = .refusedShown) then Context.idle else c

/-- What a field-on request, not RESUME's, makes of a face: OFF starts settling, a pending field-off request of a SERVING face is dropped,
and every other face stays (R2, R3, R9). -/
def Claims.onAsked (u : FaceUnit) (now : Word) : FaceUnit :=
  match u.state with
  | .off => Claims.settlingFrom u now
  | .serving => { u with offPending := false }
  | .settling | .polling | .watching | .disabled => u

/-- What a SERVING face does when its context is done: with a field-off request pending the field goes off, else it polls again (`idle`) or
watches for the card's removal, the next poll 100 ms later (R3, R7). -/
def Claims.faceAfter (u : FaceUnit) (now : Word) (idle : Bool) : FaceUnit :=
  if u.offPending then Claims.fieldGone u
  else if idle then { u with state := .polling, exchange := none, poll := none, pollStart := some now }
  else { u with state := .watching, exchange := none, poll := none, pollStart := some now, unanswered := 0 }

/-- The context then: with a field-off request pending its card counts as removed and it enters IDLE, else it is `rest` (R3, R49). -/
def Claims.contextAfter (u : FaceUnit) (rest : Context) : Context := if u.offPending then Context.idle else rest

/-- The faces once the service state has entered EMERGENCY or LOCKDOWN, `asks` being the field request that this entry hands to a face: a
face whose context does not end meets the request alone; one SERVING a context that ends meets both, in either order (R3, R48, R172; the
order is free, log entry 4). -/
def Claims.facesFollow (s t : State) (asks : FaceUnit → FaceUnit) : Prop :=
  ∀ f, let st := (s.context f).state
    let u := s.face f
    let ends := st = .naming ∨ st = .reading ∨ st = .proving ∨ st = .holding ∨ st = .staging
    (¬ ends → st ≠ .admitted → st ≠ .deciding → t.face f = asks u)
    ∧ (ends → u.state = .serving →
      t.face f = asks (Claims.faceAfter u s.now false) ∨ t.face f = Claims.faceAfter (asks u) s.now false)

/-- The sequence after `n` records: 0 is passed over (R183). -/
def Claims.nextAfter : Nat → Word → Word
  | 0, q => q
  | n + 1, q => Claims.nextAfter n (if q = 4294967295 then 1 else q + 1)

/-- Between `s` and `t` the service state has entered EMERGENCY or LOCKDOWN (`r` is EMERGENCY or OUT_OF_SERVICE): an IDLE context stays; one
waiting for its card's removal stays, or enters IDLE as its field goes off for LOCKDOWN; one in NAMING is refused without a record; one in
READING, PROVING, HOLDING or STAGING has written REFUSED with the reason `r`, and both wait for the removal or are IDLE; one in SETTLING or
CONFIRMING carries on with its reservation marked removed. The records come in this order, with consecutive sequences: one PASSAGE
CANCELLED for each GRANTED entry, entry queue before exit queue, with the entry's face, card number and transaction sequence; then street
before paid, for each aborted context its REFUSED record, followed by the LATE_ALERT records of its late finding. With none aborted only
the cancelled grants are recorded (R48, R125, R155, R184). -/
def Claims.endsTheTaps (s t : State) (r : Reason) : Prop :=
  let aborted := fun (c : Context) => c.state = .reading ∨ c.state = .proving ∨ c.state = .holding ∨ c.state = .staging
  (∀ f, let c := s.context f
    let d := t.context f
    (c.state = .idle → d = c)
    ∧ ((c.state = .removalWait ∨ c.state = .refusedShown) → d = c ∨ (r = .outOfService ∧ d = Context.idle))
    ∧ (c.state = .naming → d = Context.idle ∨ d = { c with state := .refusedShown, indication := .stop })
    ∧ (aborted c → (d.state = .idle ∨ d.state = .refusedShown)
      ∧ ∃ x ∈ t.journal.records.drop s.journal.records.length, x.kind = .transaction .refused ∧ x.face = f
        ∧ x.fields.reason = some r ∧ x.fields.number = some c.number ∧ (∀ k, c.refusing = some k → x.fields.evidence = some k))
    ∧ ((c.state = .settling ∨ c.state = .confirming) →
      d = { c with reservation := if c.reservation = .held then .removed else c.reservation }))
  ∧ (∃ street paid : List Record,
    let cancelled : List Record := ((s.aisle.queues.entry ++ s.aisle.queues.exit).filter QueueEntry.isGranted).mapIdx fun i e =>
      { sequence := Claims.nextAfter i s.journal.next, kind := .passage .cancelled, stamp := s.stamp, face := e.face
        fields := { RecordFields.blank with
          number := some e.number
          reference := match e.state with
            | .granted sequence _ _ _ => some sequence
            | .reserved => none } }
    let wrote := fun (f : Face) (l : List Record) =>
      (aborted (s.context f) → ∃ x late, l = x :: late ∧ x.kind = .transaction .refused ∧ x.face = f
        ∧ ∀ y ∈ late, y.kind = .lateAlert ∧ y.face = f ∧ y.fields.reference = some x.sequence)
      ∧ (¬ aborted (s.context f) → (s.context f).state ≠ .admitted → (s.context f).state ≠ .deciding → l = [])
    let new := cancelled ++ street ++ paid
    t.journal.records = s.journal.records ++ new ∧ wrote .street street ∧ wrote .paid paid
    ∧ new.map (·.sequence) = (List.range new.length).map (fun i => Claims.nextAfter i s.journal.next)
    ∧ t.journal.next = Claims.nextAfter new.length s.journal.next)
  ∧ ((∀ f, ¬ aborted (s.context f) ∧ (s.context f).state ≠ .admitted ∧ (s.context f).state ≠ .deciding) →
    t.journal.records.length
      = s.journal.records.length + (s.aisle.queues.entry ++ s.aisle.queues.exit).countP QueueEntry.isGranted)

/-- EMERGENCY enters EMERGENCY from IN_SERVICE, CLOSED or LOCKDOWN, raising no attention of its own and leaving the fault slot and
the lockdown cause as they were, each grant recorded as cancelled, its contexts acting by their state and, from CLOSED and LOCKDOWN, its faces by the field-on
request; in EMERGENCY it changes nothing; in STARTING it is refused WRONG_STATE (R1, R2, R48, R155, R171, R172, R184). A face whose context ends meets
the request before or after that end (the order is free, log entry 4). -/
def Claims.EmergencyRequestEntersEmergency : Prop :=
  ∀ s : State, s.listening →
    ((s.service.state = .inService ∨ s.service.state = .closed ∨ s.service.state = .lockdown) →
      ∃ t : State, exec (.emergency []) s = .next (t.replying 0x0C .done [3])
        ∧ t.service.state = .emergency ∧ t.service.faultSlot = s.service.faultSlot
        ∧ t.service.lockdownCause = s.service.lockdownCause ∧ t.service.flags.service = s.service.flags.service
        ∧ Claims.endsTheTaps s t .emergency
        ∧ Claims.facesFollow s t (fun u => if s.service.state = .inService then u else Claims.onAsked u s.now)
        ∧ t.aisle.leaf = .free ∧ (∀ e ∈ t.aisle.queues.entry ++ t.aisle.queues.exit, e.isGranted = false)
        ∧ t.service.mask = s.service.mask ∧ t.service.clock = s.service.clock ∧ t.now = s.now)
    ∧ (s.service.state = .emergency → exec (.emergency []) s = .next (s.replying 0x0C .done [3]))
    ∧ (s.service.state = .starting → exec (.emergency []) s = .next (s.replying 0x0C .wrongState [0]))

/-- The leaf with a state just entered: its timers as given. -/
def Claims.leafAt (a : Aisle) (l : LeafState) (travel close : Option Word) : Aisle :=
  { a with leaf := l, travelStart := travel, closeStart := close }

/-- What the leaf does on reaching OPEN: the close delay begins if no grant is queued and the aisle is clear (R160). -/
def Claims.reachesOpen (a : Aisle) (now : Word) : Aisle :=
  Claims.leafAt a .opened none (if a.anyGranted = false ∧ a.clear = true then some now else none)

/-- What the leaf does on reaching CLOSED: it opens again for a queued grant (R158). -/
def Claims.reachesClosed (a : Aisle) (now : Word) : Aisle :=
  if a.anyGranted = true then
    (if a.openLimit.accepted then Claims.reachesOpen a now else Claims.leafAt a .opening (some now) none)
  else Claims.leafAt a .closed none none

/-- The ring unit with a message at the tail of its queue, which is full at 32. -/
def Claims.joined (r : Ring) (m : RingMessage) : Ring := if r.queue.length < 32 then { r with queue := r.queue ++ [m] } else r

/-- RESUME: refused WRONG_STATE with nothing changed in STARTING, IN_SERVICE or CLOSED, while the emergency input is asserted, and
in EMERGENCY with a fault held. Accepted, it empties the slot and the lockdown cause, enters IN_SERVICE, moves every face that was
OFF or DISABLED to SETTLING, drops a pending field-off request of one that is SERVING, and takes the leaf out of FREE: with the aisle
clear to CLOSING, or to CLOSED with the closed limit asserted; else to OPENING, or to OPEN with the open limit asserted. Attention flags
stay and nothing else changes (R163, R173). -/
def Claims.ResumeReturnsToService : Prop :=
  ∀ s : State, s.listening →
    let refused := s.service.state = .starting ∨ s.service.state = .inService ∨ s.service.state = .closed
      ∨ s.service.emergency.accepted = true ∨ (s.service.state = .emergency ∧ s.service.faultSlot ≠ none)
    let a := s.aisle
    let on := fun (u : FaceUnit) =>
      if u.state = .off ∨ u.state = .disabled then Claims.settlingFrom u s.now
      else if u.state = .serving then { u with offPending := false } else u
    (refused → exec (.resume []) s
      = .next (s.replying 0x0D .wrongState [codeIn serviceStateList s.service.state]))
    ∧ (¬ refused → exec (.resume []) s = .next (({ s with
        service := { s.service with state := .inService, faultSlot := none, lockdownCause := none }
        faces := { street := on s.faces.street, paid := on s.faces.paid }
        aisle :=
          if a.clear = true then
            (if a.closedLimit.accepted then Claims.reachesClosed a s.now else Claims.leafAt a .closing (some s.now) none)
          else if a.openLimit.accepted then Claims.reachesOpen a s.now else Claims.leafAt a .opening (some s.now) none } :
          State).replying 0x0D .done [1]))

/-- CONFIG DONE and SET SERVICE. CONFIG DONE is accepted in STARTING with a place set, fares loaded and a key slot ACTIVE, else
refused WRONG_STATE with nothing changed; accepted with the emergency input released it enters IN_SERVICE, with it asserted EMERGENCY with
SERVICE attention and the leaf FREE; in either case both OFF faces start settling, and the ring is ISOLATED with one CENSUS originated and
the next due 2 s later (R105, R163, R168). SET SERVICE moves between IN_SERVICE and CLOSED, each way with its field request to
both faces (into CLOSED: fields off, pending on a SERVING face, a waiting context of a WATCHING one IDLE; back: OFF starts settling), is
DONE without a change when the target is the state, and is else refused (R169). -/
def Claims.ConfigDoneAndSetServiceChangeState : Prop :=
  (∀ s : State, s.listening →
    let ok := s.service.state = .starting ∧ s.setup.place ≠ none ∧ s.fare.faresLoaded = true
      ∧ ∃ k ∈ s.check.keys.toList, k.state = .active
    let faces : PerFace FaceUnit :=
      { street := Claims.settlingFrom s.faces.street s.now, paid := Claims.settlingFrom s.faces.paid s.now }
    let ring := { Claims.joined s.ring (.census s.gate 0) with state := .isolated, censusStart := some s.now }
    let isOff := s.faces.street.state = .off ∧ s.faces.paid.state = .off
    (¬ ok → exec (.configDone []) s = .next (s.replying 0x0A .wrongState [codeIn serviceStateList s.service.state]))
    ∧ (ok → s.service.emergency.accepted = true → ∃ t : State, exec (.configDone []) s = .next (t.replying 0x0A .done [3])
        ∧ t.service.state = .emergency ∧ t.service.flags.service = true ∧ t.aisle.leaf = .free
        ∧ t.ring.state = .isolated ∧ t.ring.censusStart = some s.now
        ∧ (isOff → s.contexts.street.state = .idle → s.contexts.paid.state = .idle →
          t.ring = ring ∧ t.faces = faces ∧ t.contexts = s.contexts))
    ∧ (ok → s.service.emergency.accepted = false → isOff → exec (.configDone []) s = .next
        (({ s with service := { s.service with state := .inService }, faces := faces, ring := ring } : State).replying 0x0A .done [1])))
  ∧ (∀ (s : State) (target : Byte), s.listening →
    (s.service.state = .inService → target = 1 → exec (.setService [target]) s = .next (s.replying 0x0B .done [1]))
    ∧ (s.service.state = .closed → target = 2 → exec (.setService [target]) s = .next (s.replying 0x0B .done [2]))
    ∧ (s.service.state = .inService → target = 2 →
        exec (.setService [target]) s = .next (({ s with
          service := { s.service with state := .closed }
          faces := { street := Claims.offAsked s.faces.street, paid := Claims.offAsked s.faces.paid }
          contexts :=
            { street := Claims.cardGone s.faces.street s.contexts.street, paid := Claims.cardGone s.faces.paid s.contexts.paid } } :
          State).replying 0x0B .done [2]))
    ∧ (s.service.state = .closed → target = 1 →
        exec (.setService [target]) s = .next (({ s with
          service := { s.service with state := .inService }
          faces := { street := Claims.onAsked s.faces.street s.now, paid := Claims.onAsked s.faces.paid s.now } } :
          State).replying 0x0B .done [1]))
    ∧ (target.toNat < 5 → (target ≠ 1 ∧ target ≠ 2) ∨ (s.service.state ≠ .inService ∧ s.service.state ≠ .closed) →
        exec (.setService [target]) s = .next (s.replying 0x0B .wrongState [codeIn serviceStateList s.service.state]))
    ∧ (5 ≤ target.toNat →
        exec (.setService [target]) s = .next (s.replying 0x0B .outOfRange [codeIn serviceStateList s.service.state])))

/-- The four requests that move the service state: EMERGENCY, RESUME, CONFIG DONE and SET SERVICE (R168, R169, R171, R173). -/
def Obligations.ServiceStateRequestsMoveTheState : Prop :=
  Claims.EmergencyRequestEntersEmergency ∧ Claims.ResumeReturnsToService ∧ Claims.ConfigDoneAndSetServiceChangeState

/-- ATTENTION returns the flags that are set, enabled or not, as bits 0 to 8 in R180's order, FAULT, LOCKDOWN, CLONE, WATCH, ALARM, TEAR,
JOURNAL, RING and SERVICE, and clears them; SET ATTENTION MASK replaces the mask whole, its bits in the same order and bits 9 to 15
dropped; the line is asserted exactly while an enabled flag is set; raising a flag sets it and no other (R180 to R182, R210). -/
def Obligations.AttentionFlagsMaskAndLine : Prop :=
  (∀ s : State, s.listening →
    exec (.attention []) s = .next
      (({ s with service := { s.service with flags := FlagSet.none } } : State).replying 0x17 .done
        (halfBytes s.service.flags.toBits)))
  ∧ (∀ (s : State) (body : List Byte), s.listening → body.length = 2 →
    let mask := FlagSet.ofBits (halfAt body 0)
    let u : State := { s with service := { s.service with mask := mask } }
    exec (.setAttentionMask body) s = .next (u.replying 0x18 .done (halfBytes mask.toBits ++ [markByte u.attentionLine])))
  ∧ (∀ s : State, s.attentionLine = true ↔ ∃ g : Flag, s.service.flags.get g = true ∧ s.service.mask.get g = true)
  ∧ (∀ s : State, s.power = .running → s.attn = s.attentionLine)
  ∧ (∀ (b : Half) (n : Nat), (FlagSet.ofBits b).toBits.getLsbD n = (decide (n < 9) && b.getLsbD n))
  ∧ (∀ (x : FlagSet) (n : Nat), x.toBits.getLsbD n
      = ([x.fault, x.lockdown, x.clone, x.watch, x.alarm, x.tear, x.journal, x.ring, x.service].getD n false))
  ∧ (∀ (s : State) (g h : Flag), (s.raise g).service.flags.get h = (s.service.flags.get h || decide (h = g)))

/-- READ FAULT changes nothing but the link and returns the service state, the emergency input, the fault slot, the lockdown cause
and the retained-valid indication; CLEAR FAULT empties the slot, but in LOCKDOWN is refused WRONG_STATE with the slot unchanged
(R179, R193). A fault record is its kind, time, day and minute, the face or beam concerned, the two snapshots and the
recoverable mark (R177). That READ FAULT's fields stand in this order, the retained-valid indication last, and a fault record's widths, are
the model's choice (log entry 14), and so is one presence mark before day and minute (log entry 43). -/
def Obligations.ReadFaultAndClearFault : Prop :=
  ∀ s : State, s.listening →
    let snapshot := fun (x : CtxState × Option CardNumber) => codeIn ctxStateList x.1 :: match x.2 with
      | some n => 1 :: longBytes n
      | none => List.replicate 9 0
    let shown := fun (r : FaultRecord) =>
      (match r.kind with
        | .readerFault _ => 0
        | .leafTimeout => 1
        | .leafForced => 2
        | .beamStuck _ => 3
        | .retainedLost => 4) :: wordBytes r.time
      ++ (match r.stamp with
        | some (day, minute) => 1 :: halfBytes day ++ halfBytes minute
        | none => [0, 0, 0, 0, 0])
      ++ (match r.kind with
        | .readerFault .street => [1, 0]
        | .readerFault .paid => [1, 1]
        | .beamStuck .beam1 => [1, 1]
        | .beamStuck .beam2 => [1, 2]
        | .beamStuck .beam3 => [1, 3]
        | .beamStuck .beam4 => [1, 4]
        | _ => [0, 0])
      ++ snapshot r.snapshot.street ++ snapshot r.snapshot.paid ++ [markByte r.recoverable]
    (exec (.readFault []) s = .next (s.replying 0x19 .done
      ([codeIn serviceStateList s.service.state, markByte s.service.emergency.accepted]
        ++ (match s.service.faultSlot with
            | some r => 1 :: shown r
            | none => 0 :: List.replicate 33 0)
        ++ (match s.service.lockdownCause with
            | some r => 1 :: shown r
            | none => 0 :: List.replicate 33 0)
        ++ [markByte s.service.retainedValid])))
    ∧ (s.service.state ≠ .lockdown → exec (.clearFault []) s = .next
        (({ s with service := { s.service with faultSlot := none } } : State).replying 0x1A .done []))
    ∧ (s.service.state = .lockdown → exec (.clearFault []) s = .next (s.replying 0x1A .wrongState []))

/-! ### The fare unit's requests -/

/-- LOAD STATIONS and LOAD BANDS are refused OUT_OF_RANGE with nothing changed when a number, a count or an entry is out of range,
and else replace exactly the entries or rows they name (R58, R59). An entry whose loaded mark is clear is stored with zone 0 and
group 0. Both replies give a count two bytes (R210). -/
def Claims.LoadStationsAndBandsReplaceWhatTheyName : Prop :=
  (∀ (s : State) (body : List Byte), s.listening →
    let first := (halfAt body 0).toNat
    let count := (halfAt body 2).toNat
    4 ≤ body.length → body.length = 4 + 3 * count →
    let accepted := first ≤ 1023 ∧ 1 ≤ count ∧ count ≤ 256 ∧ first + count ≤ 1024
      ∧ ∀ i < count, (byteAt body (4 + 3 * i) = 0 ∨ byteAt body (4 + 3 * i) = 1)
          ∧ (byteAt body (5 + 3 * i)).toNat ≤ 31 ∧ (byteAt body (6 + 3 * i)).toNat ≤ 15
    let shown := fun (v : Vector StationEntry 1024) =>
      halfBytes (halfAt body 0) ++ halfBytes (halfAt body 2) ++ natHalf (v.toList.countP fun e => e.loaded)
    (accepted → ∃ v : Vector StationEntry 1024,
      (∀ (n : Nat) (h : n < 1024), v[n] =
        if first ≤ n ∧ n < first + count then
          if byteAt body (4 + 3 * (n - first)) = 1 then
            { loaded := true, zone := byteAt body (5 + 3 * (n - first)), group := byteAt body (6 + 3 * (n - first)) }
          else { loaded := false, zone := 0, group := 0 }
        else s.fare.stations[n])
      ∧ exec (.loadStations body) s
        = .next (({ s with fare := { s.fare with stations := v } } : State).replying 0x04 .done (shown v)))
    ∧ (¬ accepted →
      exec (.loadStations body) s = .next (s.replying 0x04 .outOfRange (shown s.fare.stations))))
  ∧ (∀ (s : State) (body : List Byte), s.listening →
    let first := (byteAt body 0).toNat
    let count := (byteAt body 1).toNat
    2 ≤ body.length → body.length = 2 + 32 * count →
    let accepted := 1 ≤ count ∧ count ≤ 16 ∧ first + count ≤ 32 ∧ ∀ i < 32 * count, (byteAt body (2 + i)).toNat ≤ 15
    (accepted → ∃ v : Vector (Vector Byte 32) 32,
      (∀ (n m : Nat) (h : n < 32) (g : m < 32), v[n][m] =
        if first ≤ n ∧ n < first + count then byteAt body (2 + 32 * (n - first) + m) else s.fare.bands[n][m])
      ∧ exec (.loadBands body) s = .next
        (({ s with fare := { s.fare with bands := v } } : State).replying 0x05 .done [byteAt body 0, 0, byteAt body 1]))
    ∧ (¬ accepted → exec (.loadBands body) s = .next (s.replying 0x05 .outOfRange [byteAt body 0, 0, byteAt body 1])))

/-- LOAD FARES is refused OUT_OF_RANGE with no value changed when S is no allowed step or W, G, F, Mn or a window lies outside its
range; else it replaces every value of the body together, M and P clamped, and sets the fares-loaded mark. The reply carries the values stored in
the order of the body (R61), every number of minutes in two bytes (R210; an amount or a percent in two, as the request gives it, is the
model's choice, log entry 14). -/
def Obligations.LoadFaresReplacesEveryValue : Prop :=
  ∀ (s : State) (body : List Byte), s.listening → body.length = 81 →
    let accepted := (byteAt body 0).toNat ∈ [1, 5, 10, 20, 50, 100] ∧ (byteAt body 3).toNat ≤ 120
      ∧ (byteAt body 10).toNat ≤ 60 ∧ (halfAt body 11).toNat ≤ 10000 ∧ (halfAt body 13).toNat ≤ 10000
      ∧ ∀ i < 4, (halfAt body (65 + 4 * i)).toNat ≤ 1440 ∧ (halfAt body (67 + 4 * i)).toNat ≤ 1440
    let shown := fun (f : Fares) =>
      [f.step] ++ halfBytes f.transferCredit ++ [0, f.transferWindow] ++ halfBytes f.incompleteFare ++ halfBytes f.overstayLimit
        ++ halfBytes f.overstayCharge ++ [0, f.grace] ++ halfBytes f.floor ++ halfBytes f.minEntry ++ f.base.toList.flatMap halfBytes
        ++ (f.minTravel.toList.flatMap fun m => [0, m]) ++ halfBytes f.peakPercent
        ++ f.windows.toList.flatMap fun w => halfBytes w.1 ++ halfBytes w.2
    (accepted → ∃ f : Fares,
      (f.step = byteAt body 0 ∧ f.transferCredit = halfAt body 1 ∧ f.transferWindow = byteAt body 3
        ∧ f.incompleteFare = halfAt body 4
        ∧ f.overstayLimit.toNat = max 30 (min 600 (halfAt body 6).toNat) ∧ f.overstayCharge = halfAt body 8
        ∧ f.grace = byteAt body 10 ∧ f.floor = halfAt body 11 ∧ f.minEntry = halfAt body 13
        ∧ (∀ (i : Nat) (h : i < 16), f.base[i] = halfAt body (15 + 2 * i) ∧ f.minTravel[i] = byteAt body (47 + i))
        ∧ f.peakPercent.toNat = max 100 (min 300 (halfAt body 63).toNat)
        ∧ (∀ (i : Nat) (h : i < 4), f.windows[i] = (halfAt body (65 + 4 * i), halfAt body (67 + 4 * i))))
      ∧ exec (.loadFares body) s = .next
        (({ s with fare := { s.fare with fares := f, faresLoaded := true } } : State).replying 0x06 .done (shown f)))
    ∧ (¬ accepted → exec (.loadFares body) s = .next (s.replying 0x06 .outOfRange (shown s.fare.fares)))

/-- LOAD CLASSES is refused OUT_OF_RANGE with no entry changed when it carries no entry, more than 8 or a class above 7; else each
class takes the last values that name it, a discount above 100 stored as 100, and the reply carries each class named with what is
stored (R62). The model's choice: a count of two bytes before the list (log entry 14), one item for each entry carried (log entry 39);
in a refused reply the values of a class
that does not exist are free, the discount one of 0 to 100 (log entry 2), and the class comes back as it was sent (log entry 52). -/
def Claims.LoadClassesKeepsTheLastValues : Prop :=
  ∀ (s : State) (body : List Byte), s.listening → 1 ≤ body.length →
    let count := (byteAt body 0).toNat
    body.length = 1 + 4 * count →
    let accepted := 1 ≤ count ∧ count ≤ 8 ∧ ∀ i < count, (byteAt body (1 + 4 * i)).toNat ≤ 7
    (accepted → ∃ v : Vector ClassEntry 8,
      (∀ (c : Nat) (h : c < 8), v[c] =
        match ((List.range count).filter fun i => decide ((byteAt body (1 + 4 * i)).toNat = c)).getLast? with
        | some i =>
          { discount := BitVec.ofNat 8 (min 100 (byteAt body (2 + 4 * i)).toNat), cap := halfAt body (3 + 4 * i) }
        | none => s.fare.classes[c])
      ∧ exec (.loadClasses body) s = .next
        (({ s with fare := { s.fare with classes := v } } : State).replying 0x07 .done
          (natHalf count ++ (List.range count).flatMap fun i =>
            let e := v.toList.getD (byteAt body (1 + 4 * i)).toNat { discount := 0, cap := 0 }
            [byteAt body (1 + 4 * i), e.discount] ++ halfBytes e.cap)))
    ∧ (¬ accepted → ∃ (items : List (List Byte)) (n : Nat), exec (.loadClasses body) s = .next
        (({ s with freeCount := n } : State).replying 0x07 .outOfRange (natHalf count ++ items.flatten))
      ∧ items.length = count
      ∧ ∀ i < count, ∃ (d : Byte) (cap : Half),
        items[i]? = some ([byteAt body (1 + 4 * i), d] ++ halfBytes cap) ∧ ((byteAt body (1 + 4 * i)).toNat > 7 → d.toNat ≤ 100)
        ∧ ∀ h : (byteAt body (1 + 4 * i)).toNat < 8, d = s.fare.classes[(byteAt body (1 + 4 * i)).toNat].discount
          ∧ cap = s.fare.classes[(byteAt body (1 + 4 * i)).toNat].cap)

/-- LOAD STATIONS, LOAD BANDS and LOAD CLASSES (R58, R59, R62). -/
def Obligations.TablesTakeWhatTheyAreLoaded : Prop :=
  Claims.LoadStationsAndBandsReplaceWhatTheyName ∧ Claims.LoadClassesKeepsTheLastValues

/-- RELEASE DAYS: ADD joins a new pair at the end, is DONE for a pair present, FULL at 16 pairs and OUT_OF_RANGE for a station above
1 023; REMOVE takes the pair out or is NOT_FOUND; CLEAR empties the list. Each reply carries the action, the pair where one was
given, and the number of pairs afterwards (R63). An action with no code is OUT_OF_RANGE with the list as it was; whether its reply then
shows the pair is a free value. The model's choice: that free value (log entry 2), one presence mark before the pair (log entry 43), and
the action's byte sent back as it came (log entry 52). -/
def Obligations.ReleaseDaysKeepsTheList : Prop :=
  ∀ (s : State) (body : List Byte), s.listening → body.length = 5 →
    let pair := (halfAt body 1, halfAt body 3)
    let old := s.fare.released
    let given := byteAt body 0 :: 1 :: (halfBytes pair.1 ++ halfBytes pair.2)
    let answers := fun (l : List (Half × Half)) (r : Result) (shown : List Byte) =>
      exec (.releaseDays body) s = .next
        (({ s with fare := { s.fare with released := l } } : State).replying 0x0E r (shown ++ natHalf l.length))
    (byteAt body 0 = 0 → 1023 < pair.1.toNat → answers old .outOfRange given)
    ∧ (byteAt body 0 = 0 → pair.1.toNat ≤ 1023 → pair ∈ old → answers old .done given)
    ∧ (byteAt body 0 = 0 → pair.1.toNat ≤ 1023 → pair ∉ old → 16 ≤ old.length → answers old .full given)
    ∧ (byteAt body 0 = 0 → pair.1.toNat ≤ 1023 → pair ∉ old → old.length < 16 → answers (old ++ [pair]) .done given)
    ∧ (byteAt body 0 = 1 → pair ∈ old → answers (old.filter fun p => decide (p ≠ pair)) .done given)
    ∧ (byteAt body 0 = 1 → pair ∉ old → answers old .notFound given)
    ∧ (byteAt body 0 = 2 → answers [] .done [2, 0, 0, 0, 0, 0])
    ∧ (2 < (byteAt body 0).toNat → ∃ (shown : List Byte) (n : Nat),
      (shown = given ∨ shown = byteAt body 0 :: List.replicate 5 0)
      ∧ exec (.releaseDays body) s = .next
        (({ s with freeCount := n } : State).replying 0x0E .outOfRange (shown ++ natHalf old.length)))

/-! ### The card check unit's requests -/

/-- LOAD KEY: slot g takes the state and the key, key 0 for EMPTY; a generation above 15 or a state with no code is refused
OUT_OF_RANGE and no slot changes; the reply carries the generation and the slot's state, never the key (R17). For a generation with no slot the state in the reply is a
free one of the three codes and the generation comes back as it was sent (the model's choice, log entries 2 and 52). -/
def Claims.LoadKeyStoresOneSlot : Prop :=
  ∀ (s : State) (body : List Byte), s.listening → body.length = 6 →
    let g := (byteAt body 0).toNat
    let stored := fun (k : KeyState) (key : Word) =>
      ({ s with check := { s.check with keys := s.check.keys.setIfInBounds g { state := k, key := key } } } : State)
    (g ≤ 15 → byteAt body 1 = 0 →
      exec (.loadKey body) s = .next ((stored .empty 0).replying 0x08 .done [byteAt body 0, 0]))
    ∧ (g ≤ 15 → byteAt body 1 = 1 →
      exec (.loadKey body) s = .next ((stored .active (wordAt body 2)).replying 0x08 .done [byteAt body 0, 1]))
    ∧ (g ≤ 15 → byteAt body 1 = 2 →
      exec (.loadKey body) s = .next ((stored .retired (wordAt body 2)).replying 0x08 .done [byteAt body 0, 2]))
    ∧ (∀ h : g < 16, 2 < (byteAt body 1).toNat → exec (.loadKey body) s
      = .next (s.replying 0x08 .outOfRange [byteAt body 0, codeIn keyStateList s.check.keys[g].state]))
    ∧ (15 < g → ∃ k < 3, exec (.loadKey body) s = .next
      (({ s with freeCount := s.freeCount + 1 } : State).replying 0x08 .outOfRange [byteAt body 0, BitVec.ofNat 8 k]))

/-- SET POLICY stores the policy for its kind; for BLOCKED and FORGED only REFUSE is accepted; a policy not accepted, or a kind or
policy that does not exist, is refused OUT_OF_RANGE and no policy changes. After reset each kind has its policy of Table 15 (R112). For
a kind that does not exist the policy in the reply is a free one of the three codes and the kind's byte comes back as it was sent (the
model's choice, log entries 2 and 52). -/
def Claims.SetPolicyStoresWhatItAccepts : Prop :=
  (∀ (s : State) (body : List Byte), s.listening → body.length = 2 →
    (∀ k p, decodeIn evidenceList (byteAt body 0) = some k → decodeIn policyList (byteAt body 1) = some p →
      ((k = .blocked ∨ k = .forged) → p = .refuse) →
      ∃ q : Policies, (∀ j, q.get j = if j = k then p else s.check.policies.get j)
        ∧ exec (.setPolicy body) s = .next
          (({ s with check := { s.check with policies := q } } : State).replying 0x09 .done [byteAt body 0, byteAt body 1]))
    ∧ (∀ k, decodeIn evidenceList (byteAt body 0) = some k →
      (∀ p, decodeIn policyList (byteAt body 1) = some p → (k = .blocked ∨ k = .forged) ∧ p ≠ .refuse) →
      exec (.setPolicy body) s
        = .next (s.replying 0x09 .outOfRange [byteAt body 0, codeIn policyList (s.check.policies.get k)]))
    ∧ (decodeIn evidenceList (byteAt body 0) = none → ∃ k < 3, exec (.setPolicy body) s = .next
      (({ s with freeCount := s.freeCount + 1 } : State).replying 0x09 .outOfRange [byteAt body 0, BitVec.ofNat 8 k])))
  ∧ State.reset.check.policies =
    { blocked := .refuse, hotlisted := .refuseAndBlock, forged := .refuse, replay := .refuseAndBlock
      divergent := .refuseAndBlock, concurrent := .refuse, impossible := .flag }

/-- LOAD KEY and SET POLICY (R17, R112). -/
def Obligations.KeysAndPoliciesAreStored : Prop :=
  Claims.LoadKeyStoresOneSlot ∧ Claims.SetPolicyStoresWhatItAccepts

/-- HOTLIST ADD and HOTLIST REMOVE by their cases, on a list in order: a HOST number stays, a LOCAL number becomes HOST and leaves
the LOCAL order with its mark, a new number joins a list of fewer than 2 048 as HOST and is refused FULL by a full one; a number
removed leaves the list and the LOCAL order, an absent one is NOT_FOUND. No other number changes (R117, R118). -/
def Claims.HotlistAddAndRemoveChangeOneNumber : Prop :=
  ∀ (s : State) (body : List Byte), s.listening → body.length = 8 → s.HotlistOrdered →
    let n := longAt body 0
    let counts := fun (h : Hotlist) =>
      natHalf h.entries.length ++ natHalf (h.entries.countP fun e => decide (e.origin = .localAdd))
    let added := fun (h : Hotlist) => exec (.hotlistAdd body) s
      = .next (({ s with hotlist := h } : State).replying 0x0F .done (longBytes n ++ [1, 0] ++ counts h))
    let others := fun (h : Hotlist) => ∀ m ≠ n, ∀ e, e.number = m → (e ∈ h.entries ↔ e ∈ s.hotlist.entries)
    ((∃ e ∈ s.hotlist.entries, e.number = n ∧ e.origin = .host) → added s.hotlist)
    ∧ ((∃ e ∈ s.hotlist.entries, e.number = n ∧ e.origin = .localAdd) → ∃ h : Hotlist, added h ∧ others h
        ∧ { number := n, origin := .host, ownBlock := false } ∈ h.entries
        ∧ h.entries.map (·.number) = s.hotlist.entries.map (·.number)
        ∧ h.localOrder = s.hotlist.localOrder.filter fun m => decide (m ≠ n))
    ∧ ((∀ e ∈ s.hotlist.entries, e.number ≠ n) → s.hotlist.entries.length < 2048 → ∃ h : Hotlist, added h ∧ others h
        ∧ { number := n, origin := .host, ownBlock := false } ∈ h.entries
        ∧ h.entries.length = s.hotlist.entries.length + 1
        ∧ h.entries.Pairwise (fun a b => a.number.toNat < b.number.toNat) ∧ h.localOrder = s.hotlist.localOrder)
    ∧ ((∀ e ∈ s.hotlist.entries, e.number ≠ n) → 2048 ≤ s.hotlist.entries.length → exec (.hotlistAdd body) s
        = .next (s.replying 0x0F .full (longBytes n ++ [0, 0] ++ counts s.hotlist)))
    ∧ ((∃ e ∈ s.hotlist.entries, e.number = n) → ∃ h : Hotlist, others h ∧ (∀ e ∈ h.entries, e.number ≠ n)
        ∧ h.localOrder = (s.hotlist.localOrder.filter fun m => decide (m ≠ n))
        ∧ h.entries.Pairwise (fun a b => a.number.toNat < b.number.toNat)
        ∧ exec (.hotlistRemove body) s
          = .next (({ s with hotlist := h } : State).replying 0x10 .done (longBytes n ++ counts h)))
    ∧ ((∀ e ∈ s.hotlist.entries, e.number ≠ n) → exec (.hotlistRemove body) s
        = .next (s.replying 0x10 .notFound (longBytes n ++ counts s.hotlist)))

/-- HOTLIST RANGE: a slot from 0 to 7 takes the two numbers, whatever they are; a slot above 7 is refused OUT_OF_RANGE. A lookup
finds a number that is in the list, or inside a slot whose low number is not above its high number; HOTLIST QUERY changes nothing
and reports the number, its origin and mark if it is listed, the covering slots, the lookup and the two counts (R115, R116, R120). For a
slot above 7 the reply shows two free numbers and a free mark, 17 free values drawn: the model's choice (log entry 2), as
are the slot's byte sent back as it came (log entry 52), one presence mark before origin and
own-block mark (log entry 43) and a counted list of the covering slots (log entry 55). -/
def Claims.HotlistRangesAndQuery : Prop :=
  (∀ (s : State) (body : List Byte), s.listening → body.length = 17 →
    let slot := (byteAt body 0).toNat
    (slot ≤ 7 → exec (.hotlistRange body) s = .next
      (({ s with check := { s.check with
          ranges := s.check.ranges.setIfInBounds slot { low := longAt body 1, high := longAt body 9 } } } : State).replying
        0x11 .done (byteAt body 0 :: longBytes (longAt body 1) ++ longBytes (longAt body 9)
          ++ [markByte (decide ((longAt body 1).toNat ≤ (longAt body 9).toNat))])))
    ∧ (7 < slot → ∃ (low high : BitVec 64) (enabled : Bool), exec (.hotlistRange body) s = .next
        (({ s with freeCount := s.freeCount + 17 } : State).replying 0x11 .outOfRange
          (byteAt body 0 :: longBytes low ++ longBytes high ++ [markByte enabled]))))
  ∧ (∀ (s : State) (n : CardNumber), s.hotlisted n = true ↔
      (∃ e ∈ s.hotlist.entries, e.number = n)
        ∨ ∃ r ∈ s.check.ranges.toList, r.low.toNat ≤ n.toNat ∧ n.toNat ≤ r.high.toNat)
  ∧ (∀ (s : State) (body : List Byte), s.listening → body.length = 8 →
    let n := longAt body 0
    let covering := (List.range 8).filter fun i =>
      match s.check.ranges.toList[i]? with
      | some r => decide (r.low.toNat ≤ n.toNat ∧ n.toNat ≤ r.high.toNat)
      | none => false
    exec (.hotlistQuery body) s = .next (s.replying 0x12 .done
      (longBytes n
        ++ (match s.hotlist.entries.find? fun e => decide (e.number = n) with
            | some e => [1, codeIn hotOriginList e.origin, markByte e.ownBlock]
            | none => [0, 0, 0])
        ++ natHalf covering.length ++ covering.map (fun i => BitVec.ofNat 8 i)
        ++ [markByte (s.hotlisted n)]
        ++ natHalf s.hotlist.entries.length
        ++ natHalf (s.hotlist.entries.countP fun e => decide (e.origin = .localAdd)))))

/-- The hotlist requests and the lookup (R115 to R118, R120). -/
def Obligations.HotlistRequestsAndLookups : Prop :=
  Claims.HotlistAddAndRemoveChangeOneNumber ∧ Claims.HotlistRangesAndQuery

/-- PUSH SIGHTING is refused OUT_OF_RANGE with nothing changed for a station above 1 023, a minute above 1 439 or a direction with
no code. Else the entry takes the pushed values with gate unknown and source REMOTE when it has no sighting part or a lower
counter, and stays as it was otherwise; its hold, displaced hold and contest note are never touched; FULL when no entry could be
made (R91). That a refused or FULL push is answered with the result alone is the model's choice (log entry 14). -/
def Obligations.PushSightingRecordsTheNewer : Prop :=
  ∀ (s : State) (body : List Byte), s.listening → body.length = 21 → s.SightingsBounded →
    let n := longAt body 0
    let accepted := (halfAt body 14).toNat ≤ 1023 ∧ (halfAt body 18).toNat ≤ 1439 ∧ (byteAt body 20).toNat ≤ 1
    let x : Sighting :=
      { counter := halfAt body 8, chain := wordAt body 10, station := halfAt body 14, gate := none, day := halfAt body 16
        minute := halfAt body 18, direction := if byteAt body 20 = 0 then .entry else .exit, source := .remote }
    let shown := fun (y : Sighting) =>
      halfBytes y.counter ++ wordBytes y.chain ++ halfBytes y.station ++ [y.gate.getD 255] ++ halfBytes y.day ++ halfBytes y.minute
        ++ [codeIn directionList y.direction, codeIn sightingSourceList y.source]
    let replaced := fun (l : List SightingEntry) => exec (.pushSighting body) s
      = .next (({ s with sightings := l } : State).replying 0x13 .done (0 :: shown x))
    (¬ accepted → exec (.pushSighting body) s = .next (s.replying 0x13 .outOfRange []))
    ∧ (accepted → ∀ e ∈ s.sightings, e.number = n →
      ((∀ old, e.sighting = some old → old.counter.toNat < x.counter.toNat) →
        replaced ((s.sightings.filter fun y => decide (y.number ≠ n)) ++ [{ e with sighting := some x }]))
      ∧ (∀ old, e.sighting = some old → x.counter.toNat ≤ old.counter.toNat →
        exec (.pushSighting body) s = .next (s.replying 0x13 .done (1 :: shown old))))
    ∧ (accepted → (∀ e ∈ s.sightings, e.number ≠ n) → s.sightings.length < 256 →
      replaced (s.sightings
        ++ [{ number := n, sighting := some x, hold := .noHold, displaced := none, contestNote := none }]))
    ∧ (accepted → (∀ e ∈ s.sightings, e.number ≠ n) → s.sightings.length = 256 → (∀ e ∈ s.sightings, e.hold ≠ .noHold) →
      exec (.pushSighting body) s = .next (s.replying 0x13 .full []))
    ∧ (accepted → (∀ e ∈ s.sightings, e.number ≠ n) → s.sightings.length = 256 →
      ∀ before v after, s.sightings = before ++ v :: after → v.hold = .noHold → (∀ e ∈ before, e.hold ≠ .noHold) →
      replaced (before ++ after
        ++ [{ number := n, sighting := some x, hold := .noHold, displaced := none, contestNote := none }]))

/-! ### The watch unit -/

/-- SET WATCH for a unit stores all six values together, whatever low and high are, or is refused OUT_OF_RANGE with nothing changed
for a target from 8 to 254, a field, sense or kind filter with no code, or a group above 3; for the common settings it stores all
three values, or is refused for a combine mode or an action with no code. It never touches the watch status (R128, R129). For a unit that does not exist
the reply's values are free, each among the codes it can have, and the target comes back as sent (the model's choice, log entries 2 and 52). -/
def Claims.SetWatchStoresOneTarget : Prop :=
  ∀ (s : State) (body : List Byte), s.listening → body.length = 25 →
    let target := (byteAt body 0).toNat
    let unitOk := (byteAt body 1).toNat ≤ 5 ∧ (byteAt body 18).toNat ≤ 1 ∧ (byteAt body 19).toNat ≤ 2
      ∧ (byteAt body 20).toNat ≤ 3
    let commonOk := (byteAt body 21).toNat ≤ 1 ∧ (byteAt body 22).toNat ≤ 2
    (target ≤ 7 → unitOk → ∃ w : WatchUnit,
      decodeIn watchFieldList (byteAt body 1) = some w.field ∧ w.low = longAt body 2 ∧ w.high = longAt body 10
      ∧ decodeIn senseList (byteAt body 18) = some w.sense ∧ decodeIn kindFilterList (byteAt body 19) = some w.kind
      ∧ w.group = byteAt body 20
      ∧ exec (.setWatchUnit body) s = .next
        (({ s with watch := { s.watch with units := s.watch.units.setIfInBounds target w } } : State).replying 0x14 .done
          (byteAt body 0 :: byteAt body 1 :: longBytes w.low ++ longBytes w.high
            ++ [byteAt body 18, byteAt body 19, byteAt body 20, markByte w.enabled])))
    ∧ (∀ h : target < 8, ¬ unitOk →
      let w := s.watch.units[target]
      exec (.setWatchUnit body) s = .next (s.replying 0x14 .outOfRange
        (byteAt body 0 :: codeIn watchFieldList w.field :: longBytes w.low ++ longBytes w.high
          ++ [codeIn senseList w.sense, codeIn kindFilterList w.kind, w.group, markByte w.enabled])))
    ∧ (7 < target → target < 255 → ∃ (w : WatchUnit) (enabled : Bool) (n : Nat), w.group.toNat ≤ 3
      ∧ exec (.setWatchUnit body) s = .next
        (({ s with freeCount := n } : State).replying 0x14 .outOfRange
          (byteAt body 0 :: codeIn watchFieldList w.field :: longBytes w.low ++ longBytes w.high
            ++ [codeIn senseList w.sense, codeIn kindFilterList w.kind, w.group, markByte enabled])))
    ∧ (target = 255 → commonOk → ∃ c a, decodeIn combineList (byteAt body 21) = some c
        ∧ decodeIn watchActionList (byteAt body 22) = some a
        ∧ exec (.setWatchCommon body) s = .next
          (({ s with watch := { s.watch with combine := c, action := a, countdown := halfAt body 23 } } : State).replying
            0x14 .done ([byteAt body 21, byteAt body 22] ++ halfBytes (halfAt body 23))))
    ∧ (target = 255 → ¬ commonOk → exec (.setWatchCommon body) s = .next (s.replying 0x14 .outOfRange
        ([codeIn combineList s.watch.combine, codeIn watchActionList s.watch.action] ++ halfBytes s.watch.countdown)))

/-- WATCH STATUS changes nothing and returns the status (a pending sequence as 0), the countdown, the combine mode and the action;
CLEAR WATCH empties the status and nothing else, whether or not it held anything (R139, R210). One presence mark before the whole status
is the model's choice (log entry 43). -/
def Claims.WatchStatusAndClearWatch : Prop :=
  ∀ s : State, s.listening →
    exec (.watchStatus []) s = .next (s.replying 0x15 .done
      ((match s.watch.status with
          | some x => 1 :: longBytes x.number ++ [codeIn faceList x.face, x.units] ++ wordBytes (x.sequence.getD 0)
              ++ [markByte x.more]
          | none => List.replicate 16 0)
        ++ halfBytes s.watch.countdown ++ [codeIn combineList s.watch.combine, codeIn watchActionList s.watch.action]))
    ∧ exec (.clearWatch []) s = .next
      (({ s with watch := { s.watch with status := none } } : State).replying 0x16 .done [])

/-- SET WATCH, WATCH STATUS and CLEAR WATCH (R128, R129, R139). -/
def Obligations.WatchRequestsStoreAndReport : Prop :=
  Claims.SetWatchStoresOneTarget ∧ Claims.WatchStatusAndClearWatch

/-- A transaction is matched under OR when some enabled unit gives true for it, under AND when a group is in use and every group in
use has an enabled unit that gives true; a disabled unit takes no part (R134). -/
def Claims.WatchUnitsCombineByGroups : Prop :=
  ∀ (w : Watch) (v : WatchValues), (∀ u ∈ w.units.toList, u.group.toNat ≤ 3) →
    let enabled := w.units.toList.filter WatchUnit.enabled
    (w.combine = .or → (effectiveMatch w v = true ↔ ∃ u ∈ enabled, u.result v = true))
    ∧ (w.combine = .and → (effectiveMatch w v = true ↔ enabled ≠ []
        ∧ ∀ u ∈ enabled, ∃ x ∈ enabled, x.group = u.group ∧ x.result v = true))

/-- A unit's result is false when its kind filter names the other kind or its field has no value; else it says whether the value
lies from low to high, or does not, by its sense, comparing signed for BALANCE_AFTER and unsigned for every other field. The matched
units are the enabled ones whose result is true (R133). -/
def Claims.WatchUnitComparesItsField : Prop :=
  (∀ (w : WatchUnit) (v : WatchValues),
    let bound := fun (b : BitVec 64) => if w.field = .balanceAfter then b.toInt else (b.toNat : Int)
    ((w.kind = .entry ∧ v.face = .paid) ∨ (w.kind = .exit ∧ v.face = .street) → w.result v = false)
    ∧ (w.field = .entryStation → v.entryStation = none → w.result v = false)
    ∧ (∀ x : Int, (w.kind = .entry → v.face = .street) → (w.kind = .exit → v.face = .paid) → v.value w.field = some x →
      (w.result v = true ↔
        if w.sense = .inside then bound w.low ≤ x ∧ x ≤ bound w.high else x < bound w.low ∨ bound w.high < x))
    ∧ (w.enabled = true ↔ bound w.low ≤ bound w.high))
  ∧ (∀ (units : Vector WatchUnit 8) (v : WatchValues) (n : Nat) (h : n < 8),
    (matchedUnits units.toList v).getLsbD n = (units[n].enabled && units[n].result v))

/-- A unit's own result, the matched units, and the effective match by groups (R133, R134). -/
def Obligations.WatchUnitsAreComparedAndCombined : Prop :=
  Claims.WatchUnitComparesItsField ∧ Claims.WatchUnitsCombineByGroups

/-! ### The journal -/

/-- READ JOURNAL changes nothing: with a count from 1 to 8 it returns, in store order, the oldest records at or after the starting
sequence, up to the count; a count of 0 or above 8 is refused OUT_OF_RANGE. Every reply carries the starting sequence and the
count, the oldest and the next sequence, the records held, the free slots, the obligations and the more mark (R190), and each
record is sent as the 84 bytes of Table 28, with its presence bits and its check. That a refused
request returns no record (log entry 14) and a clear more mark (log entry 40) is the model's choice. -/
def Claims.ReadJournalReturnsOldestFirst : Prop :=
  ∀ (s : State) (body : List Byte), s.listening → body.length = 5 →
    let start := wordAt body 0
    let count := byteAt body 4
    let found := (s.journal.records.filter fun r => decide ((r.sequence - start).toNat < 2 ^ 31)).take count.toNat
    let oldest : Word := match s.journal.records with
      | r :: _ => r.sequence
      | [] => 0
    let slot := fun (r : Record) =>
      let x := r.fields
      let bit := fun (n : Nat) (b : Bool) => if b then 2 ^ n else 0
      let bytes := wordBytes r.sequence
        ++ (match r.kind with
          | .transaction o => [0, codeIn txOutcomeList o]
          | .tear o => [1, codeIn tearOutcomeList o]
          | .passage o => [2, codeIn passageOutcomeList o]
          | .lateAlert => [3, 0])
        ++ [codeIn faceList r.face, BitVec.ofNat 8 (bit 0 r.stamp.isNone + bit 1 x.bypassed + bit 2 x.freePassage)]
        ++ (match r.stamp with
          | some (day, minute) => halfBytes day ++ halfBytes minute
          | none => [0, 0, 0, 0])
        ++ natHalf (bit 0 x.number.isSome + bit 1 x.cls.isSome + bit 2 x.evidence.isSome + bit 3 x.reason.isSome
          + bit 4 x.watchUnits.isSome + bit 5 x.fare.isSome + bit 6 x.balanceAfter.isSome + bit 7 x.counterAfter.isSome
          + bit 8 x.entryStation.isSome + bit 9 x.reference.isSome)
        ++ longBytes (x.number.getD 0)
        ++ [x.cls.getD 0, (x.evidence.map (codeIn evidenceList)).getD 0, (x.reason.map (codeIn reasonList)).getD 0, x.watchUnits.getD 0]
        ++ halfBytes (x.fare.getD 0) ++ wordBytes (x.balanceAfter.getD 0) ++ halfBytes (x.counterAfter.getD 0)
        ++ halfBytes (x.entryStation.getD 0) ++ wordBytes (x.reference.getD 0) ++ List.replicate 42 0
      bytes ++ halfBytes (crc16 bytes)
    let fixed := fun (returned : List Record) (more : Bool) =>
      wordBytes start ++ [count] ++ wordBytes oldest ++ wordBytes s.journal.next ++ natHalf s.journal.records.length
        ++ natHalf s.freeSlots ++ natHalf s.obligations ++ [BitVec.ofNat 8 returned.length, markByte more]
    (1 ≤ count.toNat → count.toNat ≤ 8 → ∃ more : Bool,
      (∀ last final, found.getLast? = some last → s.journal.records.getLast? = some final →
        (more = true ↔ last.sequence ≠ final.sequence))
      ∧ (found = [] → more = false)
      ∧ exec (.readJournal body) s
        = .next (s.replying 0x1B .done (fixed found more ++ found.flatMap slot)))
    ∧ ((count.toNat = 0 ∨ 8 < count.toNat) →
      exec (.readJournal body) s = .next (s.replying 0x1B .outOfRange (fixed [] false)))

/-- FREE JOURNAL removes, from the oldest end, the records for which the carried sequence is at or after theirs, and stops at the
first record after it; the next sequence stays. The reply carries how many went, the oldest and the next sequence, and the free
slots and obligations after the removal (R191). That a sequence at or after the newest record but not the oldest removes none is the model's
choice (log entry 56). -/
def Claims.FreeJournalRemovesTheOldest : Prop :=
  ∀ (s : State) (body : List Byte), s.listening → body.length = 4 →
    ∀ gone kept, s.journal.records = gone ++ kept →
      (∀ r ∈ gone, (wordAt body 0 - r.sequence).toNat < 2 ^ 31) →
      (∀ r, kept.head? = some r → 2 ^ 31 ≤ (wordAt body 0 - r.sequence).toNat) →
      exec (.freeJournal body) s = .next
        (({ s with journal := { s.journal with records := kept } } : State).replying 0x1C .done
          (natHalf gone.length
            ++ wordBytes (match kept with
                | r :: _ => r.sequence
                | [] => 0)
            ++ wordBytes s.journal.next ++ natHalf (1024 - kept.length) ++ natHalf s.obligations))

/-- READ JOURNAL and FREE JOURNAL (R190, R191). -/
def Obligations.JournalIsReadAndFreedInOrder : Prop :=
  Claims.ReadJournalReturnsOldestFirst ∧ Claims.FreeJournalRemovesTheOldest

/-- Appending gives a record the next sequence, which passes from 4 294 967 295 to 1, puts it at the newest end, and raises JOURNAL
attention exactly when the free slots fall from at least one of the thresholds 256, 192, 128 and 64 to below it (R183, R184, R192). A
spare record is written only while free slots exceed obligations (R189). -/
def Obligations.AppendGivesTheNextSequence : Prop :=
  ∀ (s : State) (k : RecordKind) (stamp : Stamp) (f : Face) (x : RecordFields),
    let t := s.append k stamp f x
    t.journal.records = s.journal.records ++ [{ sequence := s.journal.next, kind := k, stamp := stamp, face := f, fields := x }]
    ∧ t.journal.next = (if s.journal.next = 4294967295 then 1 else s.journal.next + 1)
    ∧ (s.journal.records.length < 1024 → s.service.flags.journal = false →
        (t.service.flags.journal = true ↔ s.freeSlots ∈ [256, 192, 128, 64]))
    ∧ (s.appendSpare k f x = if s.obligations < s.freeSlots then s.append k s.stamp f x else s)

/-! ### The aisle unit's requests and the tear table's -/

/-- SET AISLE: a station above 1 023, a gate above 63, a mode or polarity with no code is OUT_OF_RANGE; a change of mode while a
queue holds an entry is WRONG_STATE; either way nothing changes. Accepted, every value is stored together with the four clamped
ones clamped, the challenge is seeded with station × 64 + gate, the lock changes with the mode, and a beam whose polarity changed
is read again. Every TORN entry past the new window is removed with one TEAR UNRESOLVED record that references its TORN record, and TEAR
attention; nothing else changes (R19, R55, R140, R156, R205). The model's choice: the lock changes only when the mode changes (log entry
16), a refused reply shows zeros for a place that is not set and every reply the tear window and ring timeout in two bytes (log entry 14), and the entries of one SET AISLE expire in a free order (log
entry 3). -/
def Obligations.SetAisleStoresEverythingTogether : Prop :=
  ∀ (s : State) (body : List Byte), s.listening → body.length = 14 →
    let inRange := (halfAt body 0).toNat ≤ 1023 ∧ (byteAt body 2).toNat ≤ 63 ∧ (byteAt body 3).toNat ≤ 2
      ∧ ∀ i < 4, (byteAt body (4 + i)).toNat ≤ 1
    let polarity := fun (i : Nat) => if byteAt body (4 + i) = 0 then Polarity.blockedHigh else .blockedLow
    let setup : Setup :=
      { place := some { station := halfAt body 0, gate := byteAt body 2 }
        grantLifetime := max 3 (min 30 (byteAt body 8).toNat), tearWindow := max 10 (min 600 (halfAt body 9).toNat)
        ringTimeout := max 20 (min 500 (halfAt body 11).toNat), sightingLifetime := max 1 (min 7 (byteAt body 13).toNat) }
    let occupied := s.aisle.queues.entry ≠ [] ∨ s.aisle.queues.exit ≠ []
    let reads := fun (p : Polarity) (b : BeamInput) =>
      let seen := if p = .blockedHigh then b.high else !b.high
      if p = b.polarity then b
      else { b with polarity := p, pendingSince := if seen = b.blocked then none else some (b.pendingSince.getD s.now) }
    let polarityCode := fun (b : BeamInput) => if b.polarity = .blockedHigh then (0 : Byte) else 1
    let stands := (match s.setup.place with
        | some p => halfBytes p.station ++ [p.gate]
        | none => [0, 0, 0])
      ++ [codeIn aisleModeList s.aisle.mode, polarityCode s.aisle.beams.beam1, polarityCode s.aisle.beams.beam2,
          polarityCode s.aisle.beams.beam3, polarityCode s.aisle.beams.beam4, BitVec.ofNat 8 s.setup.grantLifetime]
      ++ natHalf s.setup.tearWindow ++ natHalf s.setup.ringTimeout ++ natHalf s.setup.sightingLifetime
    (¬ inRange → exec (.setAisle body) s = .next (s.replying 0x03 .outOfRange stands))
    ∧ (∀ mode, inRange → decodeIn aisleModeList (byteAt body 3) = some mode → mode ≠ s.aisle.mode → occupied →
        exec (.setAisle body) s = .next (s.replying 0x03 .wrongState stands))
    ∧ (∀ mode, inRange → decodeIn aisleModeList (byteAt body 3) = some mode → (mode = s.aisle.mode ∨ ¬ occupied) →
        let stored : State := { s with
          setup := setup
          check := { s.check with challenge := BitVec.ofNat 32 ((halfAt body 0).toNat * 64 + (byteAt body 2).toNat) }
          aisle := { s.aisle with
            mode := mode
            lock := if mode = s.aisle.mode then s.aisle.lock else match mode with
              | .entryOnly => .entry
              | .exitOnly => .exit
              | .bidirectional => .unlocked
            beams :=
              { beam1 := reads (polarity 0) s.aisle.beams.beam1, beam2 := reads (polarity 1) s.aisle.beams.beam2
                beam3 := reads (polarity 2) s.aisle.beams.beam3, beam4 := reads (polarity 3) s.aisle.beams.beam4 } } }
        let takes := fun (t : State) => exec (.setAisle body) s = .next (t.replying 0x03 .done
          (halfBytes (halfAt body 0) ++ [byteAt body 2, byteAt body 3, byteAt body 4, byteAt body 5, byteAt body 6,
              byteAt body 7, BitVec.ofNat 8 setup.grantLifetime]
            ++ natHalf setup.tearWindow ++ natHalf setup.ringTimeout ++ natHalf setup.sightingLifetime))
        let past := fun (e : TearEntry) => match e.state with
          | .torn start _ => decide (setup.tearWindow * 1000 ≤ (s.now - start).toNat)
          | .pending => false
        let gone := s.tears.filter past
        (gone = [] → takes stored)
        ∧ ((s.tears.map (·.number)).Nodup → gone ≠ [] → ∃ (records : List Record) (n : Nat), takes { stored with
            tears := s.tears.filter fun e => !past e
            journal := { records := s.journal.records ++ records, next := Claims.nextAfter gone.length s.journal.next }
            service := { s.service with flags := { s.service.flags with
              tear := true
              journal := s.service.flags.journal || (List.range gone.length).any fun i => [256, 192, 128, 64].contains (s.freeSlots - i) } }
            freeCount := n }
          ∧ (records.map fun r => (r.kind, r.stamp, r.face, r.fields)).Perm (gone.map fun e =>
              (.tear .unresolved, s.stamp, e.face,
                { RecordFields.blank with number := some e.number, reference := e.reference }))
          ∧ records.map (·.sequence) = (List.range gone.length).map fun i => Claims.nextAfter i s.journal.next))

/-- READ COUNTERS, AISLE STATUS and TEAR LIST change nothing but the link. READ COUNTERS gives the seven entry counts, then the
seven exit counts; TEAR LIST gives the tear window, the count and every entry, oldest first (R166, R206, R207). The model's choice: an
unset day and minute as zeros and the two alarm marks before the two times (log entry 14), no number for a context that never had a name
answer (log entry 42), which items share a presence mark (log entry 43), the open limit before the closed one (log entry 51), and a free
byte, one free value drawn, for a crossing count above 255 (log entry 2), and a ring size above
255 sent without its upper bits (log entry 53). -/
def Obligations.AisleReportsChangeNothing : Prop :=
  ∀ s : State, s.listening →
    let counts := fun (k : PassageCounters) =>
      [k.granted, k.used, k.expired, k.withdrawn, k.intrusion, k.tailgate, k.contraflow].flatMap wordBytes
    exec (.readCounters []) s = .next (s.replying 0x1D .done (counts s.aisle.counters.entry ++ counts s.aisle.counters.exit))
    ∧ exec (.tearList []) s = .next (s.replying 0x1F .done
        (natHalf s.setup.tearWindow ++ natHalf s.tears.length
          ++ s.tears.flatMap fun e =>
            longBytes e.number ++ [e.cls, codeIn faceList e.face, codeIn tearKindList e.kind] ++ halfBytes e.oldCounter
              ++ halfBytes e.newCounter ++ halfBytes e.fare ++ wordBytes e.balanceAfter
              ++ (match e.written with
                  | some (day, minute) => halfBytes day ++ halfBytes minute
                  | none => [0, 0, 0, 0])
              ++ match e.state with
                | .pending => List.replicate 11 0
                | .torn start reference => [1, 1] ++ wordBytes reference
                    ++ [1] ++ natWord (s.setup.tearWindow * 1000 - (s.now - start).toNat)))
    ∧ (∃ (crossings : Byte) (n : Nat),
        ((∀ r, s.aisle.run = some r → r.crossings ≤ 255) → n = s.freeCount)
        ∧ (∀ r, s.aisle.run = some r → (r.crossings ≤ 255 → crossings = BitVec.ofNat 8 r.crossings)
          ∧ (255 < r.crossings → n = s.freeCount + 1))
        ∧ exec (.aisleStatus []) s = .next (({ s with freeCount := n } : State).replying 0x1E .done
          ([codeIn serviceStateList s.service.state] ++ wordBytes s.now ++ halfBytes s.service.clock.day
            ++ halfBytes s.service.clock.minute ++ [markByte s.service.clock.peakDay, markByte s.service.clock.isSet]
            ++ ([s.faces.street, s.faces.paid].flatMap fun u =>
                [codeIn faceStateList u.state, codeIn lastOutcomeList u.lastOutcome])
            ++ ([s.contexts.street, s.contexts.paid].flatMap fun c => codeIn ctxStateList c.state ::
                (match c.state, c.name with
                  | .idle, _ | _, none => List.replicate 9 0
                  | _, some a => 1 :: longBytes a.number))
            ++ [codeIn ringStateList s.ring.state, BitVec.ofNat 8 s.ring.size] ++ natHalf s.ring.queue.length
            ++ natHalf s.sightings.length ++ natHalf (s.sightings.countP fun e => decide (e.hold ≠ .noHold))
            ++ ([s.aisle.beams.beam1, s.aisle.beams.beam2, s.aisle.beams.beam3, s.aisle.beams.beam4].flatMap fun b =>
                [markByte b.blocked, markByte b.stuck])
            ++ (match s.aisle.run with
                | some r => [1, codeIn runDirectionList r.direction, codeIn faceList r.side, crossings]
                | none => [0, 0, 0, 0])
            ++ ([s.aisle.queues.entry, s.aisle.queues.exit].flatMap fun q =>
                natHalf q.length ++ q.flatMap fun e => match e.state with
                  | .reserved => [0, codeIn faceList e.face] ++ longBytes e.number ++ List.replicate 10 0
                  | .granted sequence start life _ => [1, codeIn faceList e.face] ++ longBytes e.number
                      ++ [1] ++ wordBytes sequence ++ [1] ++ natWord (life - (s.now - start).toNat))
            ++ [codeIn aisleModeList s.aisle.mode, codeIn lockList s.aisle.lock, codeIn leafStateList s.aisle.leaf,
                markByte s.aisle.openLimit.accepted, markByte s.aisle.closedLimit.accepted]
            ++ [markByte (decide (s.aisle.passageAlarm ≠ .silent)), markByte s.aisle.watchAlarm.isSome]
            ++ (match s.aisle.passageAlarm with
                | .since t => 1 :: natWord (3000 - (s.now - t).toNat)
                | _ => [0, 0, 0, 0, 0])
            ++ (match s.aisle.watchAlarm with
                | some t => 1 :: natWord (3000 - (s.now - t).toNat)
                | none => [0, 0, 0, 0, 0]))))

/-! ### Resets and power -/

/-- The values after either kind of reset of the link, the faces and contexts, the fare and card check units, the ring, the watches, the
values of SET AISLE, the service state and clock, the lockdown cause and the mask (R1, R17, R19, R22, R57, R59, R61 to R63, R81, R94, R103,
R112, R115, R127, R167, R175, R181, R197, R205). The unanswered count and the pending field-off mark, which nothing reads before they are
set, are the model's choice (log entry 36). -/
def Claims.BlocksAtRest (t : State) : Prop :=
  let face : FaceUnit :=
    { state := .off, settleStart := none, pollStart := none, poll := none, exchange := none, missCount := 0, unanswered := 0
      offPending := false, lastOutcome := .noOutcome }
  t.link = { collector := .hunting, busy := false, reply := none, overrun := 0, resetPending := false }
  ∧ t.faces = { street := face, paid := face } ∧ t.contexts = { street := .idle, paid := .idle }
  ∧ t.fare =
    { stations := .replicate 1024 { loaded := false, zone := 0, group := 0 }, bands := .replicate 32 (.replicate 32 15)
      fares :=
        { step := 10, transferCredit := 0, transferWindow := 30, incompleteFare := 0, overstayLimit := 180, overstayCharge := 0
          grace := 15, floor := 0, minEntry := 0, base := .replicate 16 0, minTravel := .replicate 16 0, peakPercent := 100
          windows := .replicate 4 (0, 0) }
      faresLoaded := false, classes := .replicate 8 { discount := 0, cap := 0 }, released := [] }
  ∧ t.check =
    { keys := .replicate 16 { state := .empty, key := 0 }, challenge := 0
      policies :=
        { blocked := .refuse, hotlisted := .refuseAndBlock, forged := .refuse, replay := .refuseAndBlock
          divergent := .refuseAndBlock, concurrent := .refuse, impossible := .flag }
      ranges := .replicate 8 { low := 1, high := 0 } }
  ∧ t.sightings = []
  ∧ t.ring = { state := .isolated, size := 0, queue := [], censusStart := none, holdOrder := [] }
  ∧ t.watch =
    { units := .replicate 8 { field := .cardNumber, low := 1, high := 0, sense := .inside, kind := .any, group := 0 }
      combine := .or, action := .report, countdown := 0, status := none }
  ∧ t.setup = { place := none, grantLifetime := 10, tearWindow := 120, ringTimeout := 40, sightingLifetime := 3 }
  ∧ t.service.state = .starting
  ∧ t.service.clock = { isSet := false, day := 0, minute := 0, ms := 0, peakDay := false, rollover := 240 }
  ∧ t.service.lockdownCause = none ∧ ∀ g, t.service.mask.get g = true

/-- The aisle and the emergency input after either kind of reset, the inputs at the levels they had: no run, queues, lock, counters, alarms
or tones, no beam blocked or stuck, one whose input reads blocked pending from time 0, and the leaf CLOSED or CLOSING by its closed limit
(R140, R142, R150, R156, R157, R165, R166, R170). -/
def Claims.AisleAtRest (s t : State) : Prop :=
  let line := fun (u : LineInput) => ({ level := u.level, accepted := u.level, pendingSince := none } : LineInput)
  t.service.emergency = line s.service.emergency
  ∧ t.aisle.passageAlarm = .silent ∧ t.aisle.watchAlarm = none ∧ t.aisle.tones = { street := none, paid := none }
  ∧ t.aisle.openLimit = line s.aisle.openLimit ∧ t.aisle.closedLimit = line s.aisle.closedLimit
  ∧ t.aisle.travelStart = (if s.aisle.closedLimit.level then none else some 0) ∧ t.aisle.closeStart = none
  ∧ t.aisle.run = none ∧ t.aisle.queues = { entry := [], exit := [] } ∧ t.aisle.mode = .bidirectional
  ∧ t.aisle.lock = .unlocked ∧ t.aisle.counters = { entry := .zero, exit := .zero }
  ∧ t.aisle.leaf = (if s.aisle.closedLimit.level then .closed else .closing)
  ∧ ∀ b, (t.aisle.beams.get b).high = (s.aisle.beams.get b).high
      ∧ (t.aisle.beams.get b).blocked = false ∧ (t.aisle.beams.get b).stuck = false
      ∧ (t.aisle.beams.get b).polarity = .blockedHigh
      ∧ (t.aisle.beams.get b).pendingSince = if (s.aisle.beams.get b).high then some 0 else none

/-- A reset that keeps the retained store, by a link RESET whose reply has been sent or by a power-on that finds the store valid: every
block takes its values after either kind of reset, the inputs at their levels; journal and hotlist list stay; each PENDING tear entry
becomes TORN with a TORN record dated as the entry was written, the records taking consecutive sequences in the order of the street
face's entry before the paid face's, with JOURNAL attention if they cross a threshold, and every window starts at time 0 (R56, R184, R194,
R196, R208). The link RESET leaves the retained-valid indication as it was; the power-on sets it. That a failure of the backup supply is
kept until the next power-on, and nothing else makes a power-on find the store invalid but its own check, is the model's choice (log
entry 13). -/
def Claims.ResetsKeepTheStoreAndRestTheTears : Prop :=
  ∀ s : State, (s.tears.map (·.number)).Nodup →
    let waiting := (s.tears.filter fun e => decide (e.state = .pending ∧ e.face = .street))
      ++ s.tears.filter fun e => decide (e.state = .pending ∧ e.face = .paid)
    let record := fun (i : Nat) (e : TearEntry) =>
      ({ sequence := Claims.nextAfter i s.journal.next, kind := .transaction .torn, stamp := e.written, face := e.face
         fields := { RecordFields.blank with
           number := some e.number, cls := some e.cls, fare := some e.fare, balanceAfter := some e.balanceAfter
           counterAfter := some e.newCounter } } : Record)
    let rests := fun (c : Instr) (valid : Bool) => ∃ t : State, exec c s = .next t
      ∧ t.power = .running ∧ t.now = 0 ∧ t.storeKept = s.storeKept ∧ t.pending = s.pending
      ∧ Claims.BlocksAtRest t ∧ Claims.AisleAtRest s t
      ∧ t.service.faultSlot = none ∧ t.service.retainedValid = valid
      ∧ (∀ g, t.service.flags.get g = true ↔
          g = .journal ∧ ∃ i < waiting.length, s.freeSlots - i ∈ [256, 192, 128, 64])
      ∧ t.hotlist = s.hotlist
      ∧ t.journal.records = s.journal.records ++ waiting.mapIdx record
      ∧ t.journal.next = Claims.nextAfter waiting.length s.journal.next
      ∧ t.tears.map (·.number) = s.tears.map (·.number)
      ∧ (∀ e ∈ s.tears, ∀ w r, e.state = .torn w r → { e with state := .torn 0 r } ∈ t.tears)
      ∧ (∀ (i : Nat) (e : TearEntry), waiting[i]? = some e → { e with state := .torn 0 (Claims.nextAfter i s.journal.next) } ∈ t.tears)
    (s.power = .running → s.link.reply ≠ none → s.link.resetPending = true → rests .replySent s.service.retainedValid)
    ∧ (s.storeKept = true → rests (.powerOn true) true)

/-- A power-on that finds the retained store invalid, because the backup supply failed or the store's own check does not match,
empties all three of its parts, sets the next sequence to 1, clears the retained-valid indication, and fills the fault slot with
RETAINED_LOST at time 0 with both contexts IDLE, raising FAULT and no other flag; every other block, the aisle and the emergency input
among them, takes its values after either kind of reset, the inputs at their levels (R177, R193, R195). -/
def Claims.InvalidStoreIsEmptied : Prop :=
  ∀ (s : State) (ok : Bool), (s.storeKept = false ∨ ok = false) → ∃ t : State, exec (.powerOn ok) s = .next t
    ∧ t.power = .running ∧ t.now = 0 ∧ t.storeKept = true ∧ t.pending = s.pending
    ∧ Claims.BlocksAtRest t ∧ Claims.AisleAtRest s t
    ∧ t.journal = { records := [], next := 1 } ∧ t.tears = [] ∧ t.hotlist = { entries := [], localOrder := [] }
    ∧ t.service.retainedValid = false
    ∧ t.service.faultSlot = some
        { kind := .retainedLost, time := 0, stamp := none
          snapshot := { street := (.idle, none), paid := (.idle, none) }, recoverable := true }
    ∧ (∀ g, t.service.flags.get g = true ↔ g = .fault)

/-- Losing main power or asserting the hardware reset input stops the part and cuts the exchange on the link; the retained store
stands as it was. A failure of the backup supply makes the store invalid at the next power-on (R193, R194, R209). The model's choice:
what is not retained stands until the power-on (log entry 12), and a failure of the backup supply is kept until then even while main
power is on (log entry 13). -/
def Claims.PowerCommandsKeepTheStore : Prop :=
  ∀ s : State,
    exec .powerLoss s = .next { s with power := .off, link := Link.afterReset }
    ∧ (s.power = .running → exec .hardwareResetAssert s = .next { s with power := .heldInReset, link := Link.afterReset })
    ∧ (s.power ≠ .running → exec .hardwareResetAssert s = .next s)
    ∧ exec .backupSupplyFailure s = .next { s with storeKept := false }

/-- Resets and power-ons, the retained store valid or not, and the commands that stop the part (R56, R193 to R196,
R208, R209). What two fields hold at reset that nothing reads before they are set is the model's choice (log entry 36).
-/
def Obligations.ResetsAndPowerKeepTheStore : Prop :=
  Claims.ResetsKeepTheStoreAndRestTheTears ∧ Claims.InvalidStoreIsEmptied ∧ Claims.PowerCommandsKeepTheStore

/-! ### The reader faces -/

/-- The settling time's end starts the first poll at once, and each later poll starts 100 ms after the start of the one before, in
POLLING and WATCHING (R2, R4). Before its deadline, or in another face state, the expiry does nothing (log entry 9). -/
def Claims.SettlingAndPollIntervalStartPolls : Prop :=
  ∀ (s : State) (f : Face), s.power = .running →
    let u := s.face f
    let polls := ({ s with faces := s.faces.set f { u with
      state := if u.state = .settling then .polling else u.state
      settleStart := if u.state = .settling then none else u.settleStart
      pollStart := some s.now, poll := some { second := false, sentAt := s.now, responded := false } } } : State)
    let settled := u.state = .settling ∧ ∃ t, u.settleStart = some t ∧ 20 ≤ (s.now - t).toNat
    let dueNow := (u.state = .polling ∨ u.state = .watching) ∧ ∃ t, u.pollStart = some t ∧ 100 ≤ (s.now - t).toNat
    (settled → exec (.settlingTimeExpiry f) s = .next polls)
    ∧ (¬ settled → exec (.settlingTimeExpiry f) s = .next s)
    ∧ (dueNow → exec (.pollDue f) s = .next polls)
    ∧ (¬ dueNow → exec (.pollDue f) s = .next s)

/-- A poll whose WAKE times out after 25 ms sends its second WAKE; when that times out too the poll is unanswered: the miss count adds
1 if neither WAKE drew a response; in WATCHING the second unanswered poll in a row is the card's removal, which returns the face to
POLLING and a waiting context to IDLE (R4, R7, R8, R49). -/
def Claims.WakeTimeoutsEndAPollUnanswered : Prop :=
  ∀ (s : State) (f : Face) (p : Poll), s.power = .running → (s.face f).poll = some p → 25 ≤ (s.now - p.sentAt).toNat →
    let u := s.face f
    let misses := if p.responded then u.missCount else u.missCount + 1
    let faced := fun (v : FaceUnit) => ({ s with faces := s.faces.set f v } : State)
    (p.second = false →
      exec (.wakeTimeout f) s = .next (faced { u with poll := some { p with second := true, sentAt := s.now } }))
    ∧ (p.second = true → misses < 3 → u.state = .polling →
      exec (.wakeTimeout f) s = .next (faced { u with poll := none, missCount := misses }))
    ∧ (p.second = true → misses < 3 → u.state = .watching → u.unanswered = 0 →
      exec (.wakeTimeout f) s = .next (faced { u with poll := none, missCount := misses, unanswered := 1 }))
    ∧ (p.second = true → misses < 3 → u.state = .watching → 1 ≤ u.unanswered →
      let c := s.context f
      exec (.wakeTimeout f) s = .next
        { s with
          faces := s.faces.set f
            { u with state := .polling, poll := none, pollStart := some s.now, missCount := misses, unanswered := 0
                     lastOutcome := .noOutcome }
          contexts := s.contexts.set f
            (if c.state = .removalWait ∨ c.state = .refusedShown then Context.idle else c) })

/-- The third dead poll in a row disables the face: its field goes off, a READER_FAULT naming it fills an empty fault slot with the
moment's clocks and snapshots and raises FAULT, and a waiting context enters IDLE; with the slot full, and in LOCKDOWN, the fault is taken
as SecondFaultLocksDown says (R8, R49, R177, R178). That it is this even where the poll
is also the second unanswered one in WATCHING, and that the snapshots come before the context is freed, is the model's choice (log
entry 28). -/
def Claims.ThirdDeadPollIsAReaderFault : Prop :=
  ∀ (s : State) (f : Face) (p : Poll), s.power = .running → (s.face f).poll = some p → 25 ≤ (s.now - p.sentAt).toNat →
    p.second = true → p.responded = false → 2 ≤ (s.face f).missCount →
    let faulted := ({ s with faces := s.faces.set f { Claims.fieldGone (s.face f) with state := .disabled, missCount := 3 } } :
      State).raiseFault (.readerFault f)
    let c := faulted.context f
    exec (.wakeTimeout f) s = .next { faulted with
      contexts := faulted.contexts.set f (if c.state = .removalWait ∨ c.state = .refusedShown then Context.idle else c) }
    ∧ (s.service.state ≠ .lockdown → s.service.faultSlot = none → ∃ t : State, exec (.wakeTimeout f) s = .next t
      ∧ (t.face f).state = .disabled ∧ (t.face f).poll = none ∧ (t.face f).exchange = none ∧ t.fieldOn f = false
      ∧ t.face f.other = s.face f.other ∧ t.context f.other = s.context f.other
      ∧ (((s.context f).state = .removalWait ∨ (s.context f).state = .refusedShown) → t.context f = Context.idle)
      ∧ t.service.flags = s.service.flags.raise .fault ∧ t.service.state = s.service.state
      ∧ (∃ r, t.service.faultSlot = some r ∧ r.kind = .readerFault f ∧ r.time = s.now
          ∧ r.stamp = (if s.service.clock.isSet then some (s.service.clock.day, s.service.clock.minute) else none)
          ∧ r.snapshot.street.1 = s.contexts.street.state ∧ r.snapshot.paid.1 = s.contexts.paid.state
          ∧ (r.recoverable = false ↔ s.contexts.street.state = .settling ∨ s.contexts.street.state = .confirming
              ∨ s.contexts.paid.state = .settling ∨ s.contexts.paid.state = .confirming))
      ∧ t.journal = s.journal ∧ t.aisle = s.aisle ∧ t.sightings = s.sightings ∧ t.tears = s.tears ∧ t.ring = s.ring)

/-- A face's polls: how they start, how they end unanswered, and the third dead one (R2, R4, R7, R8, R49, R177). -/
def Obligations.PollsRunAndEndUnanswered : Prop :=
  Claims.SettlingAndPollIntervalStartPolls ∧ Claims.WakeTimeoutsEndAPollUnanswered ∧ Claims.ThirdDeadPollIsAReaderFault

/-- A front-end response sets the miss count to 0. In POLLING an answered poll hands card present to the context, which asks for NAME
while the face is SERVING; a collision, or a garbled answer, shows TWO_CARDS in WATCHING with the refuse tone and no context. In
WATCHING both end the poll with a card still there. A silence notice ends nothing (R4 to R8, R24). The model's choice: a garbled answer
is a collision (log entry 27), and a collision in POLLING leaves the poll interval running (log entry 23). -/
def Obligations.FrontEndResponsesEndPolls : Prop :=
  ∀ (s : State) (f : Face), s.power = .running →
    let u := s.face f
    let faced := fun (v : FaceUnit) => ({ s with faces := s.faces.set f v } : State)
    let heard := fun (p : Poll) => { p with responded := true }
    (∀ p, u.poll = some p → u.state = .polling →
      exec (.presenceAnswer f) s = .next
        { s with
          faces := s.faces.set f
            { u with state := .serving, poll := none, pollStart := none, missCount := 0, offPending := false
                     exchange := some { command := .name, sentAt := s.now, resent := false } }
          contexts := s.contexts.set f { Context.idle with state := .naming } })
    ∧ (∀ p, u.poll = some p → u.state = .polling → ∀ c ∈ [Instr.collisionReport f, .garbledReply f],
      exec c s = .next
        ((faced { u with state := .watching, poll := none, missCount := 0, unanswered := 0, lastOutcome := .twoCards }).askTone
          f .refuse))
    ∧ (∀ p, u.poll = some p → u.state = .watching →
      ∀ c ∈ [Instr.presenceAnswer f, .collisionReport f, .garbledReply f],
      exec c s = .next (faced { u with poll := none, missCount := 0, unanswered := 0 }))
    ∧ (u.state ≠ .off → u.state ≠ .disabled →
      exec (.silenceNotice f) s = .next (faced { u with missCount := 0, poll := u.poll.map heard }))
    ∧ (u.poll = none → u.state ≠ .off → u.state ≠ .disabled →
      ∀ c ∈ [Instr.presenceAnswer f, .collisionReport f, .garbledReply f],
      exec c s = .next (faced { u with missCount := 0, poll := none }))

/-- A short tone asked for plays from its start, replacing one that plays, unless the alarm tone sounds; the start of a watch alarm and of
a passage alarm cuts short tones off; each sounder plays the alarm tone exactly while an alarm runs, else the accept tone, or the refuse
tone with its silence from 120 to 240 ms, or nothing. The lamp shows the first line of R164's table that applies. The leaf drive closes in CLOSED and CLOSING,
opens in OPENING, OPEN and FREE and is off in JAMMED; a field is on but in OFF and DISABLED (R1, R157, R158, R163 to R165). -/
def Obligations.LampsAndTones : Prop :=
  (∀ (s : State) (f : Face) (tone : ShortTone),
    s.askTone f tone = if s.aisle.passageAlarm = .silent ∧ s.aisle.watchAlarm = none then
      { s with aisle := { s.aisle with tones := s.aisle.tones.set f (some (tone, s.now)) } } else s)
  ∧ (∀ s : State, s.startWatchAlarm = { s with
      aisle := { s.aisle with watchAlarm := some s.now, tones := { street := none, paid := none } } })
  ∧ (∀ (s : State) (r : Run) (o : PassageOutcome), (s.passageAlarm r o).aisle.passageAlarm = .runInProgress
      ∧ (s.passageAlarm r o).aisle.tones = { street := none, paid := none })
  ∧ (∀ (s : State) (f : Face), s.power = .running →
    let alarmed := s.aisle.passageAlarm ≠ .silent ∨ s.aisle.watchAlarm ≠ none
    (s.sound f = .alarm ↔ alarmed)
    ∧ (¬ alarmed → s.aisle.tones.get f = none → s.sound f = .silent)
    ∧ (¬ alarmed → ∀ t, s.aisle.tones.get f = some (.accept, t) → s.sound f = .accept)
    ∧ (¬ alarmed → ∀ t, s.aisle.tones.get f = some (.refuse, t) →
        s.sound f = if 120 ≤ (s.now - t).toNat ∧ (s.now - t).toNat < 240 then .silent else .refuse))
  ∧ (∀ (s : State) (f : Face), s.power = .running →
    let dark := (s.face f).state = .off ∨ (s.face f).state = .disabled
    (s.service.state = .emergency ∨ s.service.state = .lockdown → s.lamp f = .free)
    ∧ (s.service.state = .starting → s.lamp f = .off)
    ∧ (s.service.state = .closed → dark → s.lamp f = .off)
    ∧ (s.service.state = .inService ∨ (s.service.state = .closed ∧ ¬ dark) →
      (s.aisle.watchAlarm ≠ none → s.lamp f = .attend)
      ∧ (s.aisle.watchAlarm = none → (s.face f).state = .disabled → s.lamp f = .stop)
      ∧ (s.aisle.watchAlarm = none → (s.face f).state ≠ .disabled → s.lamp f = (s.context f).indication.lamp)))
  ∧ (∀ s : State, s.power = .running → s.leafDrive = match s.aisle.leaf with
    | .closed | .closing => .close
    | .opening | .opened | .free => .opening
    | .jammed => .off)
  ∧ (∀ (s : State) (f : Face), s.power = .running →
    (s.fieldOn f = true ↔ (s.face f).state ≠ .off ∧ (s.face f).state ≠ .disabled))

/-! ### The tap transaction -/

/-- A face's exchange has ended and its front end has responded: what a card reply that is expected finds. -/
def Claims.heard (s : State) (f : Face) : State :=
  { s with faces := s.faces.set f { s.face f with
      missCount := 0, poll := (s.face f).poll.map (fun p => { p with responded := true }), exchange := none } }

/-- The refused end of a failure: EVIDENCE on the block path, the reason given off it (R46). -/
def Claims.failed (s : State) (f : Face) (r : Reason) : State :=
  s.endRefused f (if (s.context f).blockPath then .evidence else r)

/-- A card reply that is not of the kind the open exchange expects, or that arrives with none open, is discarded: the miss count of a
face whose field is on returns to 0, its poll goes on, and nothing else changes (R8, R10). That on a face whose field is off it does
nothing at all is the model's choice (log entry 25). -/
def Claims.UnexpectedRepliesAreDiscarded : Prop :=
  ∀ (s : State) (f : Face), s.power = .running →
    let u := s.face f
    let discarded := fun (c : Instr) => exec c s = .next
      (if u.state = .off ∨ u.state = .disabled then s
        else { s with
          faces := s.faces.set f { u with missCount := 0, poll := u.poll.map (fun p => { p with responded := true }) } })
    let awaits := fun (p : CardCommand → Prop) => ∃ e, u.exchange = some e ∧ p e.command
    (¬ awaits (· = .name) → ∀ n k g st, discarded (.nameAnswer f n k g st))
    ∧ (¬ awaits (· = .fetch) → ∀ image, discarded (.cardImage f image))
    ∧ (¬ awaits (fun c => ∃ v, c = .prove v) → ∀ p, discarded (.proofAnswer f p))
    ∧ (¬ awaits (fun c => ∃ i n, c = .stage i n) → discarded (.ready f) ∧ discarded (.stale f))
    ∧ (¬ awaits (· = .settle) → ∀ n, discarded (.settled f n))

/-- The reply timeout of an exchange, after 25 ms: NAME, FETCH and STAGE are sent once more with the same contents; a second timeout,
or the only one of PROVE, is card lost; SETTLE's is settle timeout, which asks for the confirming FETCH. Card lost in NAMING returns the
context to IDLE with no record; at FETCH or PROVE it ABANDONs the transaction; in STAGING it is WRITE_FAILED; in CONFIRMING the write is
torn (R11, R24, R30, R31, R38, R41). -/
def Claims.ReplyTimeoutsByCommand : Prop :=
  ∀ (s : State) (f : Face) (e : Exchange), s.power = .running → (s.face f).exchange = some e →
    25 ≤ (s.now - e.sentAt).toNat →
    let u := s.face f
    let c := s.context f
    let asking := fun (x : Exchange) => ({ s with faces := s.faces.set f { u with exchange := some x } } : State)
    let closed : State := { s with faces := s.faces.set f { u with exchange := none } }
    let takes := fun (t : State) => exec (.commandTimeout f) s = .next t
    let lost := e.resent = true ∨ ∃ v, e.command = .prove v
    (e.resent = false → (e.command = .wake ∨ e.command = .name ∨ e.command = .fetch ∨ ∃ i n, e.command = .stage i n) →
      takes (asking { e with sentAt := s.now, resent := true }))
    ∧ (e.command = .settle → takes { (asking { command := .fetch, sentAt := s.now, resent := false }) with
        contexts := s.contexts.set f { c with state := .confirming } })
    ∧ (e.command ≠ .settle → lost → c.state = .naming → u.state = .serving →
        takes { s with
          contexts := s.contexts.set f Context.idle
          faces := s.faces.set f (Claims.faceAfter u s.now true) })
    ∧ (e.command ≠ .settle → lost → (c.state = .reading ∨ c.state = .proving) → c.blockPath = false → takes (closed.endAbandoned f))
    ∧ (e.command ≠ .settle → lost → (c.state = .reading ∨ c.state = .proving) → c.blockPath = true →
        takes (closed.endRefused f .evidence))
    ∧ (e.command ≠ .settle → lost → c.state = .staging → takes (Claims.failed closed f .writeFailed))
    ∧ (e.command ≠ .settle → lost → c.state = .confirming → takes (closed.tornWrite f))

/-- Card replies that nothing expects, and exchanges that draw none (R8, R10, R11, R38, R41). -/
def Obligations.CardRepliesAreExpectedOrTimeOut : Prop :=
  Claims.UnexpectedRepliesAreDiscarded ∧ Claims.ReplyTimeoutsByCommand

/-- The LATE_ALERT records a context's late finding brings after its transaction record: one with the finding and the record's sequence,
when more slots are then free than the obligations `owed`, else none (R125, R189). -/
def Claims.lateAlerts (s : State) (f : Face) (owed : Nat) : List Record :=
  match (s.context f).late with
  | some k =>
    if owed < 1024 - (s.journal.records.length + 1) then
      [{ sequence := if s.journal.next = 4294967295 then 1 else s.journal.next + 1, kind := .lateAlert, stamp := s.stamp, face := f
         fields := { RecordFields.blank with
           number := some (s.context f).number, evidence := some k, reference := some s.journal.next } }]
    else []
  | none => []

/-- The attention flags after `n` records of a transaction: JOURNAL when one of them took the free slots below a threshold, CLONE for a
late finding (R125, R192). -/
def Claims.flagsAfter (s : State) (f : Face) (n : Nat) : FlagSet :=
  { s.service.flags with
    journal := s.service.flags.journal || (List.range n).any fun i => [256, 192, 128, 64].contains (s.freeSlots - i)
    clone := s.service.flags.clone || (s.context f).late.isSome }

/-- The watch status after a transaction record on a face: a pending sequence of that face's status is filled (R139, log entry 24). -/
def Claims.statusAfter (s : State) (f : Face) : Option WatchStatus :=
  s.watch.status.map fun x => if x.face = f ∧ x.sequence = none then { x with sequence := some s.journal.next } else x

/-- The aisle after a context's RESERVED place has been given up: its entry leaves its queue, and in a bidirectional aisle the lock is
released when both queues are then empty and the aisle is clear; with no place held nothing happens (R44, R152, R156). -/
def Claims.placeGivenUp (s : State) (f : Face) : Aisle :=
  let a := s.aisle
  let q := a.queues.set f.direction
    ((a.queues.get f.direction).eraseP (fun e => decide (e.face = f ∧ e.state = .reserved)))
  if (s.context f).reservation = .held then
    { a with
      queues := q
      lock := if a.mode = .bidirectional ∧ q.entry = [] ∧ q.exit = [] ∧ a.clear = true then .unlocked else a.lock }
  else a

/-- The hotlist after a block path has ended otherwise than in BLOCKED_CARD: the own-block mark of its number is cleared, unless the other
face's context is on the block path for that number at that moment, its record not yet written (R121; log entries 38 and 50). -/
def Claims.markEnded (s : State) (f : Face) : Hotlist :=
  let c := s.context f
  let o := s.context f.other
  let path := [CtxState.admitted, .reading, .proving, .holding, .deciding, .staging, .settling, .confirming]
  if c.blockPath = true ∧ ¬ (o.blockPath = true ∧ o.state ∈ path ∧ o.number = c.number) then
    { s.hotlist with entries := s.hotlist.entries.map fun e =>
        if e.number = c.number ∧ e.origin = .localAdd then { e with ownBlock := false } else e }
  else s.hotlist

/-- The short tones after one was asked for on a face: nothing changes while an alarm sounds (R165). -/
def Claims.tonesAfter (s : State) (f : Face) (tone : ShortTone) : PerFace (Option (ShortTone × Word)) :=
  if s.aisle.passageAlarm = .silent ∧ s.aisle.watchAlarm = none then s.aisle.tones.set f (some (tone, s.now)) else s.aisle.tones

/-- The part after a transaction of a SERVING face has ended REFUSED or ABANDONED with outcome `o` and the fields `x`: every block is as
it was but for what is named here. -/
def Claims.ended (s : State) (f : Face) (o : TxOutcome) (x : RecordFields) (rest : Context) (idle : Bool) : State :=
  let c := s.context f
  let aisle := Claims.placeGivenUp s f
  let late := Claims.lateAlerts s f
    ({ s with aisle := aisle, contexts := s.contexts.set f Context.idle } : State).obligations
  { s with
    aisle := { aisle with tones := Claims.tonesAfter s f .refuse }
    sightings := (s.releaseOwnHold f).sightings
    ring := if c.holdSent then Claims.joined s.ring (.release s.gate 0 c.number (.dropped 0)) else s.ring
    hotlist := Claims.markEnded s f
    journal :=
      { records := s.journal.records
          ++ { sequence := s.journal.next, kind := .transaction o, stamp := s.stamp, face := f, fields := x } :: late
        next := Claims.nextAfter (1 + late.length) s.journal.next }
    watch := { s.watch with status := Claims.statusAfter s f }
    service := { s.service with flags := Claims.flagsAfter s f (1 + late.length) }
    contexts := s.contexts.set f (Claims.contextAfter (s.face f) rest)
    faces := s.faces.set f (Claims.faceAfter (s.face f) s.now idle) }

/-- An admitted transaction that ends REFUSED or ABANDONED writes one record, with the fields R50 gives it, and the LATE_ALERT of a late
finding; its reserved place (and the lock), its own hold and an own-block mark go, a HOLD it sent is followed by RELEASE DROPPED, and the
refuse tone is asked for. REFUSED shows ATTEND when the record carries evidence or the reason is WATCH_DETAIN, else STOP, until the card
is removed; ABANDONED enters IDLE and the face polls again; a pending field-off request turns the field off and frees the context. Nothing
else of the part changes (R3, R44, R50, R121, R125, R156). The model's choice: ABANDONED carries no flagged evidence (log entry 18),
a pending watch sequence is filled by the next record of its face (log entry 24), a block path that has its record is over (log entry 38),
and a mark that an earlier BLOCKED_CARD left is cleared too (log entry 50). -/
def Obligations.RefusedAndAbandonedLeaveOneRecord : Prop :=
  ∀ (s : State) (f : Face) (r : Reason),
    let c := s.context f
    (s.face f).state = .serving →
    let evidence := match c.refusing with
      | some k => some k
      | none => c.flagged.head?
    let fields : RecordFields :=
      { RecordFields.blank with
        number := some c.number, cls := some c.cls, watchUnits := c.watchUnits, bypassed := c.bypassed }
    s.endRefused f r = Claims.ended s f .refused { fields with evidence := evidence, reason := some r }
      { c with
        state := .refusedShown, indication := if evidence ≠ none ∨ r = .watchDetain then .attend else .stop
        ownHold := false, holdsEntry := false
        reservation := if c.reservation = .held then .noPlace else c.reservation } false
    ∧ s.endAbandoned f = Claims.ended s f .abandoned fields Context.idle true

/-- A name answer taken in NAMING that passes every check is admitted: the context holds a RESERVED place at the tail of its
direction's queue, the lock is taken if it was NONE, the key of its generation's ACTIVE slot is copied, and FETCH is asked for
(R24 to R27, R29, R18). -/
def Claims.NameAnswerAdmitsAndFetches : Prop :=
  ∀ (s : State) (f : Face) (e : Exchange) (n : CardNumber) (cls g : Byte) (slot : KeySlot),
    let u := s.face f
    let c := s.context f
    let d := f.direction
    let own : Lock := match f with
      | .street => .entry
      | .paid => .exit
    s.power = .running → u.exchange = some e → e.command = .name → u.state = .serving → c.state = .naming →
    s.service.state = .inService → s.service.clock.isSet = true →
    (s.aisle.mode = .entryOnly → f = .street) → (s.aisle.mode = .exitOnly → f = .paid) →
    s.obligations + 3 ≤ s.freeSlots →
    s.aisle.leaf ≠ .jammed → (s.aisle.mode = .bidirectional → s.aisle.lock = .unlocked ∨ s.aisle.lock = own) →
    (s.aisle.queues.get d).length < 3 →
    s.check.keys.toList[g.toNat]? = some slot → slot.state = .active → s.hotlisted n = false →
    exec (.nameAnswer f n cls g .active) s = .next
      { s with
        faces := s.faces.set f
          { u with missCount := 0, poll := u.poll.map (fun p => { p with responded := true })
                   exchange := some { command := .fetch, sentAt := s.now, resent := false } }
        contexts := s.contexts.set f
          { c with state := .reading, name := some { number := n, cls := cls, generation := g, status := .active }
                   key := some slot.key, reservation := .held }
        aisle := { s.aisle with
          queues := s.aisle.queues.set d
            (s.aisle.queues.get d ++ [{ face := f, number := n, state := .reserved }])
          lock := if s.aisle.lock = .unlocked then own else s.aisle.lock } }

/-- The refusals of a name answer, the first failure deciding. Before admission (service CLOSED or EMERGENCY, clock unset, direction not
served, journal full) there is no record and no claim: STOP, the refuse tone, REFUSED_SHOWN. After it the reservation is refused
AISLE_FAULT, AISLE_BUSY or QUEUE_FULL, then the key UNKNOWN_KEY or KEY_RETIRED, each with its record (R25, R27, R29, R18, R45). -/
def Claims.NameAnswerRefusals : Prop :=
  ∀ (s : State) (f : Face) (e : Exchange) (n : CardNumber) (cls g : Byte) (st : CardStatus),
    let u := s.face f
    let c := s.context f
    s.power = .running → u.exchange = some e → e.command = .name → u.state = .serving → c.state = .naming →
    let turnedAway := s.service.state = .closed ∨ s.service.state = .emergency ∨ s.service.clock.isSet = false
      ∨ (s.aisle.mode = .exitOnly ∧ f = .street) ∨ (s.aisle.mode = .entryOnly ∧ f = .paid)
      ∨ s.freeSlots < s.obligations + 3
    let q := s.aisle.queues.get f.direction
    let busy := s.aisle.mode = .bidirectional ∧ s.aisle.lock ≠ .unlocked
      ∧ s.aisle.lock ≠ (match f with
        | .street => .entry
        | .paid => .exit)
    let named := { c with name := some { number := n, cls := cls, generation := g, status := st } }
    let admitted : State :=
      { (Claims.heard s f) with contexts := s.contexts.set f { named with state := .admitted } }
    let takes := fun (t : State) => exec (.nameAnswer f n cls g st) s = .next t
    (turnedAway → takes
      { s with
        contexts := s.contexts.set f (Claims.contextAfter u { named with state := .refusedShown, indication := .stop })
        aisle := { s.aisle with tones := Claims.tonesAfter s f .refuse }
        faces := s.faces.set f (Claims.faceAfter { u with missCount := 0 } s.now false) })
    ∧ (¬ turnedAway → s.aisle.leaf = .jammed → takes (admitted.endRefused f .aisleFault))
    ∧ (¬ turnedAway → s.aisle.leaf ≠ .jammed → busy → takes (admitted.endRefused f .aisleBusy))
    ∧ (¬ turnedAway → s.aisle.leaf ≠ .jammed → ¬ busy → 3 ≤ q.length → takes (admitted.endRefused f .queueFull))
    ∧ (¬ turnedAway → s.aisle.leaf ≠ .jammed → ¬ busy → q.length < 3 →
        (∀ slot, s.check.keys.toList[g.toNat]? = some slot → slot.state = .empty) →
        takes ((admitted.reserve f).endRefused f .unknownKey))
    ∧ (¬ turnedAway → s.aisle.leaf ≠ .jammed → ¬ busy → q.length < 3 →
        ∀ slot, s.check.keys.toList[g.toNat]? = some slot → slot.state = .retired →
        takes ((admitted.reserve f).endRefused f .keyRetired))

/-- The name checks of an admitted card with its place reserved and its key copied: status BLOCKED is evidence BLOCKED, a number in the
hotlist evidence HOTLISTED, in this order, CLONE attention with each. Kinds whose policy is FLAG join the flagged evidence and FETCH is
asked for; the first whose policy is REFUSE ends the tap REFUSED with reason EVIDENCE; the first under REFUSE_AND_BLOCK makes the LOCAL
add with the own-block mark, sends the ALERT with the block flag, and goes on to FETCH on the block path if the number is then listed,
else ends the tap (R28, R29, R46, R113, R121). -/
def Claims.NameChecksFindEvidence : Prop :=
  ∀ (s : State) (f : Face) (e : Exchange) (n : CardNumber) (cls g : Byte) (st : CardStatus) (slot : KeySlot)
    (flagged : List EvidenceKind),
    let u := s.face f
    let c := s.context f
    let q := s.aisle.queues.get f.direction
    let own : Lock := match f with
      | .street => .entry
      | .paid => .exit
    s.power = .running → u.exchange = some e → e.command = .name → u.state = .serving → c.state = .naming →
    s.service.state = .inService → s.service.clock.isSet = true →
    (s.aisle.mode = .entryOnly → f = .street) → (s.aisle.mode = .exitOnly → f = .paid) →
    s.obligations + 3 ≤ s.freeSlots →
    s.aisle.leaf ≠ .jammed → (s.aisle.mode = .bidirectional → s.aisle.lock = .unlocked ∨ s.aisle.lock = own) → q.length < 3 →
    s.check.keys.toList[g.toNat]? = some slot → slot.state = .active → (∀ k ∈ flagged, s.check.policies.get k = .flag) →
    let found := (if st = .blocked then [EvidenceKind.blocked] else []) ++ (if s.hotlisted n then [EvidenceKind.hotlisted] else [])
    let h : State := { (Claims.heard s f) with
      service := { s.service with flags := s.service.flags.raise .clone }
      aisle := { s.aisle with
        queues := s.aisle.queues.set f.direction (q ++ [{ face := f, number := n, state := .reserved }])
        lock := if s.aisle.lock = .unlocked then own else s.aisle.lock } }
    let d := { c with
      state := .admitted, name := some { number := n, cls := cls, generation := g, status := st }, key := some slot.key
      reservation := .held, flagged := c.flagged ++ flagged }
    let takes := fun (t : State) => exec (.nameAnswer f n cls g st) s = .next t
    let reads := fun (v : State) (x : Context) => ({ v with
      contexts := s.contexts.set f { x with state := .reading }
      faces := v.faces.set f { v.face f with exchange := some { command := .fetch, sentAt := s.now, resent := false } } } : State)
    (found = flagged → flagged ≠ [] → takes (reads h d))
    ∧ (∀ k rest, found = flagged ++ k :: rest → s.check.policies.get k = .refuse →
      takes (({ h with contexts := s.contexts.set f { d with refusing := some k } } : State).endRefused f .evidence))
    ∧ (∀ k rest, found = flagged ++ k :: rest → s.check.policies.get k = .refuseAndBlock →
      let v : State := { h with
        contexts := s.contexts.set f { d with refusing := some k }
        hotlist := s.hotlist.localAdd n true
        ring := Claims.joined s.ring (.alert s.gate 0 n k 1) }
      (v.hotlist.listed n = false → takes (v.endRefused f .evidence))
      ∧ (v.hotlist.listed n = true → takes (reads v { d with refusing := some k, blockPath := true })))

/-- The name answer: admission, reservation and name checks, the evidence they find, and each refusal on the way (R18, R24 to R29). -/
def Obligations.NameAnswersAreAdmittedOrRefused : Prop :=
  Claims.NameAnswerAdmitsAndFetches ∧ Claims.NameAnswerRefusals ∧ Claims.NameChecksFindEvidence

/-- The fields of an image that the check compares or holds to a range (R15 step 1). -/
def Claims.fieldsInRange (a : NameAnswer) (img : CardImage) : Prop :=
  img.number = a.number ∧ img.cls = a.cls ∧ img.generation = a.generation ∧ img.status = a.status ∧ img.cls.toNat ≤ 7
  ∧ (∀ e, img.entry = some e → e.station.toNat ≤ 1023 ∧ e.gate.toNat ≤ 63 ∧ e.minute.toNat ≤ 1439)
  ∧ (∀ j ∈ img.history, j.station.toNat ≤ 1023 ∧ j.minute.toNat ≤ 1439)
  ∧ (∀ p, img.pass = some p → p.zoneLow.toNat ≤ 31 ∧ p.zoneHigh.toNat ≤ 31)

/-- A card image in READING: a TORN entry of its card is dealt with first, as R53 and R54 say (TornEntriesAreResolvedAtTheRead), which may
end the tap; else, with no such entry nothing having happened, an image that R15 accepts sets the own hold and asks for PROVE with the next
value of the challenge sequence, and any other ends the tap with the first failure's reason, EVIDENCE on the block path. The image
check: 64 bytes whose codes and history count can be read, the fields of the name answer, every field in its range, the balance in its
range, and the counter below 65 535 (R15, R19, R30). -/
def Obligations.CardImageIsCheckedAndProved : Prop :=
  (∀ (s : State) (f : Face) (e : Exchange) (a : NameAnswer) (image : List Byte),
    let c := s.context f
    s.power = .running → (s.face f).state = .serving → (s.face f).exchange = some e → e.command = .fetch →
    c.state = .reading → c.name = some a → image.length = 64 →
    let h := Claims.heard s f
    let r := h.resolveAtRead f image
    let takes := fun (t : State) => exec (.cardImage f image) s = .next t
    ((∀ x ∈ s.tears, x.number = a.number → x.state = .pending) → r = (.continues, h))
    ∧ (r.1 = .ended → takes r.2)
    ∧ (r.1 = .continues → ∀ img, checkImage a image = .ok img →
      let held := ({ r.2 with contexts := s.contexts.set f { c with image := some img } } : State).setOwnHold f
      let v := s.check.challenge * 1664525 + 1013904223
      takes
        { held with
          check := { s.check with challenge := v }
          contexts := held.contexts.set f { held.context f with state := .proving, challenge := some v }
          faces := h.faces.set f { h.face f with
            exchange := some { command := .prove v, sentAt := s.now, resent := false } } })
    ∧ (r.1 = .continues → ∀ x, checkImage a image = .error x → takes (Claims.failed r.2 f x)))
  ∧ (∀ (a : NameAnswer) (image : List Byte),
    (CardImage.ofBytes image = none ↔ image.length ≠ 64 ∨ 1 < (byteAt image 10).toNat ∨ 1 < (byteAt image 25).toNat
      ∨ (byteAt image 25 = 1 ∧ 1 < (byteAt image 33).toNat) ∨ 3 < (byteAt image 34).toNat ∨ 1 < (byteAt image 59).toNat)
    ∧ (∀ img, checkImage a image = .ok img ↔ CardImage.ofBytes image = some img ∧ Claims.fieldsInRange a img
      ∧ (-99999 ≤ img.balance.toInt ∧ img.balance.toInt ≤ 999999) ∧ img.counter ≠ 65535)
    ∧ (checkImage a image = .error .counterExhausted ↔ ∃ img, CardImage.ofBytes image = some img
      ∧ Claims.fieldsInRange a img ∧ (-99999 ≤ img.balance.toInt ∧ img.balance.toInt ≤ 999999) ∧ img.counter = 65535)
    ∧ (∀ r, checkImage a image = .error r → r = .cardInvalid ∨ r = .counterExhausted))

/-- The sightings table after a new entry for a number that has none: it joins a table of fewer than 256; a full one gives up its first
entry without a hold; and with every entry held nothing joins (R83, R84). -/
def Claims.joins (l : List SightingEntry) (x : SightingEntry) (after : List SightingEntry) : Prop :=
  (l.length < 256 → after = l ++ [x])
  ∧ (256 ≤ l.length → ∀ before v later, l = before ++ v :: later → v.hold = .noHold → (∀ y ∈ before, y.hold ≠ .noHold) →
      after = before ++ later ++ [x])
  ∧ (256 ≤ l.length → (∀ y ∈ l, y.hold ≠ .noHold) → after = l)

/-- The sightings table after a write was recorded for a number, whatever stood there: its entry takes the sighting part and the most
recent place, else a new entry joins (R82 to R84, R90). -/
def Claims.recorded (l : List SightingEntry) (n : CardNumber) (x : Sighting) (after : List SightingEntry) : Prop :=
  (∀ e ∈ l, e.number = n → after = (l.filter fun y => decide (y.number ≠ n)) ++ [{ e with sighting := some x }])
  ∧ ((∀ e ∈ l, e.number ≠ n) →
    Claims.joins l { number := n, sighting := some x, hold := .noHold, displaced := none, contestNote := none } after)

/-- The aisle after a context's RESERVED place became a grant: its direction's queue as given, one grant more, and a leaf that was CLOSED
or CLOSING opening, OPEN at once with the open limit asserted (R151, R157, R158, R161). -/
def Claims.grantedAisle (s : State) (f : Face) (queue : List QueueEntry) : Aisle :=
  let a := s.aisle
  let k := a.counters.get f.direction
  let shut := a.leaf = .closed ∨ a.leaf = .closing
  { a with
    queues := a.queues.set f.direction queue
    counters := a.counters.set f.direction { k with granted := k.granted + 1 }
    leaf := if shut then (if a.openLimit.accepted then .opened else .opening) else a.leaf
    travelStart := if shut then (if a.openLimit.accepted then none else some s.now) else a.travelStart
    closeStart := none }

/-- A TORN entry met at its card's read. Written (ENTRY or EXIT, the fetched counter the new one) and met at its own face off the block
path: the transaction ends RECOVERED without touching the card, its record referencing the torn one; a reservation held becomes a grant
with that record's sequence and the grant lifetime from now, and the face shows GO with the accept tone, or goes off for a pending
field-off request. Met at the other face, or on the block path: a RECOVERED record for the entry with nothing granted, and the tap goes
on. Either way the write is recorded as a LOCAL sighting and RELEASE COMMITTED is sent with its fields. The old counter: a record TEAR
VOID. Any other: TEAR UNRESOLVED. The entry goes in every case, and nothing else changes (R3, R53, R54, R90, R151). How the card image
brings this about is said in CardImageIsCheckedAndProved. The model's choice: the record's class is the tear entry's (log entry 46), away
from the entry's face it carries no evidence and no marks (log entry 47), and a pending watch sequence is filled by the next record of its
face (log entry 24). -/
def Obligations.TornEntriesAreResolvedAtTheRead : Prop :=
  ∀ (s : State) (f : Face) (image : List Byte) (e : TearEntry) (w q : Word),
    (s.tears.map (·.number)).Nodup → (s.sightings.map (·.number)).Nodup →
    e ∈ s.tears → e.state = .torn w q → e.number = (s.context f).number →
    let c := s.context f
    let r := s.resolveAtRead f image
    let counter := imageCounter image
    let written := e.kind ≠ .block ∧ counter = e.newCounter ∧ counter ≠ e.oldCounter
    let ownFace := e.face = f ∧ c.blockPath = false
    let record := fun (k : RecordKind) (x : RecordFields) =>
      ({ sequence := s.journal.next, kind := k, stamp := s.stamp, face := e.face, fields := x } : Record)
    let resolved := fun (x : Record) => ({ s with
      tears := s.tears.filter fun y => decide (y.number ≠ e.number)
      journal := { records := s.journal.records ++ [x], next := Claims.nextAfter 1 s.journal.next }
      service := { s.service with flags := { s.service.flags with
        journal := s.service.flags.journal || [256, 192, 128, 64].contains s.freeSlots } } } : State)
    let x : Sighting :=
      { counter := counter, chain := imageChain image, station := s.station, gate := some s.gate, day := s.today, minute := s.minuteNow
        direction := if e.kind = .entry then .entry else .exit, source := .localWrite }
    let recovers := fun (base : RecordFields) => record (.transaction .recovered) { base with
      number := some e.number, cls := some e.cls, fare := some e.fare, balanceAfter := some e.balanceAfter
      counterAfter := some e.newCounter, reference := some q }
    let ring := Claims.joined s.ring (.release s.gate 0 e.number
      (.committed counter (imageChain image) s.station s.today s.minuteNow (if e.kind = .entry then 0 else 1)))
    (¬ written → r = (.continues, resolved (record (.tear (if counter = e.oldCounter then .void else .unresolved))
      { RecordFields.blank with number := some e.number, counterAfter := some counter, reference := some q })))
    ∧ (written → ∃ l, Claims.recorded s.sightings e.number x l
      ∧ (¬ ownFace → r = (.continues, { resolved (recovers RecordFields.blank) with sightings := l, ring := ring }))
      ∧ (ownFace → (s.face f).state = .serving →
        let u := s.face f
        let late := Claims.lateAlerts s f ({ s with contexts := s.contexts.set f Context.idle } : State).obligations
        let ends := fun (a : Aisle) => r = (.ended, { s with
          tears := s.tears.filter fun y => decide (y.number ≠ e.number)
          journal :=
            { records := s.journal.records ++ recovers { RecordFields.blank with
                watchUnits := c.watchUnits, bypassed := c.bypassed
                evidence := match c.refusing with
                  | some k => some k
                  | none => c.flagged.head? } :: late
              next := Claims.nextAfter (1 + late.length) s.journal.next }
          service := { s.service with flags := Claims.flagsAfter s f (1 + late.length) }
          watch := { s.watch with status := Claims.statusAfter s f }
          sightings := l
          ring := ring
          aisle := { a with tones := Claims.tonesAfter s f .accept }
          contexts := s.contexts.set f (Claims.contextAfter u { c with state := .removalWait, indication := .go })
          faces := s.faces.set f (Claims.faceAfter u s.now false) })
        (c.reservation ≠ .held → ends s.aisle)
        ∧ (c.reservation = .held → ∀ before after p, s.aisle.queues.get f.direction = before ++ p :: after →
          p.face = f → p.state = .reserved → (∀ y ∈ before, y.face ≠ f ∨ y.state ≠ .reserved) →
          ends (Claims.grantedAisle s f (before
            ++ { p with state := .granted s.journal.next s.now (s.setup.grantLifetime * 1000) false } :: after)))))

/-- A running part's face is SERVING with an exchange open whose command is `p`, and its context is in the state `st`. -/
def Claims.waits (s : State) (f : Face) (p : CardCommand → Prop) (st : CtxState) : Prop :=
  s.power = .running ∧ (s.face f).state = .serving ∧ (∃ e, (s.face f).exchange = some e ∧ p e.command)
    ∧ (s.context f).state = st

/-- The image of a write made here: counter plus 1, and the chain word of R21 over the new balance. -/
def Claims.rewritten (s : State) (img : CardImage) (balance : Word) : CardImage :=
  { img with
    counter := img.counter + 1
    chain := img.chain * 69069 + (img.counter + 1).zeroExtend 32 * 4099 + (balance + 1000000)
      + s.station.zeroExtend 32 * 64 + s.gate.zeroExtend 32 }

/-- STAGE goes out with an image and its counter, and the context is in STAGING. -/
def Claims.staged (s : State) (f : Face) (c : Context) (w : CardImage) : State :=
  { s with
    contexts := s.contexts.set f { c with state := .staging, staged := some w }
    faces := s.faces.set f { s.face f with
      exchange := some { command := .stage w.toBytes w.counter, sentAt := s.now, resent := false } } }

/-- A context holding its HOLD: the message at the tail of the ring-out queue, the ring timeout running (R33). -/
def Claims.holding (s : State) (f : Face) (c : Context) (counter : Half) : State :=
  { s with
    ring := { s.ring with
      queue := s.ring.queue ++ [.hold s.gate 0 c.number counter { mark := 0, gate := 0 }]
      holdOrder := s.ring.holdOrder.filter (fun g => decide (g ≠ f)) ++ [f] }
    contexts := s.contexts.set f
      { c with state := .holding, holdSent := true, ringTimer := some (s.now, s.setup.ringTimeout) } }

/-- The proof answer is compared with h4, over the copied key, the card number's two words, the challenge and the fetched counter. A
match with no evidence asks for a HOLD, or, with the ring ISOLATED or its queue full, decides at once; on the block path it stages the
block image. A mismatch is FORGED: CLONE attention and REFUSED with reason EVIDENCE (R20, R28, R31, R33). -/
def Obligations.ProofAnswerIsCompared : Prop :=
  ∀ (s : State) (f : Face) (a : NameAnswer) (img : CardImage) (k v proof : Word),
    let c := s.context f
    Claims.waits s f (· = .prove v) .proving → c.name = some a → c.image = some img → c.key = some k → c.challenge = some v →
    let mix := fun (h x : Word) => h * 31821 + x + k
    let h4 := mix (mix (mix (mix k (a.number.extractLsb' 32 32)) (a.number.extractLsb' 0 32)) v) (img.counter.zeroExtend 32)
    let h := Claims.heard s f
    let raised := { s.service with flags := s.service.flags.raise .clone }
    let takes := fun (t : State) => exec (.proofAnswer f proof) s = .next t
    (proof = h4 → c.blockPath = false → s.sightingFindings f img = [] → s.ring.state = .up → s.ring.queue.length < 32 →
      takes (Claims.holding h f c img.counter))
    ∧ (proof = h4 → c.blockPath = false → s.sightingFindings f img = [] → (s.ring.state = .isolated ∨ 32 ≤ s.ring.queue.length) →
      takes (({ h with contexts := s.contexts.set f { c with bypassed := true } } : State).deciding f))
    ∧ (proof = h4 → c.blockPath = true → s.service.state = .inService →
      takes (Claims.staged h f c { Claims.rewritten s img img.balance with status := .blocked }))
    ∧ (proof = h4 → c.blockPath = true → s.service.state = .closed → takes (h.endRefused f .evidence))
    ∧ (proof ≠ h4 → c.blockPath = false → s.check.policies.forged = .refuse →
      takes (({ h with service := raised, contexts := s.contexts.set f { c with refusing := some .forged } } : State).endRefused
        f .evidence))
    ∧ (proof ≠ h4 → c.blockPath = true → takes (({ h with service := raised } : State).endRefused f .evidence))

/-- The sighting checks of a context that holds its card's entry find REPLAY for a counter below the sighting's, DIVERGENT for an equal
counter with another chain word, CONCURRENT for an entry with a contest note, and IMPOSSIBLE for a greater counter seen at another
station fewer minutes ago than the journey takes, in that order; with no entry held they find nothing, which is the model's choice where
no entry could be made (R108 to R111; log entry 30). -/
def Claims.SightingTestsFindTheirKinds : Prop :=
  (∀ (s : State) (f : Face) (img : CardImage) (e : SightingEntry),
    (s.sightings.map (·.number)).Nodup → e ∈ s.sightings → e.number = (s.context f).number → (s.context f).holdsEntry = true →
    let found := s.sightingFindings f img
    let minutes := fun (x : Sighting) =>
      ((s.today.toNat : Int) - x.day.toNat) * 1440 + ((s.minuteNow.toNat : Int) - x.minute.toNat)
    (.replay ∈ found ↔ ∃ x, e.sighting = some x ∧ img.counter.toNat < x.counter.toNat)
    ∧ (.divergent ∈ found ↔ ∃ x, e.sighting = some x ∧ img.counter = x.counter ∧ img.chain ≠ x.chain)
    ∧ (.concurrent ∈ found ↔ e.contestNote ≠ none)
    ∧ (.impossible ∈ found ↔ ∃ x, e.sighting = some x ∧ x.counter.toNat < img.counter.toNat ∧ x.station ≠ s.station
        ∧ s.service.clock.isSet = true ∧ 0 ≤ minutes x ∧ minutes x < s.fare.minimumTravel x.station s.station)
    ∧ found.Sublist [.replay, .divergent, .concurrent, .impossible])
  ∧ (∀ (s : State) (f : Face) (img : CardImage),
    ((s.context f).holdsEntry = false ∨ ∀ e ∈ s.sightings, e.number ≠ (s.context f).number) → s.sightingFindings f img = [])

/-- What the sighting checks find is taken one kind after the other, CLONE attention with each: kinds whose policy is FLAG join the
flagged evidence and the tap goes on to its HOLD, or with the ring ISOLATED or its queue full decides at once, ring bypassed; the first whose policy is REFUSE ends it REFUSED with reason EVIDENCE (a CONCURRENT
originates an ALERT without the block flag first); the first under REFUSE_AND_BLOCK makes a LOCAL add with the own-block mark, sends an
ALERT with the block flag, and stages the block image (in CLOSED ends REFUSED with reason EVIDENCE) if the number is then listed, else ends
the tap (R28, R33, R37, R46, R108, R111, R121). -/
def Claims.SightingFindingsFollowTheirPolicies : Prop :=
  ∀ (s : State) (f : Face) (img : CardImage) (v proof : Word) (flagged : List EvidenceKind),
    let c := s.context f
    Claims.waits s f (· = .prove v) .proving → c.name ≠ none → c.image = some img → proof = c.expectedProof → c.blockPath = false →
    (∀ k ∈ flagged, s.check.policies.get k = .flag) →
    let raised := { s.service with flags := s.service.flags.raise .clone }
    let h : State := { (Claims.heard s f) with service := raised }
    let d := { c with flagged := c.flagged ++ flagged }
    let takes := fun (t : State) => exec (.proofAnswer f proof) s = .next t
    let sends := fun (m : RingMessage) => if s.ring.queue.length < 32 then { s.ring with queue := s.ring.queue ++ [m] } else s.ring
    (s.sightingFindings f img = flagged → flagged ≠ [] → s.ring.state = .up → s.ring.queue.length < 32 →
      takes (Claims.holding h f d img.counter))
    ∧ (s.sightingFindings f img = flagged → flagged ≠ [] → (s.ring.state = .isolated ∨ 32 ≤ s.ring.queue.length) →
      takes (({ h with contexts := s.contexts.set f { d with bypassed := true } } : State).deciding f))
    ∧ (∀ k rest, s.sightingFindings f img = flagged ++ k :: rest → s.check.policies.get k = .refuse →
      takes (({ h with
          contexts := s.contexts.set f { d with refusing := some k }
          ring := if k = .concurrent then sends (.alert s.gate 0 c.number .concurrent 0) else s.ring } : State).endRefused
        f .evidence))
    ∧ (∀ k rest, s.sightingFindings f img = flagged ++ k :: rest → s.check.policies.get k = .refuseAndBlock →
      let u : State := { h with
        contexts := s.contexts.set f { d with refusing := some k }
        hotlist := s.hotlist.localAdd c.number true
        ring := sends (.alert s.gate 0 c.number k 1) }
      (u.hotlist.listed c.number = false → takes (u.endRefused f .evidence))
      ∧ (u.hotlist.listed c.number = true → s.service.state = .inService →
        takes (Claims.staged u f { d with refusing := some k, blockPath := true }
          { Claims.rewritten s img img.balance with status := .blocked }))
      ∧ (u.hotlist.listed c.number = true → s.service.state = .closed →
        takes (({ u with contexts := s.contexts.set f { d with refusing := some k, blockPath := true } } : State).endRefused f
          .evidence)))

/-- The sighting checks: what they find, and what each policy makes of it (R28, R46, R108 to R111, R121). -/
def Obligations.SightingChecksFollowTheirPolicies : Prop :=
  Claims.SightingTestsFindTheirKinds ∧ Claims.SightingFindingsFollowTheirPolicies

/-- DECIDING, stopping at the first refusal: a contested mark or a note, unless CONCURRENT was flagged before, is evidence CONCURRENT, by
whose policy the tap is refused, turns to the block path without a charge or a watch, or goes on with the evidence flagged; an unset
clock is NO_TIME; the fare unit's refusal carries its reason; the watch unit compares the values of Table 16, and its fire under DETAIN is
WATCH_DETAIN. Else the image to be staged is built, with the new counter and chain word, the balance after, a day record where the fare
gives one, the entry record that the fare leaves, and a journey of an exit at the head of a history of at most 3, every other field as
fetched, and STAGE goes out in IN_SERVICE; in CLOSED the end is REFUSED with reason CLOSED,
EVIDENCE on the block path, a match having counted down or fired all the same (R16, R21, R28, R36, R37, R46, R74, R78, R121, R132, R135 to R137). That the contested mark and the notes
are cleared when DECIDING takes them is the model's choice (log entry 29). -/
def Obligations.DecidingStopsAtTheFirstRefusal : Prop :=
  ∀ (s : State) (f : Face) (img : CardImage),
    let c := s.context f
    c.image = some img → c.blockPath = false →
    let d := { c with state := .deciding, ringTimer := none, contested := false, notes := [] }
    let claimed := (c.contested = true ∨ c.notes ≠ []) ∧ .concurrent ∉ c.flagged
    let ends := fun (x : Context) (r : Reason) =>
      s.deciding f = ({ s with contexts := s.contexts.set f x } : State).endRefused f r
    let asked := fareRequest s.fare
      { today := s.today, now := s.minuteNow, peakDay := s.service.clock.peakDay, station := s.station, gate := s.gate } f img
    let values := fun (x : FareResult) =>
      ({ face := f, number := img.number, cls := img.cls, counter := img.counter.toNat + 1, balanceAfter := x.balanceAfter.toInt
         fare := x.fare.toNat, entryStation := x.entryStation } : WatchValues)
    let matched := fun (x : FareResult) => matchedUnits s.watch.units.toList (values x)
    let image := fun (x : FareResult) => { Claims.rewritten s img x.balanceAfter with
      balance := x.balanceAfter
      spendDay := match x.dayRecord with
        | some d => d.1
        | none => img.spendDay
      daySpend := match x.dayRecord with
        | some d => d.2
        | none => img.daySpend
      entry := x.entry
      history := match x.journey with
        | some j => (j :: img.history).take 3
        | none => img.history }
    (∀ x, (values x).value .cardNumber = some (img.number.toNat : Int) ∧ (values x).value .cardClass = some (img.cls.toNat : Int)
      ∧ (values x).value .counter = some (img.counter.toNat + 1 : Int) ∧ (values x).value .balanceAfter = some x.balanceAfter.toInt
      ∧ (values x).value .fare = some (x.fare.toNat : Int)
      ∧ (values x).value .entryStation = match x.entryStation with
        | some n => some (n.toNat : Int)
        | none => none) ∧
    (claimed → s.check.policies.concurrent = .refuse →
      s.deciding f = ({ s with
        contexts := s.contexts.set f { d with refusing := some .concurrent }
        service := { s.service with flags := s.service.flags.raise .clone } } : State).endRefused f .evidence)
    ∧ (claimed → s.check.policies.concurrent = .flag →
      s.deciding f = ({ s with
        contexts := s.contexts.set f { c with contested := false, notes := [], flagged := c.flagged ++ [.concurrent] }
        service := { s.service with flags := s.service.flags.raise .clone } } : State).deciding f)
    ∧ (claimed → s.check.policies.concurrent = .refuseAndBlock →
      let b := { d with refusing := some .concurrent }
      let u : State := { s with
        contexts := s.contexts.set f b
        service := { s.service with flags := s.service.flags.raise .clone }
        hotlist := s.hotlist.localAdd c.number true
        ring := Claims.joined s.ring (.alert s.gate 0 c.number .concurrent 1) }
      let blocking : State := { u with contexts := s.contexts.set f { b with blockPath := true } }
      (u.hotlist.listed c.number = false → s.deciding f = u.endRefused f .evidence)
      ∧ (u.hotlist.listed c.number = true → s.service.state = .closed → s.deciding f = blocking.endRefused f .evidence)
      ∧ (u.hotlist.listed c.number = true → s.service.state = .inService → s.deciding f = Claims.staged u f
          { b with blockPath := true } { Claims.rewritten s img img.balance with status := .blocked }))
    ∧ (¬ claimed → s.service.clock.isSet = false → ends d .noTime)
    ∧ (¬ claimed → s.service.clock.isSet = true → ∀ r, asked = .error r → ends d r)
    ∧ (¬ claimed → s.service.clock.isSet = true → ∀ x, asked = .ok x → effectiveMatch s.watch (values x) = false →
        (s.service.state = .inService → s.deciding f = Claims.staged s f { d with fare := some x } (image x))
        ∧ (s.service.state = .closed → ends { d with fare := some x } .closed))
    ∧ (¬ claimed → s.service.clock.isSet = true → ∀ x, asked = .ok x → effectiveMatch s.watch (values x) = true →
        s.watch.countdown ≠ 0 →
        let counted : State := { s with watch := { s.watch with countdown := s.watch.countdown - 1 } }
        (s.service.state = .inService → s.deciding f = Claims.staged counted f { d with fare := some x } (image x))
        ∧ (s.service.state = .closed → s.deciding f = ({ counted with
            contexts := s.contexts.set f { d with fare := some x } } : State).endRefused f .closed))
    ∧ (¬ claimed → s.service.clock.isSet = true → ∀ x, asked = .ok x → effectiveMatch s.watch (values x) = true →
        s.watch.countdown = 0 →
        let e := { d with fare := some x, watchUnits := some (matched x) }
        let fired : State := { s with
          service := { s.service with flags := s.service.flags.raise .watch }
          watch := { s.watch with status := some (match s.watch.status with
            | none => { number := img.number, face := f, units := matched x, sequence := none, more := false }
            | some y => { y with more := true }) } }
        let stages := fun (u : State) =>
          (s.service.state = .inService → s.deciding f = Claims.staged u f e (image x))
          ∧ (s.service.state = .closed → s.deciding f = ({ u with contexts := s.contexts.set f e } : State).endRefused f .closed)
        (s.watch.action = .detain →
          s.deciding f = ({ fired with contexts := s.contexts.set f e } : State).endRefused f .watchDetain)
        ∧ (s.watch.action = .report → stages fired)
        ∧ (s.watch.action = .alarm → stages { fired with
            aisle := { s.aisle with watchAlarm := some s.now, tones := { street := none, paid := none } } }))

/-- READY: for a fare write, claims taken since DECIDING are evidence CONCURRENT, flagged or refused by policy without a block. Then the
tear table is asked for a PENDING entry: refused, evidence CONCURRENT, while one for the number is PENDING; else written, in the place of a TORN entry
of the number or, in a full table, of the oldest, either resolved with TEAR UNRESOLVED, the second with TEAR attention; and SETTLE goes
out: the commit. STALE ends the write as WRITE_FAILED (R38, R39, R51, R52). The model's choice: notes and contested mark are cleared when
READY takes them (log entry 29), and a refusal of the tear table raises CLONE attention off the block path and none on it, where the evidence that turned to the path
stands (log entry 19). -/
def Obligations.ReadyCommitsAndStaleFails : Prop :=
  ∀ (s : State) (f : Face) (img w : CardImage),
    let c := s.context f
    Claims.waits s f (fun x => ∃ i n, x = .stage i n) .staging → c.image = some img → c.staged = some w →
    let claimed := c.blockPath = false ∧ (c.contested = true ∨ c.notes ≠ []) ∧ .concurrent ∉ c.flagged
    let h := Claims.heard s f
    let raised := { s.service with flags := s.service.flags.raise .clone }
    let takes := fun (t : State) => exec (.ready f) s = .next t
    let entry : TearEntry :=
      { number := c.number, cls := c.cls, face := f
        kind := if c.blockPath then .block else if f = .street then .entry else .exit
        oldCounter := img.counter, newCounter := w.counter
        fare := if c.blockPath then 0 else (c.fare.map (·.fare)).getD 0, balanceAfter := w.balance
        written := if s.service.clock.isSet then some (s.service.clock.day, s.service.clock.minute) else none
        state := .pending }
    let commits := fun (u : State) (d : Context) => ({ u with
      tears := u.tears ++ [entry]
      contexts := s.contexts.set f { d with state := .settling }
      faces := h.faces.set f { h.face f with exchange := some { command := .settle, sentAt := s.now, resent := false } } } : State)
    let own := fun (x : TearEntry) => x.number = c.number
    let resolved := fun (x : TearEntry) (q : Word) =>
      ({ sequence := s.journal.next, kind := .tear .unresolved, stamp := s.stamp, face := x.face
         fields := { RecordFields.blank with number := some x.number, reference := some q } } : Record)
    let gone := fun (u : State) (x : TearEntry) (q : Word) (attention : Bool) => ({ u with
      tears := s.tears.filter fun y => decide (y.number ≠ x.number)
      journal := { records := s.journal.records ++ [resolved x q], next := Claims.nextAfter 1 s.journal.next }
      service := { u.service with flags := { u.service.flags with
        tear := u.service.flags.tear || attention
        journal := u.service.flags.journal || [256, 192, 128, 64].contains s.freeSlots } } } : State)
    let asks := fun (u : State) (d : Context) =>
      ((∀ x ∈ s.tears, ¬ own x) → s.tears.length < 16 → takes (commits u d))
      ∧ ((∃ x ∈ s.tears, own x) → (∀ x ∈ s.tears, own x → x.state = .pending) → c.blockPath = false →
        takes (({ u with service := raised, contexts := s.contexts.set f { d with refusing := some .concurrent } } :
          State).endRefused f .evidence))
      ∧ ((s.tears.map (·.number)).Nodup → ∀ x ∈ s.tears, own x → ∀ start q, x.state = .torn start q →
        takes (commits (gone u x q false) d))
      ∧ ((s.tears.map (·.number)).Nodup → (∀ x ∈ s.tears, ¬ own x) → s.tears.length = 16 → (∃ x ∈ s.tears, x.state ≠ .pending) →
        ∃ x ∈ s.tears, ∃ start q, x.state = .torn start q
          ∧ (∀ y ∈ s.tears, ∀ start' q', y.state = .torn start' q' → (s.now - start').toNat ≤ (s.now - start).toNat)
          ∧ takes (commits { gone u x q true with freeCount := s.freeCount + 1 } d))
    (¬ claimed → asks h c)
    ∧ (c.blockPath = true → (∃ x ∈ s.tears, own x) → (∀ x ∈ s.tears, own x → x.state = .pending) → takes (h.endRefused f .evidence))
    ∧ (claimed → s.check.policies.concurrent = .flag →
        asks { h with service := raised } { c with contested := false, notes := [], flagged := c.flagged ++ [.concurrent] })
    ∧ (claimed → s.check.policies.concurrent ≠ .flag →
        takes (({ h with
          service := raised
          contexts := s.contexts.set f { c with contested := false, notes := [], refusing := some .concurrent } } :
            State).endRefused f .evidence))
    ∧ exec (.stale f) s = .next (Claims.failed h f .writeFailed)

/-- SETTLED with the new counter, or a confirming read that finds it on this card, confirms the write; another counter, or the fetched
counter at the confirming read, means that it was not written: the PENDING entry goes without a record and the tap ends WRITE_FAILED
(EVIDENCE on the block path). A confirming read of any other card or counter is a torn write (R40, R41). -/
def Claims.SettledAndConfirmingReadDecideTheWrite : Prop :=
  ∀ (s : State) (f : Face) (img w : CardImage),
    let c := s.context f
    c.image = some img → c.staged = some w →
    let h := Claims.heard s f
    let notWritten := Claims.failed { h with tears := s.tears.filter fun x => decide (x.number ≠ c.number) } f .writeFailed
    (Claims.waits s f (· = .settle) .settling →
      exec (.settled f w.counter) s = .next (h.confirmWrite f)
      ∧ ∀ n, n ≠ w.counter → exec (.settled f n) s = .next notWritten)
    ∧ (∀ image : List Byte, Claims.waits s f (· = .fetch) .confirming → image.length = 64 →
      let takes := fun (t : State) => exec (.cardImage f image) s = .next t
      let mine := imageNumber image = c.number
      (mine → imageCounter image = w.counter → takes (h.confirmWrite f))
      ∧ (mine → imageCounter image ≠ w.counter → imageCounter image = img.counter → takes notWritten)
      ∧ ((¬ mine ∨ (imageCounter image ≠ w.counter ∧ imageCounter image ≠ img.counter)) → takes (h.tornWrite f)))

/-- A confirmed fare write: the PENDING entry goes, one record ENTERED or EXITED, the RESERVED place becomes GRANTED with the record's
sequence and counts, the write is recorded as a LOCAL sighting, with an entry there or not, the own hold ends (O37), RELEASE COMMITTED is sent,
and the face shows GO with the accept tone, a leaf that was CLOSED or CLOSING opening for the grant. A confirmed block write: BLOCKED_CARD,
no grant, a reserved place given up with the lock it held, ATTEND with the refuse tone, and RELEASE DROPPED if a HOLD went out. A late finding's
LATE_ALERT follows the record, with CLONE attention; a pending field-off request turns the field off and frees the context. Nothing else changes (R3,
R42, R47, R50, R89, R90, R125, R151, R152, R156). The model's choice: the LATE_ALERT is asked for before the reservation goes (log entry 20), and a pending watch
sequence is filled by the next record of its face (log entry 24). -/
def Claims.ConfirmedWritesLeaveTheirTraces : Prop :=
  ∀ (s : State) (f : Face) (w : CardImage),
    let c := s.context f
    let u := s.face f
    c.staged = some w → u.state = .serving → (s.sightings.map (·.number)).Nodup →
    let t := s.confirmWrite f
    let x : Sighting :=
      { counter := w.counter, chain := w.chain, station := s.station, gate := some s.gate, day := s.today, minute := s.minuteNow
        direction := f.direction, source := .localWrite }
    let evidence := match c.refusing with
      | some k => some k
      | none => c.flagged.head?
    let record := fun (o : TxOutcome) (y : RecordFields) =>
      ({ sequence := s.journal.next, kind := .transaction o, stamp := s.stamp, face := f, fields := y } : Record)
    let fields : RecordFields :=
      { RecordFields.blank with
        number := some c.number, cls := some c.cls, watchUnits := c.watchUnits, bypassed := c.bypassed, evidence := evidence
        balanceAfter := some w.balance, counterAfter := some w.counter }
    let sends := fun (m : RingMessage) => if s.ring.queue.length < 32 then s.ring.queue ++ [m] else s.ring.queue
    let toned := fun (tone : ShortTone) (a : Aisle) => t.aisle = { a with tones := Claims.tonesAfter s f tone }
    let untorn := s.tears.filter fun y => decide (y.number ≠ c.number)
    let late := Claims.lateAlerts s f ({ s with tears := untorn, contexts := s.contexts.set f Context.idle } : State).obligations
    let recorded := t.tears = untorn
      ∧ t.service = { s.service with flags := Claims.flagsAfter s f (1 + late.length) }
      ∧ t.journal.next = Claims.nextAfter (1 + late.length) s.journal.next
      ∧ t.watch = { s.watch with status := Claims.statusAfter s f }
      ∧ (∃ l, Claims.recorded s.sightings c.number x l ∧ t.sightings = (({ s with sightings := l } : State).releaseOwnHold f).sightings)
      ∧ (∀ e ∈ s.sightings, e.number = c.number → e.hold = .own f → c.ownHold = true → c.holdsEntry = true →
          let entry := fun (h : Hold) (d : Option (Byte × Word)) (n : Option Byte) =>
            t.sightings = (s.sightings.filter fun y => decide (y.number ≠ c.number))
              ++ [{ e with sighting := some x, hold := h, displaced := d, contestNote := n }]
          let shared := (s.context f.other).ownHold = true ∧ (s.context f.other).holdsEntry = true
            ∧ (s.context f.other).number = c.number
          (shared → entry (.own f.other) e.displaced e.contestNote)
          ∧ (¬ shared → ∀ o since, e.displaced = some (o, since) → (s.now - since).toNat < 5000 → entry (.peer o since) none none)
          ∧ (¬ shared → (∀ o since, e.displaced = some (o, since) → 5000 ≤ (s.now - since).toNat) → entry .noHold none none))
      ∧ t.face f = Claims.faceAfter u s.now false ∧ t.face f.other = s.face f.other
      ∧ t.context f.other = s.context f.other
      ∧ t = { s with
          tears := t.tears, journal := t.journal, service := t.service, watch := t.watch, sightings := t.sightings
          ring := { s.ring with queue := t.ring.queue }, aisle := t.aisle, contexts := t.contexts, faces := t.faces }
    (c.blockPath = false →
      recorded
      ∧ t.journal.records = s.journal.records ++ record (if f = .street then .entered else .exited)
          { fields with
            fare := some ((c.fare.map (·.fare)).getD 0), entryStation := c.fare.bind (·.entryStation)
            freePassage := decide (c.reservation = .removed) } :: late
      ∧ t.context f = Claims.contextAfter u
          { c with state := .removalWait, indication := .go, ownHold := false, holdsEntry := false }
      ∧ t.ring.queue = sends (.release s.gate 0 c.number
          (.committed w.counter w.chain s.station s.today s.minuteNow (if f = .street then 0 else 1)))
      ∧ (c.reservation ≠ .held → toned .accept s.aisle)
      ∧ (c.reservation = .held → ∀ before after p, s.aisle.queues.get f.direction = before ++ p :: after →
          p.face = f → p.state = .reserved → (∀ y ∈ before, y.face ≠ f ∨ y.state ≠ .reserved) →
          toned .accept (Claims.grantedAisle s f (before
            ++ { p with state := .granted s.journal.next s.now (s.setup.grantLifetime * 1000) false } :: after))))
    ∧ (c.blockPath = true →
      recorded ∧ toned .refuse (Claims.placeGivenUp s f)
      ∧ t.journal.records = s.journal.records ++ record .blockedCard { fields with fare := some 0 } :: late
      ∧ t.context f = Claims.contextAfter u { c with
          state := .refusedShown, indication := .attend, ownHold := false, holdsEntry := false
          reservation := if c.reservation = .held then .noPlace else c.reservation }
      ∧ t.ring.queue = (if c.holdSent then sends (.release s.gate 0 c.number (.dropped 0)) else s.ring.queue))

/-- A torn write: the PENDING entry becomes TORN with its window starting now and the record's sequence as its reference; the record is
TORN, or REFUSED with reason EVIDENCE on the block path, and a late finding's LATE_ALERT follows it; the reservation, the own hold and an
own-block mark go, RELEASE UNCERTAIN is sent, and the face shows STOP, sounds the refuse tone and polls again with its context IDLE, or
goes off if a field-off request is pending (R3, R43, R51, R121, R125). The model's choice: TORN carries no flagged evidence (log entry 18),
a pending watch sequence is filled by the next record of its face (log entry 24), a block path that has its record is over (log entry 38),
and a mark that an earlier BLOCKED_CARD left is cleared too (log entry 50). -/
def Claims.TornWritesLeaveATornEntry : Prop :=
  ∀ (s : State) (f : Face) (img w : CardImage),
    let c := s.context f
    let u := s.face f
    c.image = some img → c.staged = some w → u.state = .serving →
    let t := s.tornWrite f
    let fields : RecordFields :=
      { RecordFields.blank with
        number := some c.number, cls := some c.cls, watchUnits := c.watchUnits, bypassed := c.bypassed }
    let torn := s.tears.map fun e => if e.number = c.number then { e with state := .torn s.now s.journal.next } else e
    let late := Claims.lateAlerts s f ({ s with tears := torn, contexts := s.contexts.set f Context.idle } : State).obligations
    t.tears = torn ∧ t.hotlist = Claims.markEnded s f
    ∧ t.service = { s.service with flags := Claims.flagsAfter s f (1 + late.length) }
    ∧ t.journal.next = Claims.nextAfter (1 + late.length) s.journal.next
    ∧ t.watch = { s.watch with status := Claims.statusAfter s f }
    ∧ (∃ r, t.journal.records = s.journal.records ++ r :: late ∧ r.sequence = s.journal.next ∧ r.face = f ∧ r.stamp = s.stamp
      ∧ (c.blockPath = false → r.kind = .transaction .torn ∧ r.fields = { fields with
          fare := some ((c.fare.map (·.fare)).getD 0), balanceAfter := some w.balance, counterAfter := some w.counter })
      ∧ (c.blockPath = true → r.kind = .transaction .refused ∧ r.fields = { fields with
          reason := some .evidence, evidence := match c.refusing with
            | some k => some k
            | none => c.flagged.head? }))
    ∧ t.aisle = { Claims.placeGivenUp s f with tones := Claims.tonesAfter s f .refuse }
    ∧ t.sightings = (s.releaseOwnHold f).sightings
    ∧ t.ring.queue = (if s.ring.queue.length < 32 then s.ring.queue ++ [.release s.gate 0 c.number (.uncertain 0)] else s.ring.queue)
    ∧ t.context f = Context.idle
    ∧ t.face f = Claims.faceAfter u s.now true
    ∧ t.context f.other = s.context f.other ∧ t.face f.other = s.face f.other
    ∧ t = { s with
        tears := t.tears, hotlist := t.hotlist, journal := t.journal, service := t.service, watch := t.watch
        sightings := t.sightings, ring := { s.ring with queue := t.ring.queue }, aisle := t.aisle
        contexts := t.contexts, faces := t.faces }

/-- How a committed write is decided, and what a confirmed and a torn one leave behind (R40 to R43, R47). The model's choice: what a TORN
record carries (log entry 18), when a LATE_ALERT is asked for (log entry 20), which record fills the watch status (log entry 24), and when a
block path is over and whose mark it clears (log entries 38 and 50). -/
def Obligations.WritesAreConfirmedOrTorn : Prop :=
  Claims.SettledAndConfirmingReadDecideTheWrite ∧ Claims.ConfirmedWritesLeaveTheirTraces ∧ Claims.TornWritesLeaveATornEntry

/-- An own hold: a free entry becomes own, and so does a new entry, which in a full table takes the place of the first without a hold; a
peer hold 5 s old is replaced; one that has not expired is kept as the displaced hold, with a contest note on the
entry and the context; an entry held for the other face marks both contexts contested, and
one of them that is SETTLING or CONFIRMING, has found no refusing evidence and keeps no late finding yet keeps the late finding
CONCURRENT; where no entry can be made the context is
contested and holds none. Released, the hold passes to the other face's context that shares it, else a displaced hold in time is
restored, else it ends; nothing else changes (R35, R83, R84, R87, R89, R125). That "expired" is read off the passage clock here, so that a
peer hold 5 s old is replaced and a displaced one ends, its
expiry taken or not, is the model's choice (log entry 31). -/
def Obligations.OwnHoldsAreTakenAndReleased : Prop :=
  ∀ (s : State) (f : Face), (s.sightings.map (·.number)).Nodup →
    let c := s.context f
    let n := c.number
    let others := s.sightings.filter fun y => decide (y.number ≠ n)
    let set := s.setOwnHold f
    let freed := s.releaseOwnHold f
    let contested := fun (x : Context) =>
      let late := (x.state = .settling ∨ x.state = .confirming) ∧ x.refusing = none ∧ x.late = none
      { x with contested := true, late := if late then some EvidenceKind.concurrent else x.late }
    (∀ e ∈ s.sightings, e.number = n →
      (e.hold = .noHold → set = { s with
        sightings := others ++ [{ e with hold := .own f, displaced := none, contestNote := none }]
        contexts := s.contexts.set f { c with ownHold := true, holdsEntry := true } })
      ∧ (∀ o since, e.hold = .peer o since → (s.now - since).toNat < 5000 → c.state.committed = false → set = { s with
        sightings := others ++ [{ e with hold := .own f, displaced := some (o, since), contestNote := some o }]
        contexts := s.contexts.set f { c with ownHold := true, holdsEntry := true, notes := c.notes ++ [.contest o] } })
      ∧ (∀ o since, e.hold = .peer o since → 5000 ≤ (s.now - since).toNat → set = { s with
        sightings := others ++ [{ e with hold := .own f, displaced := none, contestNote := none }]
        contexts := s.contexts.set f { c with ownHold := true, holdsEntry := true } })
      ∧ (e.hold = .own f.other → set = { s with
        contexts := (s.contexts.set f (contested { c with ownHold := true, holdsEntry := true })).set f.other
          (contested (s.context f.other)) })
      ∧ (c.ownHold = true → c.holdsEntry = true → e.hold = .own f →
          let shared := (s.context f.other).ownHold = true ∧ (s.context f.other).holdsEntry = true
            ∧ (s.context f.other).number = n
          (shared → freed.sightings = others ++ [{ e with hold := .own f.other }])
          ∧ (¬ shared → ∀ o since, e.displaced = some (o, since) → (s.now - since).toNat < 5000 →
              freed.sightings = others ++ [{ e with hold := .peer o since, displaced := none, contestNote := none }])
          ∧ (¬ shared → (∀ o since, e.displaced = some (o, since) → 5000 ≤ (s.now - since).toNat) →
              freed.sightings = others ++ [{ e with hold := .noHold, displaced := none, contestNote := none }]))
      ∧ (e.hold ≠ .own f → freed.sightings = s.sightings))
    ∧ ((∀ e ∈ s.sightings, e.number ≠ n) → s.sightings.length < 256 → set = { s with
        sightings := s.sightings ++ [{ number := n, sighting := none, hold := .own f, displaced := none, contestNote := none }]
        contexts := s.contexts.set f { c with ownHold := true, holdsEntry := true } })
    ∧ ((∀ e ∈ s.sightings, e.number ≠ n) → 256 ≤ s.sightings.length → ∀ before v later, s.sightings = before ++ v :: later →
        v.hold = .noHold → (∀ y ∈ before, y.hold ≠ .noHold) → set = { s with
        sightings := before ++ later
          ++ [{ number := n, sighting := none, hold := .own f, displaced := none, contestNote := none }]
        contexts := s.contexts.set f { c with ownHold := true, holdsEntry := true } })
    ∧ ((∀ e ∈ s.sightings, e.number ≠ n ∧ e.hold ≠ .noHold) → 256 ≤ s.sightings.length → set = { s with
        contexts := s.contexts.set f { c with ownHold := true, holdsEntry := false, contested := true } })
    ∧ freed = { s with
        sightings := freed.sightings, contexts := s.contexts.set f { c with ownHold := false, holdsEntry := false } }
    ∧ ((c.ownHold = false ∨ c.holdsEntry = false ∨ ∀ e ∈ s.sightings, e.number ≠ n) → freed.sightings = s.sightings)

/-! ### The gate ring and its deadlines -/

/-- A ring message with its hop count one higher. -/
def Claims.passedOn : RingMessage → RingMessage
  | .hold o h n c x => .hold o (h + 1) n c x
  | .release o h n b => .release o (h + 1) n b
  | .alert o h n k b => .alert o (h + 1) n k b
  | .census o h => .census o (h + 1)

/-- The origin gate and the hop count of a ring message. -/
def Claims.route : RingMessage → Byte × Byte
  | .hold o h _ _ _ => (o, h)
  | .release o h _ _ => (o, h)
  | .alert o h _ _ _ => (o, h)
  | .census o h => (o, h)

/-- A message of another gate with hop count 63 or more is discarded; before a gate is set every other message is only forwarded, its hop
count increased by 1; a RELEASE, an ALERT or an unmatched HOLD that comes home is discarded; a CENSUS that comes home makes the ring UP
with its hop count plus 1 as size, RING attention if it was ISOLATED; another gate's CENSUS is only forwarded. A full queue discards. A
bad message changes nothing; ring-out sends the bytes of the queue's head and rests idle with none, and a message sent leaves it. The
RELEASE bytes that are not read and the contest bytes of a HOLD that this part does not contest are forwarded as they came (R93, R94,
R100 to R102, R211). That a CENSUS of this gate is taken whatever its hop count is the model's choice (log entry 53). -/
def Obligations.RingMessagesComeHomeOrAreForwarded : Prop :=
  (∀ (s : State) (m : RingMessage), s.power = .running →
    let forwards : State := { s with ring := Claims.joined s.ring (Claims.passedOn m) }
    let hops := (Claims.route m).2.toNat
    (s.setup.place = none → exec m.command s = .next (if 63 ≤ hops then s else forwards))
    ∧ ∀ p, s.setup.place = some p →
      ((Claims.route m).1 ≠ p.gate → 63 ≤ hops → exec m.command s = .next s)
      ∧ (∀ o h, m = .census o h → o ≠ p.gate → hops < 63 → exec m.command s = .next forwards)
      ∧ (∀ h n b, m = .release p.gate h n b → exec m.command s = .next s)
      ∧ (∀ h n k b, m = .alert p.gate h n k b → exec m.command s = .next s)
      ∧ (∀ h n c g, m = .hold p.gate h n c g → (∀ f, (s.context f).state = .holding → (s.context f).number ≠ n) →
          exec m.command s = .next s)
      ∧ (∀ h, m = .census p.gate h → exec m.command s = .next { s with
          ring := { s.ring with state := .up, size := hops + 1, censusStart := none }
          service := if s.ring.state = .up then s.service else { s.service with flags := s.service.flags.raise .ring } }))
  ∧ (∀ s : State, s.power = .running →
    exec .badRingMessage s = .next s ∧ s.ringOut = s.ring.queue.head?.map ringBytes
    ∧ exec .ringOutSent s = .next { s with ring := { s.ring with queue := s.ring.queue.drop 1 } })

/-- The contexts after a note for a card number: each that counts as holding its entry takes the note, and one in SETTLING or CONFIRMING
that has found no refusing evidence and has no late finding yet keeps the kind `k` as its late finding (R35, R87, R125). -/
def Claims.noted (s : State) (n : CardNumber) (x : Note) (k : EvidenceKind) : PerFace Context :=
  let give := fun (c : Context) =>
    if c.ownHold = true ∧ c.holdsEntry = true ∧ c.number = n then
      { c with
        notes := c.notes ++ [x]
        late := if (c.state = .settling ∨ c.state = .confirming) ∧ c.refusing = none ∧ c.late = none then some k else c.late }
    else c
  { street := give s.contexts.street, paid := give s.contexts.paid }

/-- A HOLD of another gate o, by the hold at its card's entry: with no entry or none it becomes peer(o); peer(o) is renewed; another
gate's peer hold is kept and the HOLD contested; an own hold stays, the entry's contest note becomes o, a displaced hold of o is renewed,
the holding contexts receive a contest note (past the commit point a late finding CONCURRENT) and the HOLD is contested. A HOLD is also
contested where no entry could be made, and in every case where its counter is below the sighting's. It is forwarded, its contested mark
and contesting gate changed only if this part contests it (R84, R93, R96, R125, R211). -/
def Claims.HoldArrivalsActOnTheEntry : Prop :=
  ∀ (s : State) (p : Place) (o hop : Byte) (n : CardNumber) (counter : Half) (carried : HoldContest),
    s.power = .running → s.setup.place = some p → o ≠ p.gate → hop.toNat < 63 → (s.sightings.map (·.number)).Nodup →
    let others := s.sightings.filter fun y => decide (y.number ≠ n)
    let forwarded := fun (contested : Bool) => Claims.joined s.ring
      (.hold o (hop + 1) n counter (if contested then { mark := 1, gate := p.gate } else carried))
    let takes := fun (t : State) => exec (.hold o hop n counter carried) s = .next t
    ((∀ e ∈ s.sightings, e.number ≠ n) → ∃ l,
      Claims.joins s.sightings
        { number := n, sighting := none, hold := .peer o s.now, displaced := none, contestNote := none } l
      ∧ takes { s with
          sightings := l
          ring := forwarded (decide (256 ≤ s.sightings.length ∧ ∀ e ∈ s.sightings, e.hold ≠ .noHold)) })
    ∧ (∀ e ∈ s.sightings, e.number = n →
      let behind := match e.sighting with
        | some x => decide (counter.toNat < x.counter.toNat)
        | none => false
      ((e.hold = .noHold ∨ ∃ since, e.hold = .peer o since) →
        takes { s with sightings := others ++ [{ e with hold := .peer o s.now }], ring := forwarded behind })
      ∧ (∀ o2 since, o2 ≠ o → e.hold = .peer o2 since → takes { s with ring := forwarded true })
      ∧ (∀ f, e.hold = .own f → takes { s with
          sightings := others ++ [{ e with
            contestNote := some o
            displaced := match e.displaced with
              | some d => some (if d.1 = o then (o, s.now) else d)
              | none => none }]
          contexts := Claims.noted s n (.contest o) .concurrent
          ring := forwarded true }))

/-- A RELEASE of another gate o ends its peer hold on the card's entry, or removes its displaced hold. COMMITTED also records the carried
write, with gate o and source PEER, in a new entry, or when the entry has no sighting part or a lower counter, and leaves a CONCURRENT note
on the holding contexts (past the commit point a late finding CONCURRENT); DROPPED and UNCERTAIN leave the sighting part and the contest
note, and create no entry. The RELEASE is forwarded with every byte as it came but its hop count (R83, R84, R97, R98, R125, R211). That an
entry which loses only a displaced hold keeps its place is the model's choice (log entry 49). -/
def Claims.ReleaseArrivalsClearAndRecord : Prop :=
  ∀ (s : State) (p : Place) (o hop : Byte) (n : CardNumber),
    s.power = .running → s.setup.place = some p → o ≠ p.gate → hop.toNat < 63 → (s.sightings.map (·.number)).Nodup →
    let others := s.sightings.filter fun y => decide (y.number ≠ n)
    let takes := fun (b : ReleaseBody) (l : List SightingEntry) (contexts : PerFace Context) => exec (.release o hop n b) s = .next
      { s with sightings := l, contexts := contexts, ring := Claims.joined s.ring (.release o (hop + 1) n b) }
    let seen := fun (counter : Half) (chain : Word) (station day minute : Half) (d : Byte) =>
      ({ counter := counter, chain := chain, station := station, gate := some o, day := day, minute := minute
         direction := ringDirection d, source := .peer } : Sighting)
    ((∀ e ∈ s.sightings, e.number ≠ n) →
      (∀ x, takes (.dropped x) s.sightings s.contexts ∧ takes (.uncertain x) s.sightings s.contexts)
      ∧ ∀ counter chain station day minute d, ∃ l,
        Claims.joins s.sightings
          { number := n, sighting := some (seen counter chain station day minute d), hold := .noHold, displaced := none
            contestNote := none } l
        ∧ takes (.committed counter chain station day minute d) l (Claims.noted s n .concurrent .concurrent))
    ∧ (∀ e ∈ s.sightings, e.number = n →
      let cleared := { e with
        hold := match e.hold with
          | .peer o2 since => if o2 = o then .noHold else .peer o2 since
          | h => h
        displaced := match e.displaced with
          | some d => if d.1 = o then none else some d
          | none => none }
      let peered := ∃ since, e.hold = .peer o since
      let kept := s.sightings.map fun y => if y.number = n then cleared else y
      (∀ x, ∀ b ∈ [ReleaseBody.dropped x, .uncertain x],
        (peered → takes b (others ++ [cleared]) s.contexts) ∧ (¬ peered → takes b kept s.contexts))
      ∧ ∀ counter chain station day minute d, let b := ReleaseBody.committed counter chain station day minute d
        let newer := ∀ old, e.sighting = some old → old.counter.toNat < counter.toNat
        let contexts := Claims.noted s n .concurrent .concurrent
        (newer → takes b (others ++ [{ cleared with sighting := some (seen counter chain station day minute d) }]) contexts)
        ∧ (¬ newer → peered → takes b (others ++ [cleared]) contexts)
        ∧ (¬ newer → ¬ peered → takes b kept contexts))

/-- An ALERT of another gate makes a LOCAL add of its number if its block flag is set, raising CLONE attention whether or not the add was
made, and leaves an alert note on the holding contexts, past the commit point a late finding of the kind the ALERT names. It changes
nothing else and is forwarded. A LOCAL add of a listed number only sets the own-block mark of a LOCAL one, where a block path makes it
(`mark`); a new number joins a list of fewer than 2 048, displaces the earliest LOCAL number without an own-block mark
from a full one, and is not made when there is none (R99, R119, R121, R124,
R125). -/
def Claims.AlertArrivalsAddAndNote : Prop :=
  (∀ (s : State) (p : Place) (o hop : Byte) (n : CardNumber) (k : EvidenceKind) (block : Byte),
    s.power = .running → s.setup.place = some p → o ≠ p.gate → hop.toNat < 63 →
    let noted : State := { s with
      contexts := Claims.noted s n (.alert k) k, ring := Claims.joined s.ring (.alert o (hop + 1) n k block) }
    (ringMark block = true → exec (.alert o hop n k block) s = .next { noted with
      hotlist := s.hotlist.localAdd n false, service := { s.service with flags := s.service.flags.raise .clone } })
    ∧ (ringMark block = false → exec (.alert o hop n k block) s = .next noted))
  ∧ (∀ (h : Hotlist) (n : CardNumber) (mark : Bool),
    ((∃ e ∈ h.entries, e.number = n) → h.localAdd n mark = { h with entries := h.entries.map fun e =>
      if mark = true ∧ e.number = n ∧ e.origin = .localAdd then { e with ownBlock := true } else e })
    ∧ ((∀ e ∈ h.entries, e.number ≠ n) →
    (h.entries.length < 2048 → (h.localAdd n mark).localOrder = h.localOrder ++ [n]
      ∧ (∀ e, e ∈ (h.localAdd n mark).entries ↔ e = { number := n, origin := .localAdd, ownBlock := mark } ∨ e ∈ h.entries))
    ∧ (2048 ≤ h.entries.length →
      (∀ m ∈ h.localOrder, ∀ e ∈ h.entries, e.number = m → e.ownBlock = true) → h.localAdd n mark = h)
    ∧ (2048 ≤ h.entries.length → ∀ before v after, h.localOrder = before ++ v :: after → h.localOrder.Nodup →
      (∃ e ∈ h.entries, e.number = v ∧ e.ownBlock = false) →
      (∀ m ∈ before, ∀ e ∈ h.entries, e.number = m → e.ownBlock = true) →
      (h.localAdd n mark).localOrder = before ++ after ++ [n]
        ∧ (∀ e, e ∈ (h.localAdd n mark).entries
            ↔ e = { number := n, origin := .localAdd, ownBlock := mark } ∨ (e ∈ h.entries ∧ e.number ≠ v)))))

/-- The arrival actions of HOLD, RELEASE and ALERT (R96 to R99, R119, R124, R125). -/
def Obligations.RingArrivalsActOnTheTables : Prop :=
  Claims.HoldArrivalsActOnTheEntry ∧ Claims.ReleaseArrivalsClearAndRecord ∧ Claims.AlertArrivalsAddAndNote

/-- The return of a HOLD to the context that sent it first among those waiting for its number, or the ring timeout, whichever is taken first, ends HOLDING: a contested HOLD
leaves the contested mark and a contest note; the timeout marks the ring bypassed and makes an UP ring ISOLATED with RING attention and
the next CENSUS 2 s later. Either way the context decides (R34, R101, R104). That a timeout not yet reached, or without a HOLDING
context, does nothing is the model's choice (log entry 9). -/
def Obligations.HoldReturnOrTimeoutEndsTheWait : Prop :=
  (∀ (s : State) (p : Place) (f : Face) (hop : Byte) (n : CardNumber) (counter : Half) (x : HoldContest) (earlier later : List Face),
    s.power = .running → s.setup.place = some p → s.ring.holdOrder = earlier ++ f :: later →
    (∀ g ∈ earlier, (s.context g).state ≠ .holding ∨ (s.context g).holdSent = false ∨ (s.context g).number ≠ n) →
    (s.context f).state = .holding → (s.context f).holdSent = true → (s.context f).number = n →
    (ringMark x.mark = true → exec (.hold p.gate hop n counter x) s = .next (({ s with
      contexts := s.contexts.set f
        { s.context f with contested := true, notes := (s.context f).notes ++ [.contest x.gate] } } : State).deciding f))
    ∧ (ringMark x.mark = false → exec (.hold p.gate hop n counter x) s = .next (s.deciding f)))
  ∧ (∀ (s : State) (f : Face) (start : Word) (life : Nat), s.power = .running → (s.context f).ringTimer = some (start, life) →
    let c := s.context f
    let due := c.state = .holding ∧ life ≤ (s.now - start).toNat
    (due → exec (.ringTimeout f) s = .next (({ s with
      contexts := s.contexts.set f { c with bypassed := true }
      ring := if s.ring.state = .up then { s.ring with state := .isolated, censusStart := some s.now } else s.ring
      service := if s.ring.state = .up then { s.service with flags := s.service.flags.raise .ring } else s.service } :
        State).deciding f))
    ∧ (¬ due → exec (.ringTimeout f) s = .next s))

/-- The census interval's end while ISOLATED originates a CENSUS and starts the next 2 s, room in the queue or not; a peer hold 5 s old
becomes none and its entry stays; a displaced hold 5 s old is dropped; a TORN entry whose window has passed goes with a TEAR UNRESOLVED
record and TEAR attention (R55, R85, R105). That each expiry does nothing before its time or without its subject is the model's choice
(log entry 9). -/
def Obligations.RingAndTearDeadlinesExpire : Prop :=
  (∀ s : State, s.power = .running →
    let due := s.ring.state = .isolated ∧ ∃ t, s.ring.censusStart = some t ∧ 2000 ≤ (s.now - t).toNat
    (due → exec .censusDue s = .next { s with
      ring := { Claims.joined s.ring (.census s.gate 0) with censusStart := some s.now } })
    ∧ (¬ due → exec .censusDue s = .next s))
  ∧ (∀ (s : State) (n : CardNumber), s.power = .running → (s.sightings.map (·.number)).Nodup →
    (∀ e ∈ s.sightings, e.number = n →
      (∀ o since, e.hold = .peer o since →
        exec (.peerHoldExpiry n) s = .next (if 5000 ≤ (s.now - since).toNat then
          { s with sightings := (s.sightings.filter fun y => decide (y.number ≠ n)) ++ [{ e with hold := .noHold }] } else s))
      ∧ ((∀ o since, e.hold ≠ .peer o since) → exec (.peerHoldExpiry n) s = .next s)
      ∧ (∀ o since, e.displaced = some (o, since) →
        exec (.displacedHoldExpiry n) s = .next (if 5000 ≤ (s.now - since).toNat then
          { s with sightings := s.sightings.map fun y => if y.number = n then { e with displaced := none } else y } else s))
      ∧ (e.displaced = none → exec (.displacedHoldExpiry n) s = .next s))
    ∧ ((∀ e ∈ s.sightings, e.number ≠ n) →
      exec (.peerHoldExpiry n) s = .next s ∧ exec (.displacedHoldExpiry n) s = .next s))
  ∧ (∀ (s : State) (n : CardNumber), s.power = .running → (s.tears.map (·.number)).Nodup →
    (∀ e ∈ s.tears, e.number = n → ∀ start q, e.state = .torn start q →
      (s.setup.tearWindow * 1000 ≤ (s.now - start).toNat → ∃ t, exec (.tearWindowExpiry n) s = .next t
        ∧ t.tears = s.tears.filter (fun y => decide (y.number ≠ n)) ∧ t.service.flags.tear = true
        ∧ t.journal.records = s.journal.records ++ [{
            sequence := s.journal.next, kind := .tear .unresolved, stamp := s.stamp, face := e.face
            fields := { RecordFields.blank with number := some n, reference := some q } }]
        ∧ t.contexts = s.contexts ∧ t.sightings = s.sightings ∧ t.aisle = s.aisle ∧ t.ring = s.ring)
      ∧ ((s.now - start).toNat < s.setup.tearWindow * 1000 → exec (.tearWindowExpiry n) s = .next s))
    ∧ ((∀ e ∈ s.tears, e.number = n → e.state = .pending) → exec (.tearWindowExpiry n) s = .next s))

/-! ### The aisle -/

/-- A beam input's level is read through its polarity, a limit's and the emergency input's as it is: a difference from the accepted state
begins a pending change now, or goes on with the one that is pending; agreement drops it. While the part does not run only the pin's
level is recorded (R140, R141, R157, R170; log entry 12). -/
def Claims.InputChangesBeginOrDropAPendingChange : Prop :=
  ∀ s : State,
    let since := fun (differs : Bool) (old : Option Word) =>
      if s.power = .running then (if differs then some (old.getD s.now) else none) else old
    (∀ (b : Beam) (high : Bool),
      let u := s.aisle.beams.get b
      let reads := match u.polarity with
        | .blockedHigh => high
        | .blockedLow => !high
      exec (.beamInputChange b high) s = .next { s with aisle := { s.aisle with
        beams := s.aisle.beams.set b { u with high := high, pendingSince := since (decide (reads ≠ u.blocked)) u.pendingSince } } })
    ∧ (∀ level : Bool,
      let moved := fun (u : LineInput) =>
        { u with level := level, pendingSince := since (decide (level ≠ u.accepted)) u.pendingSince }
      exec (.limitInputChange .openLimit level) s
        = .next { s with aisle := { s.aisle with openLimit := moved s.aisle.openLimit } }
      ∧ exec (.limitInputChange .closedLimit level) s
        = .next { s with aisle := { s.aisle with closedLimit := moved s.aisle.closedLimit } }
      ∧ exec (.emergencyInputChange level) s
        = .next { s with service := { s.service with emergency := moved s.service.emergency } })

/-- A beam's pending change has held for 30 ms. -/
def Claims.accepted (s : State) (b : Beam) (t : Word) : Prop :=
  s.power = .running ∧ (s.aisle.beams.get b).pendingSince = some t ∧ 30 ≤ (s.now - t).toNat

/-- The aisle with a beam blocked at time `t`. -/
def Claims.blockedAt (s : State) (b : Beam) (t : Word) : Aisle :=
  { s.aisle with beams := s.aisle.beams.set b { s.aisle.beams.get b with blocked := true, pendingSince := none, blockedSince := t } }

/-- The aisle with a beam blocked at time `t` and so not clear: a closing leaf has reopened, with a fresh travel timer unless the open limit
is asserted, and no close delay runs (R160, R161). -/
def Claims.obstructed (s : State) (b : Beam) (t : Word) : Aisle :=
  let a := s.aisle
  let opens := a.leaf = .closing
  { Claims.blockedAt s b t with
    leaf := if opens then (if a.openLimit.accepted then .opened else .opening) else a.leaf
    travelStart := if opens then (if a.openLimit.accepted then none else some s.now) else a.travelStart
    closeStart := none }

/-- A beam counts as blocked: blocked and not stuck. -/
def Claims.counts (a : Aisle) (b : Beam) : Prop := (a.beams.get b).blocked = true ∧ (a.beams.get b).stuck = false

/-- A crossing at the event in which beam `b` became blocked (R145, R146). -/
def Claims.crosses (a : Aisle) (r : Run) (b : Beam) : Prop :=
  (r.direction = .entry ∧ ((b = .beam3 ∧ Claims.counts a .beam2 ∧ (r.crossings = 0 ∨ r.cleared2 = true))
      ∨ (b = .beam2 ∧ Claims.counts a .beam3 ∧ r.cleared2 = true)))
  ∨ (r.direction = .exit ∧ ((b = .beam2 ∧ Claims.counts a .beam3 ∧ (r.crossings = 0 ∨ r.cleared3 = true))
      ∨ (b = .beam3 ∧ Claims.counts a .beam2 ∧ r.cleared3 = true)))
  ∨ (r.direction = .unknown ∧ ((b = .beam1 ∧ Claims.counts a .beam2) ∨ (b = .beam2 ∧ Claims.counts a .beam3)
      ∨ (b = .beam3 ∧ Claims.counts a .beam2) ∨ (b = .beam4 ∧ Claims.counts a .beam3)))

/-- A beam that became blocked while the aisle was clear begins a run: entry from beam 1, exit from beam 4, UNKNOWN from the two beside
the leaf, with the marks of beams 2 and 3 as they count, and no crossing. A closing leaf reopens in the same event, with a fresh travel
timer unless the open limit is asserted; the close delay is abandoned (R141, R143, R144, R160, R161). That the expiry does nothing
before 30 ms is the model's choice (log entry 9). -/
def Claims.RunsBeginAtTheFirstBeam : Prop :=
  ∀ (s : State) (b : Beam) (t : Word), s.power = .running → (s.aisle.beams.get b).pendingSince = some t →
    ((s.now - t).toNat < 30 → exec (.beamDebounceExpiry b) s = .next s)
    ∧ (30 ≤ (s.now - t).toNat → s.aisle.clear = true → (s.aisle.beams.get b).blocked = false →
        (s.aisle.beams.get b).stuck = false →
        exec (.beamDebounceExpiry b) s = .next { s with aisle := { Claims.obstructed s b t with
          run := some
            { direction := match b with
                | .beam1 => .entry
                | .beam4 => .exit
                | .beam2 | .beam3 => .unknown
              side := match b with
                | .beam1 | .beam2 => .street
                | .beam3 | .beam4 => .paid
              crossings := 0, cleared2 := decide (b ≠ .beam2), cleared3 := decide (b ≠ .beam3), lastConsumed := none
              alarmed := false } } })

/-- In a run in progress, a blocked beam that is no crossing changes the run not at all; a crossing counts and clears both marks. In
IN_SERVICE and CLOSED it consumes the first GRANTED entry of the run's direction (record USED, the used count, the run's last consumed
sequence) and sounds no alarm, or is CONTRAFLOW under the opposite lock, else INTRUSION for the first crossing and TAILGATE for a later one;
every crossing of an UNKNOWN run is INTRUSION. Each of these counts, raises ALARM, sounds until the run ends, and is recorded if a spare
record may be written. In other service states a crossing is only counted. In every case the lock stands, a leaf that is not closing too,
and nothing else changes (R143 to R148, R153, R156, R161). -/
def Claims.CrossingsAreClassified : Prop :=
  ∀ (s : State) (b : Beam) (t : Word) (r : Run), Claims.accepted s b t → (s.aisle.beams.get b).blocked = false →
    s.aisle.clear = false → s.aisle.run = some r →
    let a := Claims.obstructed s b t
    let opposite : Lock := if r.direction = .entry then .exit else .entry
    let d : Direction := match r.direction with
      | .entry => .entry
      | .exit => .exit
      | .unknown => r.side.direction
    let q := s.aisle.queues.get d
    let k := s.aisle.counters.get d
    let classified := s.service.state = .inService ∨ s.service.state = .closed
    let granted := r.direction ≠ .unknown ∧ ∃ e ∈ q, e.isGranted = true
    let crossed := { r with crossings := r.crossings + 1, cleared2 := false, cleared3 := false }
    let takes := fun (u : State) => exec (.beamDebounceExpiry b) s = .next u
    let journal := fun (o : PassageOutcome) (f : Face) (n : Option CardNumber) (ref : Option Word) =>
      ({ records := s.journal.records ++ [{ sequence := s.journal.next, kind := .passage o, stamp := s.stamp, face := f
                                            fields := { RecordFields.blank with number := n, reference := ref } }]
         next := Claims.nextAfter 1 s.journal.next } : Journal)
    let low := s.service.flags.journal || [256, 192, 128, 64].contains s.freeSlots
    (¬ Claims.crosses a r b → takes { s with aisle := a })
    ∧ (Claims.crosses a r b → ¬ classified → takes { s with aisle := { a with run := some crossed } })
    ∧ (Claims.crosses a r b → classified → r.direction ≠ .unknown →
        ∀ before e after sequence start life deferred, q = before ++ e :: after → e.state = .granted sequence start life deferred →
        (∀ x ∈ before, x.isGranted = false) →
        takes { s with
          aisle := { a with
            queues := s.aisle.queues.set d (before ++ after)
            run := some { crossed with lastConsumed := some sequence }
            counters := s.aisle.counters.set d { k with used := k.used + 1 } }
          journal := journal .used e.face (some e.number) (some sequence)
          service := { s.service with flags := { s.service.flags with journal := low } } })
    ∧ (Claims.crosses a r b → classified → ¬ granted →
        let kind : PassageOutcome := if r.direction = .unknown then .intrusion else if s.aisle.lock = opposite then .contraflow
          else if r.crossings = 0 then .intrusion else .tailgate
        let spare := s.obligations < s.freeSlots
        takes { s with
          aisle := { a with
            run := some { crossed with alarmed := true }
            passageAlarm := .runInProgress
            tones := { street := none, paid := none }
            counters := s.aisle.counters.set d (k.alarm kind) }
          journal := if spare then journal kind r.side none r.lastConsumed else s.journal
          service := { s.service with flags := { s.service.flags with
            alarm := true, journal := if spare then low else s.service.flags.journal } } })

/-- The seven passage counters are steered apart: an alarm of one kind adds to the counter of its own name. -/
def Claims.AlarmsCountUnderTheirNames : Prop :=
  ∀ k : PassageCounters,
    k.alarm .intrusion = { k with intrusion := k.intrusion + 1 } ∧ k.alarm .tailgate = { k with tailgate := k.tailgate + 1 }
    ∧ k.alarm .contraflow = { k with contraflow := k.contraflow + 1 }

/-- The start of the close delay with the queues as given: it runs while the leaf is OPEN, no grant is queued and the aisle is clear,
from the time `t` when the last of the three came true (R160). -/
def Claims.closeDelay (a : Aisle) (q : PerDirection (List QueueEntry)) (t : Word) : Option Word :=
  if a.leaf = .opened ∧ (∀ e ∈ q.entry ++ q.exit, e.isGranted = false) ∧ a.clear = true then some (a.closeStart.getD t) else none

/-- The part after its run has ended at the time `t`: one with no crossing counts as withdrawn (IN_SERVICE and CLOSED), one that raised an
alarm leaves it 3 s from `t`, the deferred grants of its direction end EXPIRED in queue order, an empty bidirectional aisle releases the
lock, and the close delay may begin at `t`. Nothing else changes (R148, R149, R154, R156, R160). -/
def Claims.runEnded (s : State) (r : Run) (t : Word) : State :=
  let d := match r.direction with
    | .entry => .entry
    | .exit => .exit
    | .unknown => r.side.direction
  let q := s.aisle.queues.get d
  let ended := if r.direction = .unknown then [] else q.filter QueueEntry.isDeferred
  let left := if r.direction = .unknown then s.aisle.queues else s.aisle.queues.set d (q.filter fun e => !e.isDeferred)
  let k := s.aisle.counters.get d
  let classified := s.service.state = .inService ∨ s.service.state = .closed
  { s with
    aisle := { s.aisle with
      run := none
      passageAlarm := if r.alarmed then .since t else s.aisle.passageAlarm
      queues := left
      counters := s.aisle.counters.set d { k with
        withdrawn := if r.crossings = 0 ∧ classified then k.withdrawn + 1 else k.withdrawn
        expired := k.expired + BitVec.ofNat 32 ended.length }
      lock := if s.aisle.mode = .bidirectional ∧ left.entry = [] ∧ left.exit = [] then .unlocked else s.aisle.lock
      closeStart := Claims.closeDelay s.aisle left t }
    journal :=
      { records := s.journal.records ++ ended.mapIdx fun i e =>
          { sequence := Claims.nextAfter i s.journal.next, kind := .passage .expired, stamp := s.stamp, face := e.face
            fields := { RecordFields.blank with number := some e.number, reference := e.sequence } }
        next := Claims.nextAfter ended.length s.journal.next }
    service := { s.service with flags := { s.service.flags with
      journal := s.service.flags.journal || (List.range ended.length).any fun i => [256, 192, 128, 64].contains (s.freeSlots - i) } } }

/-- A beam that becomes clear with another still counting as blocked only sets its mark in the run. The last one ends the run: one with
no crossing counts as withdrawn (IN_SERVICE and CLOSED), one that raised an alarm leaves it 3 s from the event's time, the deferred
grants of its direction end EXPIRED, an empty bidirectional aisle releases the lock, and the close delay may begin at the event's time.
A stuck beam that reads clear loses its mark and does nothing else (R142, R149, R154, R156, R160). -/
def Claims.RunsEndWhenTheAisleIsClear : Prop :=
  ∀ (s : State) (b : Beam) (t : Word), Claims.accepted s b t → (s.aisle.beams.get b).blocked = true →
    let beam := s.aisle.beams.get b
    let beams := s.aisle.beams.set b { beam with blocked := false, pendingSince := none }
    let clear := ∀ c, c ≠ b → ¬ Claims.counts s.aisle c
    (beam.stuck = true → exec (.beamDebounceExpiry b) s = .next { s with aisle := { s.aisle with
      beams := s.aisle.beams.set b { beam with blocked := false, stuck := false, pendingSince := none } } })
    ∧ (beam.stuck = false → ¬ clear → exec (.beamDebounceExpiry b) s = .next { s with aisle := { s.aisle with
        beams := beams
        run := s.aisle.run.map fun r =>
          { r with cleared2 := r.cleared2 || decide (b = .beam2), cleared3 := r.cleared3 || decide (b = .beam3) } } })
    ∧ (beam.stuck = false → clear → ∀ r, s.aisle.run = some r → exec (.beamDebounceExpiry b) s
        = .next (Claims.runEnded { s with aisle := { s.aisle with beams := beams } } r t))

/-- An occlusion run from its first beam to its end (R141, R143 to R149, R153). -/
def Obligations.RunsAreFollowedAndClassified : Prop :=
  Claims.RunsBeginAtTheFirstBeam
    ∧ Claims.CrossingsAreClassified
    ∧ Claims.AlarmsCountUnderTheirNames
    ∧ Claims.RunsEndWhenTheAisleIsClear

/-- A beam blocked for 60 s becomes stuck: it counts as clear from then on and hands in BEAM_STUCK, which SecondFaultLocksDown follows for a full
slot and for LOCKDOWN; if no other beam counts as blocked the run ends, as RunsEndWhenTheAisleIsClear says (R142, R149, R177, R178). The model's choice: before that, for a clear beam or one stuck already, the command does nothing (log entry
9), and the fault comes before the run's end (log entry 17). -/
def Claims.LongBlockedBeamsBecomeStuck : Prop :=
  ∀ (s : State) (b : Beam), s.power = .running →
    let beam := s.aisle.beams.get b
    let due := beam.blocked = true ∧ beam.stuck = false ∧ 60000 ≤ (s.now - beam.blockedSince).toNat
    let faulted := ({ s with aisle := { s.aisle with
      beams := s.aisle.beams.set b { beam with stuck := true }
      run := s.aisle.run.map fun r =>
        { r with cleared2 := r.cleared2 || decide (b = .beam2), cleared3 := r.cleared3 || decide (b = .beam3) } } } :
      State).raiseFault (.beamStuck b)
    let others := ∃ c, c ≠ b ∧ Claims.counts s.aisle c
    (¬ due → exec (.beamStuck b) s = .next s)
    ∧ (due → (others ∨ s.aisle.run = none) → exec (.beamStuck b) s = .next faulted)
    ∧ (due → ¬ others → ∀ r, s.aisle.run = some r → exec (.beamStuck b) s = .next (Claims.runEnded faulted r s.now))
    ∧ (due → s.service.faultSlot = none → s.service.state ≠ .lockdown → ∃ t, exec (.beamStuck b) s = .next t
      ∧ t.aisle.beams = s.aisle.beams.set b { beam with stuck := true }
      ∧ t.service.flags.fault = true ∧ t.service.state = s.service.state
      ∧ (∃ r, t.service.faultSlot = some r ∧ r.kind = .beamStuck b ∧ r.time = s.now)
      ∧ ((∀ c, c ≠ b → ¬ Claims.counts s.aisle c) → t.aisle.run = none)
      ∧ ((∃ c, c ≠ b ∧ Claims.counts s.aisle c) → t.aisle.queues = s.aisle.queues ∧ t.journal = s.journal
          ∧ (t.aisle.run = none ↔ s.aisle.run = none))
      ∧ t.aisle.leaf = s.aisle.leaf ∧ t.contexts = s.contexts ∧ t.faces = s.faces)

/-- The level of every input pin, and a beam blocked for 60 s (R140 to R142, R157, R170). -/
def Obligations.InputsAreDebouncedAndBeamsStick : Prop :=
  Claims.InputChangesBeginOrDropAPendingChange ∧ Claims.LongBlockedBeamsBecomeStuck

/-- A limit's accepted assertion moves the leaf, OPENING or JAMMED to OPEN, CLOSING or JAMMED to CLOSED, and no other state; the closed
limit's accepted release in CLOSED is LEAF_FORCED, and no other release does anything more. The travel timer's end in OPENING or CLOSING
jams the leaf with LEAF_TIMEOUT. The close delay's end starts CLOSING, or CLOSED with the closed limit asserted (R157 to R162). That each
expiry does nothing before its time is the model's choice (log entry 9). -/
def Obligations.LimitsAndTimersMoveTheLeaf : Prop :=
  ∀ s : State, s.power = .running →
    let a := s.aisle
    let due := fun (start : Option Word) (life : Nat) => ∃ t, start = some t ∧ life ≤ (s.now - t).toNat
    let faulted := fun (u : Aisle) (k : FaultKind) => ({ s with aisle := u } : State).raiseFault k
    let openAs := fun (b : Bool) => { a with openLimit := { a.openLimit with accepted := b, pendingSince := none } }
    let closedAs := fun (b : Bool) => { a with closedLimit := { a.closedLimit with accepted := b, pendingSince := none } }
    (due a.openLimit.pendingSince 30 →
      (a.openLimit.accepted = false → exec (.limitDebounceExpiry .openLimit) s = .next { s with
        aisle := if a.leaf = .opening ∨ a.leaf = .jammed then Claims.reachesOpen (openAs true) s.now else openAs true })
      ∧ (a.openLimit.accepted = true → exec (.limitDebounceExpiry .openLimit) s = .next { s with aisle := openAs false }))
    ∧ (due a.closedLimit.pendingSince 30 →
      (a.closedLimit.accepted = false → exec (.limitDebounceExpiry .closedLimit) s = .next { s with
        aisle := if a.leaf = .closing ∨ a.leaf = .jammed then Claims.reachesClosed (closedAs true) s.now else closedAs true })
      ∧ (a.closedLimit.accepted = true → a.leaf ≠ .closed →
          exec (.limitDebounceExpiry .closedLimit) s = .next { s with aisle := closedAs false })
      ∧ (a.closedLimit.accepted = true → a.leaf = .closed →
          exec (.limitDebounceExpiry .closedLimit) s = .next (faulted (closedAs false) .leafForced)))
    ∧ (¬ due a.openLimit.pendingSince 30 → exec (.limitDebounceExpiry .openLimit) s = .next s)
    ∧ (¬ due a.closedLimit.pendingSince 30 → exec (.limitDebounceExpiry .closedLimit) s = .next s)
    ∧ (let late := (a.leaf = .opening ∨ a.leaf = .closing) ∧ due a.travelStart 1500;
      (late → exec .travelTimeout s = .next (faulted (Claims.leafAt a .jammed none none) .leafTimeout))
      ∧ (¬ late → exec .travelTimeout s = .next s))
    ∧ (let past := a.leaf = .opened ∧ due a.closeStart 800;
      (past → a.closedLimit.accepted = false →
        exec .closeDelayExpiry s = .next { s with aisle := Claims.leafAt a .closing (some s.now) none })
      ∧ (past → a.closedLimit.accepted = true →
        exec .closeDelayExpiry s = .next { s with aisle := Claims.reachesClosed a s.now })
      ∧ (¬ past → exec .closeDelayExpiry s = .next s))

/-- A fault that finds the slot empty fills it and raises FAULT, or in LOCKDOWN raises LOCKDOWN alone; one that finds it full in
IN_SERVICE, CLOSED or EMERGENCY becomes the lockdown cause: the service state is LOCKDOWN, the slot keeps its fault, LOCKDOWN and SERVICE
are raised, every grant is cancelled with its record, queue by queue, before those of the contexts that end, the leaf is FREE, and the faces meet a field-off request but from CLOSED; in STARTING it raises
FAULT and is not kept (R178, R155, R163, R172, R184; the order of that request and a context's end is free, log entry 4). -/
def Claims.SecondFaultLocksDown : Prop :=
  ∀ (s : State) (k : FaultKind),
    let t := s.raiseFault k
    let raised := fun (g : Flag) => { s.service with flags := s.service.flags.raise g }
    let full := s.service.faultSlot ≠ none
    (s.service.state = .lockdown → t = { s with service := raised .lockdown })
    ∧ (s.service.state = .starting → full → t = { s with service := raised .fault })
    ∧ (s.service.state ≠ .lockdown → ¬ full →
        t = { s with service := { raised .fault with faultSlot := some (s.faultRecord k) } })
    ∧ (s.service.state ≠ .lockdown → s.service.state ≠ .starting → full →
        t.service.state = .lockdown ∧ t.service.faultSlot = s.service.faultSlot
        ∧ t.service.lockdownCause = some (s.faultRecord k) ∧ t.service.flags.lockdown = true ∧ t.service.flags.service = true
        ∧ t.service.flags.fault = s.service.flags.fault ∧ t.aisle.leaf = .free
        ∧ (∀ e ∈ t.aisle.queues.entry ++ t.aisle.queues.exit, e.isGranted = false)
        ∧ Claims.endsTheTaps s t .outOfService
        ∧ Claims.facesFollow s t (fun u => if s.service.state = .closed then u else Claims.offAsked u)
        ∧ t.aisle.counters = s.aisle.counters ∧ t.now = s.now ∧ t.fare = s.fare ∧ t.check = s.check)

/-- What one context does when the service state enters EMERGENCY or LOCKDOWN, exactly: at rest nothing; in NAMING a refusal without a
record, STOP with the refuse tone; before SETTLE a REFUSED end with the reason `r`; past it only the reservation goes, which empties a
place of the queue and may release the lock (R48, R152, R156). A field-off request pending on the face is carried out (R3). -/
def Claims.ContextsActByTheirState : Prop :=
  ∀ (s : State) (f : Face) (r : Reason),
    let c := s.context f
    let u := s.face f
    let t := s.abortContext f r
    ((c.state = .idle ∨ c.state = .removalWait ∨ c.state = .refusedShown) → t = s)
    ∧ (c.state = .naming → u.state = .serving → t = { s with
        contexts := s.contexts.set f (Claims.contextAfter u { c with state := .refusedShown, indication := .stop })
        aisle := { s.aisle with tones := Claims.tonesAfter s f .refuse }
        faces := s.faces.set f (Claims.faceAfter u s.now false) })
    ∧ ((c.state = .reading ∨ c.state = .proving ∨ c.state = .holding ∨ c.state = .staging) → t = s.endRefused f r)
    ∧ ((c.state = .settling ∨ c.state = .confirming) → t = { s with
        aisle := Claims.placeGivenUp s f
        contexts := s.contexts.set f { c with reservation := if c.reservation = .held then .removed else c.reservation } })

/-- A GRANTED entry that reaches its expiry with no run of its direction in progress leaves its queue with an EXPIRED record and count,
an
emptied bidirectional aisle that is clear releases the lock, the close delay begins if the leaf is OPEN with no grant left and the aisle
clear, and nothing else changes; during such a run it is only marked deferred (R154, R156, R160). That the
command does nothing for a sequence that no queued entry has, for one whose entry is deferred already and before the expiry is the model's
choice (log entry 9). -/
def Claims.GrantsExpireOrAreDeferred : Prop :=
  ∀ (s : State) (d : Direction) (q : Word), s.power = .running →
    let expires := fun (e : QueueEntry) => ∃ start life, e.state = .granted q start life false ∧ life ≤ (s.now - start).toNat
    let runs := ∃ r, s.aisle.run = some r ∧ r.direction = (if d = .entry then .entry else .exit)
    ((∀ e ∈ s.aisle.queues.get d, ∀ start life, e.state = .granted q start life false → (s.now - start).toNat < life) →
      exec (.grantExpiry d q) s = .next s)
    ∧ (∀ before e after, s.aisle.queues.get d = before ++ e :: after → expires e → (∀ x ∈ before, ¬ expires x) →
      (runs → ∃ start life, e.state = .granted q start life false
        ∧ exec (.grantExpiry d q) s = .next { s with aisle := { s.aisle with
          queues := s.aisle.queues.set d (before ++ { e with state := .granted q start life true } :: after) } })
      ∧ (¬ runs →
        let left := s.aisle.queues.set d (before ++ after)
        let k := s.aisle.counters.get d
        exec (.grantExpiry d q) s = .next { s with
          aisle := { s.aisle with
            queues := left
            counters := s.aisle.counters.set d { k with expired := k.expired + 1 }
            lock := if s.aisle.mode = .bidirectional ∧ left.entry = [] ∧ left.exit = [] ∧ s.aisle.clear = true then .unlocked
              else s.aisle.lock
            closeStart := Claims.closeDelay s.aisle left s.now }
          journal :=
            { records := s.journal.records ++ [{
                sequence := s.journal.next, kind := .passage .expired, stamp := s.stamp, face := e.face
                fields := { RecordFields.blank with number := some e.number, reference := some q } }]
              next := Claims.nextAfter 1 s.journal.next }
          service := { s.service with flags := { s.service.flags with
            journal := s.service.flags.journal || [256, 192, 128, 64].contains s.freeSlots } } }))

/-- An alarm ends 3 s after its start (the passage alarm after its run's end, and not while the run goes on), an accept tone 120 ms and a
refuse tone 360 ms after it was asked for (R138, R149, R165). That the command does nothing earlier, with no alarm or with no tone is the
model's choice (log entry 9). -/
def Claims.AlarmsAndTonesEnd : Prop :=
  ∀ s : State, s.power = .running →
    (∀ t, s.aisle.passageAlarm = .since t → exec .passageAlarmEnd s = .next
      (if 3000 ≤ (s.now - t).toNat then { s with aisle := { s.aisle with passageAlarm := .silent } } else s))
    ∧ ((s.aisle.passageAlarm = .silent ∨ s.aisle.passageAlarm = .runInProgress) → exec .passageAlarmEnd s = .next s)
    ∧ (∀ t, s.aisle.watchAlarm = some t → exec .watchAlarmEnd s = .next
      (if 3000 ≤ (s.now - t).toNat then { s with aisle := { s.aisle with watchAlarm := none } } else s))
    ∧ (s.aisle.watchAlarm = none → exec .watchAlarmEnd s = .next s)
    ∧ (∀ f tone t, s.aisle.tones.get f = some (tone, t) → exec (.shortToneEnd f) s = .next
      (if (if tone = .accept then 120 else 360) ≤ (s.now - t).toNat then
        { s with aisle := { s.aisle with tones := s.aisle.tones.set f none } } else s))
    ∧ (∀ f, s.aisle.tones.get f = none → exec (.shortToneEnd f) s = .next s)

/-- What ends by its time in the aisle: grants, alarms and short tones (R138, R149, R154, R165). -/
def Obligations.GrantsAlarmsAndTonesEnd : Prop :=
  Claims.GrantsExpireOrAreDeferred ∧ Claims.AlarmsAndTonesEnd

/-- The emergency input's assertion, held for 30 ms, makes IN_SERVICE, CLOSED and LOCKDOWN EMERGENCY with SERVICE attention and the leaf
FREE, every grant cancelled with its record, every context acting by its state and, from CLOSED and LOCKDOWN, the faces by a field-on request; in EMERGENCY and
STARTING, and at a release, only the accepted state
changes (R48, R155, R170, R172, R184). That the command does nothing before 30 ms is the model's choice (log entry 9). -/
def Claims.EmergencyInputEntersEmergency : Prop :=
  ∀ s : State, s.power = .running →
    let u := s.service.emergency
    let due := ∃ t, u.pendingSince = some t ∧ 30 ≤ (s.now - t).toNat
    let accepted := fun (b : Bool) => ({ s with service := { s.service with
      emergency := { u with accepted := b, pendingSince := none } } } : State)
    (¬ due → exec .emergencyDebounceExpiry s = .next s)
    ∧ (due → u.accepted = true → exec .emergencyDebounceExpiry s = .next (accepted false))
    ∧ (due → u.accepted = false → (s.service.state = .emergency ∨ s.service.state = .starting) →
        exec .emergencyDebounceExpiry s = .next (accepted true))
    ∧ (due → u.accepted = false → s.service.state ≠ .emergency → s.service.state ≠ .starting →
        ∃ t, exec .emergencyDebounceExpiry s = .next t ∧ t.service.state = .emergency ∧ t.service.flags.service = true
          ∧ t.service.emergency = (accepted true).service.emergency ∧ t.aisle.leaf = .free
          ∧ t.service.faultSlot = s.service.faultSlot ∧ t.service.lockdownCause = s.service.lockdownCause
          ∧ (∀ e ∈ t.aisle.queues.entry ++ t.aisle.queues.exit, e.isGranted = false)
          ∧ Claims.endsTheTaps s t .emergency
          ∧ Claims.facesFollow s t (fun u => if s.service.state = .inService then u else Claims.onAsked u s.now))

/-- Faults, the second of which locks the part down, the emergency input, and what both make of the contexts (R48, R170, R172, R178). -/
def Obligations.FaultsAndTheEmergencyInputStopService : Prop :=
  Claims.SecondFaultLocksDown ∧ Claims.ContextsActByTheirState ∧ Claims.EmergencyInputEntersEmergency

/-- When the count within the minute reaches 60 000 the service minute advances; past minute 1 439 it is a rollover: the day adds 1, the
minute and the peak-day flag clear, released pairs of days below the new today minus 1 go, and unheld sightings older than the lifetime
go. A rollover past day 65 535 leaves the clock unset with SERVICE attention instead (R64, R86, R175). That the command does nothing
otherwise is the model's choice (log entry 9). -/
def Obligations.MinutesAndRolloversAdvanceTheClock : Prop :=
  ∀ s : State, s.power = .running →
    let k := s.service.clock
    let due := k.isSet = true ∧ 60000 ≤ k.ms
    let clock := fun (x : Clock) => { s.service with clock := x }
    let today := k.day.toNat + 1
    (¬ due → exec .minuteTick s = .next s)
    ∧ (due → k.minute.toNat < 1439 →
        exec .minuteTick s = .next { s with service := clock { k with ms := 0, minute := k.minute + 1 } })
    ∧ (due → 1439 ≤ k.minute.toNat → k.day = 65535 → exec .minuteTick s = .next { s with service :=
        { clock { isSet := false, day := 0, minute := 0, ms := 0, peakDay := false, rollover := k.rollover } with
          flags := s.service.flags.raise .service } })
    ∧ (due → 1439 ≤ k.minute.toNat → k.day ≠ 65535 → exec .minuteTick s = .next { s with
        service := clock { k with ms := 0, minute := 0, day := k.day + 1, peakDay := false }
        fare := { s.fare with released := s.fare.released.filter fun p => decide (today ≤ p.2.toNat + 1) }
        sightings := s.sightings.filter fun e => match e.hold, e.sighting with
          | .noHold, some x => decide (today ≤ x.day.toNat + s.setup.sightingLifetime)
          | _, _ => true })

/-! ### Fares -/

/-- Stage 7: the fare saturates at 65 535; a balance below the overdraft floor is INSUFFICIENT; else the fare result (R73, R79). -/
def Claims.exitAnswer (u : FareUnit) (k : FareClock) (c : CardImage) (f4 : Nat) (spend : Option Nat) : Except Reason FareResult :=
  let f := min f4 65535
  if c.balance.toInt - f < -(u.fares.floor.toNat : Int) then .error .insufficient
  else .ok
    { fare := BitVec.ofNat 16 f, balanceAfter := BitVec.ofInt 32 (c.balance.toInt - f)
      dayRecord := match spend with
        | some d => some (k.today, BitVec.ofNat 16 d)
        | none => none
      entry := none
      journey := some { station := k.station, day := k.today, minute := k.now, fare := BitVec.ofNat 16 f }
      entryStation := match c.entry with
        | some e => some e.station
        | none => none }

/-- The exit fare by its stages: Q for a card with no entry record or a stale one; 0 within the same-station grace; under a pass only
the overstay charge; else the band's base fare with peak percent and concession rounded once, less the transfer credit, within the daily
cap, plus the overstay charge, the day spend brought up to date (R66 to R73). -/
def Claims.ExitFareFollowsItsStages : Prop :=
  ∀ (u : FareUnit) (k : FareClock) (c : CardImage),
    let answer := Claims.exitAnswer u k c
    let q := u.fares.incompleteFare.toNat
    (c.entry = none → exitFare u k c = answer q none)
    ∧ ∀ e, c.entry = some e →
      let isStale := e.day.toNat + 1 < k.today.toNat
      let elapsed : Int := ((k.today.toNat : Int) - e.day.toNat) * 1440 + ((k.now.toNat : Int) - e.minute.toNat)
      let jm := elapsed.toNat
      let graced := e.station = k.station ∧ jm ≤ u.fares.grace.toNat
      let covered := ∃ p zi zo, c.pass = some p ∧ k.today.toNat ≤ p.lastDay.toNat
        ∧ u.zone e.station = some zi ∧ u.zone k.station = some zo
        ∧ p.zoneLow.toNat ≤ zi.toNat ∧ zi.toNat ≤ p.zoneHigh.toNat ∧ p.zoneLow.toNat ≤ zo.toNat ∧ zo.toNat ≤ p.zoneHigh.toNat
      let extra := if u.fares.overstayLimit.toNat < jm then u.fares.overstayCharge.toNat else 0
      let b := u.baseFare (u.band e.station k.station)
      let peaked := e.day = k.today ∧ k.peakDay = true
        ∧ ∃ w ∈ u.fares.windows.toList, w.1.toNat ≤ e.minute.toNat ∧ e.minute.toNat < w.2.toNat
      let d := u.classEntry c.cls
      let spend := if c.spendDay = k.today then c.daySpend.toNat else 0
      (isStale → exitFare u k c = answer q none)
      ∧ (¬ isStale → graced → exitFare u k c = answer 0 none)
      ∧ (¬ isStale → ¬ graced → covered → exitFare u k c = answer extra none)
      ∧ (¬ isStale → ¬ graced → ¬ covered → ∀ percent, (peaked → percent = u.fares.peakPercent.toNat) → (¬ peaked → percent = 100) →
          let s := u.fares.step.toNat
          let f1 := (b * percent * (100 - d.discount.toNat) + s * 5000) / (s * 10000) * s
          let f2 := if e.transferMark then f1 - u.fares.transferCredit.toNat else f1
          let f3 := if d.cap = 0 then f2 else min f2 (d.cap.toNat - spend)
          exitFare u k c = answer (f3 + extra) (some (min 65535 (spend + f3))))

/-- A journey's band is the matrix cell of its two zones, and band 15 when a station is not loaded; base fare and minimum travel minutes
are those loaded for the band (R57, R59, R60). Band 15 for a recorded station above 1 023 is the model's choice (log entry 48). -/
def Claims.BandsComeFromTheMatrix : Prop :=
  ∀ (u : FareUnit) (a b : Half),
    (∀ (ha : a.toNat < 1024) (hb : b.toNat < 1024),
      let za := u.stations[a.toNat].zone
      let zb := u.stations[b.toNat].zone
      u.stations[a.toNat].loaded = true → u.stations[b.toNat].loaded = true →
      ∀ (h : za.toNat < 32) (g : zb.toNat < 32), u.band a b = u.bands[za.toNat][zb.toNat])
    ∧ (∀ (ha : a.toNat < 1024), u.stations[a.toNat].loaded = false → u.band a b = 15 ∧ u.band b a = 15)
    ∧ (1024 ≤ a.toNat → u.band a b = 15 ∧ u.band b a = 15)
    ∧ (∀ h : (u.band a b).toNat < 16, u.minimumTravel a b = u.fares.minTravel[(u.band a b).toNat].toNat
        ∧ u.baseFare (u.band a b) = u.fares.base[(u.band a b).toNat].toNat)

/-- The entry charges: Q for an entry record that is neither stale nor a released station-day, else 0; below the floor INSUFFICIENT;
without a pass over this station's zone, below the minimum BELOW_ENTRY_MINIMUM; else the new entry record with the transfer mark when this
station's group is not 0, the newest journey ended today in that group, and from 0 to W minutes have passed (R75 to R79). -/
def Claims.EntryChargesAndTheirTests : Prop :=
  ∀ (u : FareUnit) (k : FareClock) (c : CardImage),
    let charged := ∃ e, c.entry = some e ∧ k.today.toNat ≤ e.day.toNat + 1 ∧ (e.station, e.day) ∉ u.released
    let covered := ∃ p z, c.pass = some p ∧ k.today.toNat ≤ p.lastDay.toNat ∧ u.zone k.station = some z
      ∧ p.zoneLow.toNat ≤ z.toNat ∧ z.toNat ≤ p.zoneHigh.toNat
    let transfers := ∃ j rest, c.history = j :: rest ∧ u.group k.station ≠ 0 ∧ u.group j.station = u.group k.station
      ∧ j.day = k.today ∧ j.minute.toNat ≤ k.now.toNat ∧ k.now.toNat - j.minute.toNat ≤ u.fares.transferWindow.toNat
    ∀ q : Half, (charged → q = u.fares.incompleteFare) → (¬ charged → q = 0) →
      let after : Int := c.balance.toInt - q.toNat
      (after < -(u.fares.floor.toNat : Int) → entryFare u k c = .error .insufficient)
      ∧ (-(u.fares.floor.toNat : Int) ≤ after → ¬ covered → after < u.fares.minEntry.toNat →
          entryFare u k c = .error .belowEntryMinimum)
      ∧ (-(u.fares.floor.toNat : Int) ≤ after → (covered ∨ (u.fares.minEntry.toNat : Int) ≤ after) → ∃ m : Bool,
          (m = true ↔ transfers) ∧ entryFare u k c = .ok
            { fare := q, balanceAfter := BitVec.ofInt 32 after, dayRecord := none
              entry := some { station := k.station, gate := k.gate, day := k.today, minute := k.now, transferMark := m }
              journey := none, entryStation := some k.station })

/-- The paid face asks for the exit fare, the street face for the entry charges (R36). -/
def Claims.FacesAskForTheirCharge : Prop :=
  ∀ (u : FareUnit) (k : FareClock) (c : CardImage),
    fareRequest u k .paid c = exitFare u k c ∧ fareRequest u k .street c = entryFare u k c

/-- The fare unit's charges: the exit fare by its stages, the bands they use, the entry charges, and the face that asks for each (R36, R57
to R60, R66 to R79). -/
def Obligations.FaresFollowTheirStages : Prop :=
  Claims.FacesAskForTheirCharge
    ∧ Claims.ExitFareFollowsItsStages
    ∧ Claims.BandsComeFromTheMatrix
    ∧ Claims.EntryChargesAndTheirTests

/-- For every accepted charge of a card whose balance passed the image check, the balance written is the old one less the fare and is at
least −F; the fare lies from 0 to 65 535; and with a class cap an exit leaves the day spend at most at the greater of the cap and what the
card held for today (R71, R79). -/
def Obligations.ChargesKeepFloorAndCap : Prop :=
  ∀ (u : FareUnit) (k : FareClock) (f : Face) (c : CardImage) (x : FareResult),
    -99999 ≤ c.balance.toInt → c.balance.toInt ≤ 999999 → fareRequest u k f c = .ok x →
    x.balanceAfter.toInt = c.balance.toInt - x.fare.toNat
    ∧ -(u.fares.floor.toNat : Int) ≤ x.balanceAfter.toInt
    ∧ ∀ day spend, x.dayRecord = some (day, spend) → day = k.today
        ∧ ((u.classEntry c.cls).cap ≠ 0 → spend.toNat ≤ max (u.classEntry c.cls).cap.toNat (spendToday k c))

/-! ### What every step keeps -/

/-- The free journal slots cover the obligations after every step if they did before: each admitted context has its two records, each
queued entry and each TORN tear entry its one, so no record is ever asked for without a free slot. With it go the links between faces,
contexts and tear table that it rests on (R183, R187 to R189). -/
def Obligations.JournalIsNeverOverfilled : Prop :=
  ∀ s t : State, s.JournalSafe → step s = .next t → t.JournalSafe

/-- The bounds of the tables and queues, with their order where they have one: 256 sightings of different numbers, 2 048 hotlist numbers
rising, the LOCAL order naming exactly the LOCAL ones, 32 ring messages, 16 released pairs of different values. -/
def Claims.TablesBounded (s : State) : Prop :=
  s.SightingsBounded ∧ s.HotlistOrdered ∧ s.LocalOrderExact ∧ s.RingQueueBounded ∧ s.ReleasedBounded

/-- Every step keeps the bounds of the tables and queues (R63, R81, R83, R94, R114). -/
def Obligations.TablesStayInTheirBounds : Prop :=
  ∀ s t : State, Claims.TablesBounded s → step s = .next t → Claims.TablesBounded t

/-- What holds of the aisle and the service state together: queues of at most 3; in a bidirectional aisle the lock of every direction with
an entry queued, so that at most one direction's queue holds entries; a one-way lock that holds its direction; a leaf that is FREE in
EMERGENCY and LOCKDOWN and nowhere else; a close delay and a CLOSING leaf only over a clear aisle; a fault held in LOCKDOWN. -/
def Claims.AisleFits (s : State) : Prop :=
  s.QueuesBounded ∧ s.OneDirectionQueued ∧ s.LockFitsMode ∧ s.LeafFitsService ∧ s.ClosingClear ∧ s.LockdownHoldsFault

/-- Every step keeps the aisle's queues, lock and leaf in agreement with its mode, its beams and the service state (R150, R156, R160,
R161, R163, R178). -/
def Obligations.AisleAndServiceStayInAgreement : Prop :=
  ∀ s t : State, Claims.AisleFits s → step s = .next t → Claims.AisleFits t

/-- What holds of the counts and values of fixed range: sequences are never 0, the overrun count is at most 255, the miss counts at most
3, the clock within its day and 0 while unset, the two fixed policies REFUSE. -/
def Claims.ValuesInRange (s : State) : Prop :=
  s.SequencesNonzero ∧ s.OverrunBounded ∧ s.MissesBounded ∧ s.ClockInDay ∧ s.UnsetClockZero ∧ s.FixedPolicies

/-- Every step keeps the counts and values within the ranges the manual gives them (R8, R112, R175, R183, R200). -/
def Obligations.ValuesStayInTheirRanges : Prop :=
  ∀ s t : State, Claims.ValuesInRange s → step s = .next t → Claims.ValuesInRange t

/-- All of these hold after reset, in the state with every block at its value after reset. That its inputs are at rest with the leaf shut
(log entry 5) and its retained store valid and empty (log entry 6) is the model's choice. -/
def Obligations.ResetMeetsEveryInvariant : Prop :=
  State.reset.JournalSafe ∧ Claims.TablesBounded State.reset ∧ Claims.AisleFits State.reset ∧ Claims.ValuesInRange State.reset

/-! ### Bytes and commands agree -/

/-- Multi-byte values go most significant byte first, marks are 0 or 1, and the check is the CRC-16 of R199: from 0xFFFF, each byte into the
upper 8 bits by exclusive-or, then 8 shifts to the left with 0x1021 for each 1 shifted out. A frame is the start byte, the length of kind
and body, the kind, the body and the check (R198, R199, R210). -/
def Claims.BytesGoMostSignificantFirst : Prop :=
  (∀ x : Half, halfBytes x = [x.extractLsb' 8 8, x.extractLsb' 0 8])
  ∧ (∀ x : Word, wordBytes x = [x.extractLsb' 24 8, x.extractLsb' 16 8, x.extractLsb' 8 8, x.extractLsb' 0 8])
  ∧ (∀ x : BitVec 64, longBytes x = [56, 48, 40, 32, 24, 16, 8, 0].map fun i => x.extractLsb' i 8)
  ∧ markByte false = 0 ∧ markByte true = 1
  ∧ crc16 [] = 0xFFFF
  ∧ (∀ (bs : List Byte) (b : Byte), crc16 (bs ++ [b])
      = Nat.repeat (fun r : Half => if r.getLsbD 15 then (r <<< 1) ^^^ 0x1021 else r <<< 1) 8 (crc16 bs ^^^ (b.zeroExtend 16 <<< 8)))
  ∧ (∀ (kind : Byte) (body : List Byte), frameBytes kind body
      = 0xA5 :: natHalf (body.length + 1) ++ kind :: body ++ halfBytes (crc16 (natHalf (body.length + 1) ++ kind :: body)))

/-- The codes of Table 26: each value's place, from 0, in the order given (R210). -/
def Claims.CodesFollowTable26 : Prop :=
  let upTo := fun (n : Nat) => (List.range n).map (BitVec.ofNat 8)
  [Result.done, .wrongState, .outOfRange, .full, .notFound, .unknownRequest].map resultByte = upTo 6
  ∧ [ServiceState.starting, .inService, .closed, .emergency, .lockdown].map (codeIn serviceStateList) = upTo 5
  ∧ [Face.street, .paid].map (codeIn faceList) = upTo 2 ∧ [Direction.entry, .exit].map (codeIn directionList) = upTo 2
  ∧ [CardStatus.active, .blocked].map (codeIn cardStatusList) = upTo 2
  ∧ [KeyState.empty, .active, .retired].map (codeIn keyStateList) = upTo 3
  ∧ [EvidenceKind.blocked, .hotlisted, .forged, .replay, .divergent, .concurrent, .impossible].map (codeIn evidenceList) = upTo 7
  ∧ [Policy.refuse, .refuseAndBlock, .flag].map (codeIn policyList) = upTo 3
  ∧ [Reason.aisleFault, .aisleBusy, .queueFull, .unknownKey, .keyRetired, .cardInvalid, .counterExhausted, .evidence, .insufficient,
      .belowEntryMinimum, .noTime, .watchDetain, .closed, .emergency, .outOfService, .writeFailed].map (codeIn reasonList) = upTo 16
  ∧ [TxOutcome.entered, .exited, .refused, .blockedCard, .abandoned, .torn, .recovered].map (codeIn txOutcomeList) = upTo 7
  ∧ [TearOutcome.void, .unresolved].map (codeIn tearOutcomeList) = upTo 2
  ∧ [PassageOutcome.used, .expired, .cancelled, .intrusion, .tailgate, .contraflow].map (codeIn passageOutcomeList) = upTo 6
  ∧ [AisleMode.entryOnly, .exitOnly, .bidirectional].map (codeIn aisleModeList) = upTo 3
  ∧ [Polarity.blockedHigh, .blockedLow].map (codeIn polarityList) = upTo 2
  ∧ [WatchField.cardNumber, .cardClass, .counter, .balanceAfter, .fare, .entryStation].map (codeIn watchFieldList) = upTo 6
  ∧ [Sense.inside, .outside].map (codeIn senseList) = upTo 2
  ∧ [KindFilter.entry, .exit, .any].map (codeIn kindFilterList) = upTo 3
  ∧ [Combine.and, .or].map (codeIn combineList) = upTo 2
  ∧ [WatchAction.report, .detain, .alarm].map (codeIn watchActionList) = upTo 3
  ∧ [FaceState.off, .settling, .polling, .serving, .watching, .disabled].map (codeIn faceStateList) = upTo 6
  ∧ [LastOutcome.noOutcome, .twoCards].map (codeIn lastOutcomeList) = upTo 2
  ∧ [CtxState.idle, .naming, .admitted, .reading, .proving, .holding, .deciding, .staging, .settling, .confirming, .removalWait,
      .refusedShown].map (codeIn ctxStateList) = upTo 12
  ∧ [LeafState.closed, .opening, .opened, .closing, .free, .jammed].map (codeIn leafStateList) = upTo 6
  ∧ [RingState.up, .isolated].map (codeIn ringStateList) = upTo 2 ∧ [Lock.unlocked, .entry, .exit].map (codeIn lockList) = upTo 3
  ∧ [RunDirection.entry, .exit, .unknown].map (codeIn runDirectionList) = upTo 3
  ∧ [TearKind.entry, .exit, .block].map (codeIn tearKindList) = upTo 3
  ∧ [HotOrigin.host, .localAdd].map (codeIn hotOriginList) = upTo 2
  ∧ [SightingSource.localWrite, .peer, .remote].map (codeIn sightingSourceList) = upTo 3

/-- The kind bytes of the requests, 0x01 to 0x20, each naming its command; SET WATCH names the common settings by target 255, else a unit;
every other kind byte is an unknown request (R128, R202, Table 27). -/
def Claims.KindsNameTheirCommands : Prop :=
  ∀ b : List Byte,
    ((List.range 32).map fun n => requestCommand (BitVec.ofNat 8 (n + 1)) b)
      = [.identify b, .setClock b, .setAisle b, .loadStations b, .loadBands b, .loadFares b, .loadClasses b, .loadKey b, .setPolicy b,
          .configDone b, .setService b, .emergency b, .resume b, .releaseDays b, .hotlistAdd b, .hotlistRemove b, .hotlistRange b,
          .hotlistQuery b, .pushSighting b, if byteAt b 0 = 255 then .setWatchCommon b else .setWatchUnit b, .watchStatus b,
          .clearWatch b, .attention b, .setAttentionMask b, .readFault b, .clearFault b, .readJournal b, .freeJournal b,
          .readCounters b, .aisleStatus b, .tearList b, .reset b]
    ∧ ∀ kind : Byte, (kind = 0 ∨ 32 < kind.toNat) → requestCommand kind b = .unknownRequest kind

/-- A link frame of any kind and any body of at most 1 024 bytes, sent byte by byte to a hunting collector, is read as its start and then
as the command of that kind and body, and leaves the collector hunting for what follows (R198, R199). -/
def Claims.FramesAreRead : Prop :=
  ∀ (kind : Byte) (body : List Byte) (later : List LineByte), body.length ≤ 1024 →
    linkCommands .hunting ((frameBytes kind body).map LineByte.plain ++ later)
      = .frameStart :: requestCommand kind body :: linkCommands .hunting later

/-- The bytes after a start byte that leave the collector collecting: fewer than two, or a length of 1 to 1 025 and fewer bytes than it and
the check need (R198). -/
def Claims.unfinished (got : List Byte) : Prop :=
  got.length < 2 ∨ (1 ≤ (halfAt got 0).toNat ∧ (halfAt got 0).toNat ≤ 1025 ∧ got.length < (halfAt got 0).toNat + 4)

/-- What becomes of damaged frames. Complete with two check bytes that are not the CRC-16 of length, kind and body: a check mismatch of
that kind. A length of 0 or above 1 025, or a failed stop bit: a framing error at that byte. A byte that comes more than 10 ms after the one
before it: the gap's framing error, and the byte itself is looked at as hunting does. After each the collector hunts, and hunting passes
over every byte but a 0xA5 with a good stop bit (R198, R199). That a length above 1 025 is seen at its second byte is the model's choice
(log entry 54). -/
def Claims.DamagedFramesAreFound : Prop :=
  let sent := fun (bytes : List Byte) (later : List LineByte) => linkCommands .hunting (bytes.map LineByte.plain ++ later)
  (∀ (kind : Byte) (body : List Byte) (c : Half) (later : List LineByte), body.length ≤ 1024 →
    let checked := natHalf (body.length + 1) ++ kind :: body
    c ≠ crc16 checked →
    sent (0xA5 :: checked ++ halfBytes c) later = .frameStart :: .checkMismatch kind :: linkCommands .hunting later)
  ∧ (∀ (n : Half) (later : List LineByte), (n.toNat = 0 ∨ 1025 < n.toNat) →
      sent (0xA5 :: halfBytes n) later = .frameStart :: .framingError :: linkCommands .hunting later)
  ∧ (∀ (got : List Byte) (b : LineByte) (later : List LineByte), Claims.unfinished got →
      (b.late = false → b.stopGood = false →
        sent (0xA5 :: got) (b :: later) = .frameStart :: .framingError :: linkCommands .hunting later)
      ∧ (b.late = true →
        sent (0xA5 :: got) (b :: later) = .frameStart :: .frameGapTimeout :: linkCommands .hunting (b :: later)))
  ∧ (∀ (b : LineByte) (later : List LineByte), (b.byte ≠ 0xA5 ∨ b.stopGood = false) →
      linkCommands .hunting (b :: later) = linkCommands .hunting later)

/-- Bytes, codes and frames: what each value is sent as, that a frame is read as the command of its kind and body, and a damaged one as its
damage (R198, R199, R210). That linkCommands reads the bytes, a whole frame is one command and a gap is seen at the byte that comes late is
the model's choice (log entry 11). -/
def Obligations.FramesAreReadAsTheirCommands : Prop :=
  Claims.BytesGoMostSignificantFirst ∧ Claims.CodesFollowTable26 ∧ Claims.KindsNameTheirCommands ∧ Claims.FramesAreRead
    ∧ Claims.DamagedFramesAreFound

/-- What becomes of bad ring messages: a kind byte without a code; a message of its kind's length (18, 28, 16 or 6 bytes) whose two check
bytes are not the CRC-16 of the bytes from its kind to its last field; a RELEASE whose outcome byte, an ALERT whose evidence byte has no
code. Each is a bad ring message, and reading goes on with the byte after its start byte. A byte other than 0x5A where a message could start
is passed over (R94, R211). -/
def Claims.BadRingMessagesAreFound : Prop :=
  let bad := fun (body : List Byte) (c : Half) (later : List Byte) =>
    ringCommands (0x5A :: body ++ halfBytes c ++ later) = .badRingMessage :: ringCommands (body ++ halfBytes c ++ later)
  (∀ (kind : Byte) (later : List Byte), 3 < kind.toNat →
    ringCommands (0x5A :: kind :: later) = .badRingMessage :: ringCommands (kind :: later))
  ∧ (∀ (body : List Byte) (c : Half) (later : List Byte),
      ((byteAt body 0 = 0 ∧ body.length = 15) ∨ (byteAt body 0 = 1 ∧ body.length = 25)
        ∨ (byteAt body 0 = 2 ∧ body.length = 13) ∨ (byteAt body 0 = 3 ∧ body.length = 3)) →
      (c ≠ crc16 body → bad body c later)
      ∧ (byteAt body 0 = 1 → 2 < (byteAt body 11).toNat → bad body c later)
      ∧ (byteAt body 0 = 2 → 6 < (byteAt body 11).toNat → bad body c later))
  ∧ (∀ (b : Byte) (later : List Byte), b ≠ 0x5A → ringCommands (b :: later) = ringCommands later)

/-- A ring message put on ring-out is read at the next part's ring-in as the command of that message, whatever its values, and the bytes
that follow are read after it; the marks and directions this part sends are read as it meant them. Each message is sent in Table 30's layout: start byte, kind, origin, hop, fields and check. A bad message is found and passed over (R92,
R94, R211). That a DROPPED
or UNCERTAIN RELEASE has 13 zeros after its outcome is read from the message length (log entry 44). That ringCommands reads the
bytes (log entry 11) and a whole message is one command that carries its fields as sent (log entry 22) is the model's choice. -/
def Obligations.RingMessagesAreReadAsSent : Prop :=
  (∀ (m : RingMessage) (later : List Byte), ringCommands (ringBytes m ++ later) = m.command :: ringCommands later)
  ∧ (let sent := fun (m : RingMessage) (bytes : List Byte) => ringBytes m = 0x5A :: bytes ++ halfBytes (crc16 bytes)
    (∀ o h n c x, sent (.hold o h n c x) ([0, o, h] ++ longBytes n ++ halfBytes c ++ [x.mark, x.gate]))
    ∧ (∀ o h n c w station day minute d, sent (.release o h n (.committed c w station day minute d)) ([1, o, h] ++ longBytes n
        ++ [0] ++ halfBytes c ++ wordBytes w ++ halfBytes station ++ halfBytes day ++ halfBytes minute ++ [d]))
    ∧ (∀ o h n, sent (.release o h n (.dropped 0)) ([1, o, h] ++ longBytes n ++ [1] ++ List.replicate 13 0))
    ∧ (∀ o h n, sent (.release o h n (.uncertain 0)) ([1, o, h] ++ longBytes n ++ [2] ++ List.replicate 13 0))
    ∧ (∀ o h n k b, sent (.alert o h n k b) ([2, o, h] ++ longBytes n ++ [codeIn evidenceList k, b]))
    ∧ (∀ o h, sent (.census o h) [3, o, h]))
  ∧ (∀ b : Bool, ringMark (markByte b) = b) ∧ (∀ d : Direction, ringDirection (codeIn directionList d) = d)
  ∧ Claims.BadRingMessagesAreFound

/-- A card image of at most 3 journeys is staged as the 64 bytes of Table 29, absent items and history slots beyond the count as zeros, and
is read from them as it was; its number, counter and chain word are read from their places in them before the image is checked (11.4,
R14). -/
def Obligations.CardImagesAreReadAsStaged : Prop :=
  ∀ c : CardImage, c.history.length ≤ 3 →
    c.toBytes = longBytes c.number ++ [c.cls, c.generation, if c.status = .active then 0 else 1] ++ wordBytes c.balance
      ++ halfBytes c.counter ++ wordBytes c.chain ++ halfBytes c.spendDay ++ halfBytes c.daySpend
      ++ (match c.entry with
        | some e => 1 :: halfBytes e.station ++ [e.gate] ++ halfBytes e.day ++ halfBytes e.minute ++ [markByte e.transferMark]
        | none => List.replicate 9 0)
      ++ [BitVec.ofNat 8 c.history.length]
      ++ c.history.flatMap (fun j => halfBytes j.station ++ halfBytes j.day ++ halfBytes j.minute ++ halfBytes j.fare)
      ++ List.replicate (24 - 8 * c.history.length) 0
      ++ (match c.pass with
        | some p => [1, p.zoneLow, p.zoneHigh] ++ halfBytes p.lastDay
        | none => List.replicate 5 0)
    ∧ c.toBytes.length = 64 ∧ CardImage.ofBytes c.toBytes = some c
    ∧ imageNumber c.toBytes = c.number ∧ imageCounter c.toBytes = c.counter ∧ imageChain c.toBytes = c.chain

/-! ### Rules of the whole part -/

/-- The service state changes by its commands and causes and no others: to IN_SERVICE by CONFIG DONE from STARTING, SET SERVICE from
CLOSED, RESUME from EMERGENCY or LOCKDOWN; to CLOSED by SET SERVICE from IN_SERVICE; to EMERGENCY by CONFIG DONE from STARTING, and by the
EMERGENCY request or the emergency input from any other; to LOCKDOWN by a fault that finds the slot full, handed in by a face whose third
poll in a row died, by the travel timer, by the closed limit's release or by a stuck beam; to STARTING by a reset (R167, R177, R178). -/
def Obligations.ServiceStateChangesOnlyAsListed : Prop :=
  ∀ (c : Instr) (s t : State), exec c s = .next t → t.service.state ≠ s.service.state →
    match t.service.state with
    | .inService => (s.service.state = .starting ∧ c = .configDone []) ∨ (s.service.state = .closed ∧ c = .setService [1])
        ∨ ((s.service.state = .emergency ∨ s.service.state = .lockdown) ∧ c = .resume [])
    | .closed => s.service.state = .inService ∧ c = .setService [2]
    | .emergency => (s.service.state = .starting ∧ c = .configDone [])
        ∨ ((s.service.state = .inService ∨ s.service.state = .closed ∨ s.service.state = .lockdown)
          ∧ (c = .emergency [] ∨ c = .emergencyDebounceExpiry))
    | .lockdown => (s.service.state = .inService ∨ s.service.state = .closed ∨ s.service.state = .emergency)
        ∧ s.service.faultSlot ≠ none
        ∧ ((∃ f p, c = .wakeTimeout f ∧ (s.face f).poll = some p ∧ p.second = true
            ∧ 3 ≤ (if p.responded then (s.face f).missCount else (s.face f).missCount + 1))
          ∨ (c = .travelTimeout ∧ (s.aisle.leaf = .opening ∨ s.aisle.leaf = .closing))
          ∨ (c = .limitDebounceExpiry .closedLimit ∧ s.aisle.leaf = .closed ∧ s.aisle.closedLimit.accepted = true)
          ∨ ∃ b, c = .beamStuck b ∧ Claims.counts s.aisle b)
    | .starting => (∃ b, c = .powerOn b) ∨ (c = .replySent ∧ s.link.resetPending = true)

/-- No STAGE is begun but in IN_SERVICE, and what it stages is the image its context holds: 64 bytes whose counter is one more than the
counter read from the card, sent with that counter (R37). -/
def Obligations.StagesBeginOnlyInService : Prop :=
  ∀ (c : Instr) (s t : State) (f : Face) (e : Exchange) (image : List Byte) (n : Half),
    exec c s = .next t → (t.face f).exchange = some e → e.command = .stage image n →
    (∀ x, (s.face f).exchange = some x → x.command ≠ .stage image n) →
    t.service.state = .inService
    ∧ ∃ w img, (t.context f).staged = some w ∧ (t.context f).image = some img ∧ image = w.toBytes ∧ n = w.counter
        ∧ image.length = 64 ∧ w.counter = img.counter + 1 ∧ (t.context f).state = .staging

/-- Records leave the journal only by FREE JOURNAL and by a power-on that finds the store invalid; after every other command the records
held before stand, in order, at the head of the journal, with whatever the command wrote behind them (R184, R191, R195). -/
def Obligations.RecordsLeaveOnlyWhenFreedOrLost : Prop :=
  ∀ (c : Instr) (s t : State), exec c s = .next t →
    (∀ body, c ≠ .freeJournal body) → (∀ b, c = .powerOn b → s.storeKept = true ∧ b = true) →
    ∃ new, t.journal.records = s.journal.records ++ new
end

