-- ==== Sys2Proof/Laws/State.lean ====
section
/-! SUPPORT. One lemma per field per update of State, each true by rfl, and the reads of what was just written. -/

namespace Sys2Proof.Machine

/-! ### Per face, per direction, per beam -/

@[simp] theorem PerFace.get_set {α : Type} (p : PerFace α) (f : Face) (x : α) : (p.set f x).get f = x := by cases f <;> rfl

@[simp] theorem PerFace.get_set_other {α : Type} (p : PerFace α) (f : Face) (x : α) :
    (p.set f x).get f.other = p.get f.other := by cases f <;> rfl

@[simp] theorem PerFace.get_other_set {α : Type} (p : PerFace α) (f : Face) (x : α) :
    (p.set f.other x).get f = p.get f := by cases f <;> rfl

@[simp] theorem PerFace.set_set {α : Type} (p : PerFace α) (f : Face) (x y : α) : (p.set f x).set f y = p.set f y := by
  cases f <;> rfl

@[simp] theorem PerFace.set_get {α : Type} (p : PerFace α) (f : Face) : p.set f (p.get f) = p := by cases f <;> rfl

theorem PerFace.get_set_ne {α : Type} (p : PerFace α) {f g : Face} (x : α) (h : g ≠ f) : (p.set f x).get g = p.get g := by
  cases f <;> cases g <;> first | rfl | exact absurd rfl h

@[simp] theorem PerDirection.get_set {α : Type} (p : PerDirection α) (d : Direction) (x : α) : (p.set d x).get d = x := by
  cases d <;> rfl

theorem PerDirection.get_set_ne {α : Type} (p : PerDirection α) {d e : Direction} (x : α) (h : e ≠ d) :
    (p.set d x).get e = p.get e := by cases d <;> cases e <;> first | rfl | exact absurd rfl h

@[simp] theorem PerBeam.get_set {α : Type} (p : PerBeam α) (b : Beam) (x : α) : (p.set b x).get b = x := by cases b <;> rfl

theorem PerBeam.get_set_ne {α : Type} (p : PerBeam α) {b c : Beam} (x : α) (h : c ≠ b) : (p.set b x).get c = p.get c := by
  cases b <;> cases c <;> first | rfl | exact absurd rfl h

@[simp] theorem Face.other_other (f : Face) : f.other.other = f := by cases f <;> rfl

theorem Face.eq_or_other (f g : Face) : g = f ∨ g = f.other := by cases f <;> cases g <;> decide

/-! ### State.setLink -/

@[simp] theorem State.setLink_pending (s : State) (l : Link) : (s.setLink l).pending = s.pending := rfl
@[simp] theorem State.setLink_freeCount (s : State) (l : Link) : (s.setLink l).freeCount = s.freeCount := rfl
@[simp] theorem State.setLink_power (s : State) (l : Link) : (s.setLink l).power = s.power := rfl
@[simp] theorem State.setLink_storeKept (s : State) (l : Link) : (s.setLink l).storeKept = s.storeKept := rfl
@[simp] theorem State.setLink_now (s : State) (l : Link) : (s.setLink l).now = s.now := rfl
@[simp] theorem State.setLink_link (s : State) (l : Link) : (s.setLink l).link = l := rfl
@[simp] theorem State.setLink_faces (s : State) (l : Link) : (s.setLink l).faces = s.faces := rfl
@[simp] theorem State.setLink_contexts (s : State) (l : Link) : (s.setLink l).contexts = s.contexts := rfl
@[simp] theorem State.setLink_fare (s : State) (l : Link) : (s.setLink l).fare = s.fare := rfl
@[simp] theorem State.setLink_check (s : State) (l : Link) : (s.setLink l).check = s.check := rfl
@[simp] theorem State.setLink_sightings (s : State) (l : Link) : (s.setLink l).sightings = s.sightings := rfl
@[simp] theorem State.setLink_hotlist (s : State) (l : Link) : (s.setLink l).hotlist = s.hotlist := rfl
@[simp] theorem State.setLink_tears (s : State) (l : Link) : (s.setLink l).tears = s.tears := rfl
@[simp] theorem State.setLink_journal (s : State) (l : Link) : (s.setLink l).journal = s.journal := rfl
@[simp] theorem State.setLink_ring (s : State) (l : Link) : (s.setLink l).ring = s.ring := rfl
@[simp] theorem State.setLink_watch (s : State) (l : Link) : (s.setLink l).watch = s.watch := rfl
@[simp] theorem State.setLink_aisle (s : State) (l : Link) : (s.setLink l).aisle = s.aisle := rfl
@[simp] theorem State.setLink_setup (s : State) (l : Link) : (s.setLink l).setup = s.setup := rfl
@[simp] theorem State.setLink_service (s : State) (l : Link) : (s.setLink l).service = s.service := rfl

/-! ### State.setAisle -/

@[simp] theorem State.setAisle_pending (s : State) (a : Aisle) : (s.setAisle a).pending = s.pending := rfl
@[simp] theorem State.setAisle_freeCount (s : State) (a : Aisle) : (s.setAisle a).freeCount = s.freeCount := rfl
@[simp] theorem State.setAisle_power (s : State) (a : Aisle) : (s.setAisle a).power = s.power := rfl
@[simp] theorem State.setAisle_storeKept (s : State) (a : Aisle) : (s.setAisle a).storeKept = s.storeKept := rfl
@[simp] theorem State.setAisle_now (s : State) (a : Aisle) : (s.setAisle a).now = s.now := rfl
@[simp] theorem State.setAisle_link (s : State) (a : Aisle) : (s.setAisle a).link = s.link := rfl
@[simp] theorem State.setAisle_faces (s : State) (a : Aisle) : (s.setAisle a).faces = s.faces := rfl
@[simp] theorem State.setAisle_contexts (s : State) (a : Aisle) : (s.setAisle a).contexts = s.contexts := rfl
@[simp] theorem State.setAisle_fare (s : State) (a : Aisle) : (s.setAisle a).fare = s.fare := rfl
@[simp] theorem State.setAisle_check (s : State) (a : Aisle) : (s.setAisle a).check = s.check := rfl
@[simp] theorem State.setAisle_sightings (s : State) (a : Aisle) : (s.setAisle a).sightings = s.sightings := rfl
@[simp] theorem State.setAisle_hotlist (s : State) (a : Aisle) : (s.setAisle a).hotlist = s.hotlist := rfl
@[simp] theorem State.setAisle_tears (s : State) (a : Aisle) : (s.setAisle a).tears = s.tears := rfl
@[simp] theorem State.setAisle_journal (s : State) (a : Aisle) : (s.setAisle a).journal = s.journal := rfl
@[simp] theorem State.setAisle_ring (s : State) (a : Aisle) : (s.setAisle a).ring = s.ring := rfl
@[simp] theorem State.setAisle_watch (s : State) (a : Aisle) : (s.setAisle a).watch = s.watch := rfl
@[simp] theorem State.setAisle_aisle (s : State) (a : Aisle) : (s.setAisle a).aisle = a := rfl
@[simp] theorem State.setAisle_setup (s : State) (a : Aisle) : (s.setAisle a).setup = s.setup := rfl
@[simp] theorem State.setAisle_service (s : State) (a : Aisle) : (s.setAisle a).service = s.service := rfl

/-! ### State.setService -/

@[simp] theorem State.setService_pending (s : State) (v : Service) : (s.setService v).pending = s.pending := rfl
@[simp] theorem State.setService_freeCount (s : State) (v : Service) : (s.setService v).freeCount = s.freeCount := rfl
@[simp] theorem State.setService_power (s : State) (v : Service) : (s.setService v).power = s.power := rfl
@[simp] theorem State.setService_storeKept (s : State) (v : Service) : (s.setService v).storeKept = s.storeKept := rfl
@[simp] theorem State.setService_now (s : State) (v : Service) : (s.setService v).now = s.now := rfl
@[simp] theorem State.setService_link (s : State) (v : Service) : (s.setService v).link = s.link := rfl
@[simp] theorem State.setService_faces (s : State) (v : Service) : (s.setService v).faces = s.faces := rfl
@[simp] theorem State.setService_contexts (s : State) (v : Service) : (s.setService v).contexts = s.contexts := rfl
@[simp] theorem State.setService_fare (s : State) (v : Service) : (s.setService v).fare = s.fare := rfl
@[simp] theorem State.setService_check (s : State) (v : Service) : (s.setService v).check = s.check := rfl
@[simp] theorem State.setService_sightings (s : State) (v : Service) : (s.setService v).sightings = s.sightings := rfl
@[simp] theorem State.setService_hotlist (s : State) (v : Service) : (s.setService v).hotlist = s.hotlist := rfl
@[simp] theorem State.setService_tears (s : State) (v : Service) : (s.setService v).tears = s.tears := rfl
@[simp] theorem State.setService_journal (s : State) (v : Service) : (s.setService v).journal = s.journal := rfl
@[simp] theorem State.setService_ring (s : State) (v : Service) : (s.setService v).ring = s.ring := rfl
@[simp] theorem State.setService_watch (s : State) (v : Service) : (s.setService v).watch = s.watch := rfl
@[simp] theorem State.setService_aisle (s : State) (v : Service) : (s.setService v).aisle = s.aisle := rfl
@[simp] theorem State.setService_setup (s : State) (v : Service) : (s.setService v).setup = s.setup := rfl
@[simp] theorem State.setService_service (s : State) (v : Service) : (s.setService v).service = v := rfl

/-! ### State.setRing -/

@[simp] theorem State.setRing_pending (s : State) (r : Ring) : (s.setRing r).pending = s.pending := rfl
@[simp] theorem State.setRing_freeCount (s : State) (r : Ring) : (s.setRing r).freeCount = s.freeCount := rfl
@[simp] theorem State.setRing_power (s : State) (r : Ring) : (s.setRing r).power = s.power := rfl
@[simp] theorem State.setRing_storeKept (s : State) (r : Ring) : (s.setRing r).storeKept = s.storeKept := rfl
@[simp] theorem State.setRing_now (s : State) (r : Ring) : (s.setRing r).now = s.now := rfl
@[simp] theorem State.setRing_link (s : State) (r : Ring) : (s.setRing r).link = s.link := rfl
@[simp] theorem State.setRing_faces (s : State) (r : Ring) : (s.setRing r).faces = s.faces := rfl
@[simp] theorem State.setRing_contexts (s : State) (r : Ring) : (s.setRing r).contexts = s.contexts := rfl
@[simp] theorem State.setRing_fare (s : State) (r : Ring) : (s.setRing r).fare = s.fare := rfl
@[simp] theorem State.setRing_check (s : State) (r : Ring) : (s.setRing r).check = s.check := rfl
@[simp] theorem State.setRing_sightings (s : State) (r : Ring) : (s.setRing r).sightings = s.sightings := rfl
@[simp] theorem State.setRing_hotlist (s : State) (r : Ring) : (s.setRing r).hotlist = s.hotlist := rfl
@[simp] theorem State.setRing_tears (s : State) (r : Ring) : (s.setRing r).tears = s.tears := rfl
@[simp] theorem State.setRing_journal (s : State) (r : Ring) : (s.setRing r).journal = s.journal := rfl
@[simp] theorem State.setRing_ring (s : State) (r : Ring) : (s.setRing r).ring = r := rfl
@[simp] theorem State.setRing_watch (s : State) (r : Ring) : (s.setRing r).watch = s.watch := rfl
@[simp] theorem State.setRing_aisle (s : State) (r : Ring) : (s.setRing r).aisle = s.aisle := rfl
@[simp] theorem State.setRing_setup (s : State) (r : Ring) : (s.setRing r).setup = s.setup := rfl
@[simp] theorem State.setRing_service (s : State) (r : Ring) : (s.setRing r).service = s.service := rfl

/-! ### State.setFare -/

@[simp] theorem State.setFare_pending (s : State) (u : FareUnit) : (s.setFare u).pending = s.pending := rfl
@[simp] theorem State.setFare_freeCount (s : State) (u : FareUnit) : (s.setFare u).freeCount = s.freeCount := rfl
@[simp] theorem State.setFare_power (s : State) (u : FareUnit) : (s.setFare u).power = s.power := rfl
@[simp] theorem State.setFare_storeKept (s : State) (u : FareUnit) : (s.setFare u).storeKept = s.storeKept := rfl
@[simp] theorem State.setFare_now (s : State) (u : FareUnit) : (s.setFare u).now = s.now := rfl
@[simp] theorem State.setFare_link (s : State) (u : FareUnit) : (s.setFare u).link = s.link := rfl
@[simp] theorem State.setFare_faces (s : State) (u : FareUnit) : (s.setFare u).faces = s.faces := rfl
@[simp] theorem State.setFare_contexts (s : State) (u : FareUnit) : (s.setFare u).contexts = s.contexts := rfl
@[simp] theorem State.setFare_fare (s : State) (u : FareUnit) : (s.setFare u).fare = u := rfl
@[simp] theorem State.setFare_check (s : State) (u : FareUnit) : (s.setFare u).check = s.check := rfl
@[simp] theorem State.setFare_sightings (s : State) (u : FareUnit) : (s.setFare u).sightings = s.sightings := rfl
@[simp] theorem State.setFare_hotlist (s : State) (u : FareUnit) : (s.setFare u).hotlist = s.hotlist := rfl
@[simp] theorem State.setFare_tears (s : State) (u : FareUnit) : (s.setFare u).tears = s.tears := rfl
@[simp] theorem State.setFare_journal (s : State) (u : FareUnit) : (s.setFare u).journal = s.journal := rfl
@[simp] theorem State.setFare_ring (s : State) (u : FareUnit) : (s.setFare u).ring = s.ring := rfl
@[simp] theorem State.setFare_watch (s : State) (u : FareUnit) : (s.setFare u).watch = s.watch := rfl
@[simp] theorem State.setFare_aisle (s : State) (u : FareUnit) : (s.setFare u).aisle = s.aisle := rfl
@[simp] theorem State.setFare_setup (s : State) (u : FareUnit) : (s.setFare u).setup = s.setup := rfl
@[simp] theorem State.setFare_service (s : State) (u : FareUnit) : (s.setFare u).service = s.service := rfl

/-! ### State.setCheck -/

@[simp] theorem State.setCheck_pending (s : State) (c : CardCheck) : (s.setCheck c).pending = s.pending := rfl
@[simp] theorem State.setCheck_freeCount (s : State) (c : CardCheck) : (s.setCheck c).freeCount = s.freeCount := rfl
@[simp] theorem State.setCheck_power (s : State) (c : CardCheck) : (s.setCheck c).power = s.power := rfl
@[simp] theorem State.setCheck_storeKept (s : State) (c : CardCheck) : (s.setCheck c).storeKept = s.storeKept := rfl
@[simp] theorem State.setCheck_now (s : State) (c : CardCheck) : (s.setCheck c).now = s.now := rfl
@[simp] theorem State.setCheck_link (s : State) (c : CardCheck) : (s.setCheck c).link = s.link := rfl
@[simp] theorem State.setCheck_faces (s : State) (c : CardCheck) : (s.setCheck c).faces = s.faces := rfl
@[simp] theorem State.setCheck_contexts (s : State) (c : CardCheck) : (s.setCheck c).contexts = s.contexts := rfl
@[simp] theorem State.setCheck_fare (s : State) (c : CardCheck) : (s.setCheck c).fare = s.fare := rfl
@[simp] theorem State.setCheck_check (s : State) (c : CardCheck) : (s.setCheck c).check = c := rfl
@[simp] theorem State.setCheck_sightings (s : State) (c : CardCheck) : (s.setCheck c).sightings = s.sightings := rfl
@[simp] theorem State.setCheck_hotlist (s : State) (c : CardCheck) : (s.setCheck c).hotlist = s.hotlist := rfl
@[simp] theorem State.setCheck_tears (s : State) (c : CardCheck) : (s.setCheck c).tears = s.tears := rfl
@[simp] theorem State.setCheck_journal (s : State) (c : CardCheck) : (s.setCheck c).journal = s.journal := rfl
@[simp] theorem State.setCheck_ring (s : State) (c : CardCheck) : (s.setCheck c).ring = s.ring := rfl
@[simp] theorem State.setCheck_watch (s : State) (c : CardCheck) : (s.setCheck c).watch = s.watch := rfl
@[simp] theorem State.setCheck_aisle (s : State) (c : CardCheck) : (s.setCheck c).aisle = s.aisle := rfl
@[simp] theorem State.setCheck_setup (s : State) (c : CardCheck) : (s.setCheck c).setup = s.setup := rfl
@[simp] theorem State.setCheck_service (s : State) (c : CardCheck) : (s.setCheck c).service = s.service := rfl

/-! ### State.setHotlist -/

@[simp] theorem State.setHotlist_pending (s : State) (h : Hotlist) : (s.setHotlist h).pending = s.pending := rfl
@[simp] theorem State.setHotlist_freeCount (s : State) (h : Hotlist) : (s.setHotlist h).freeCount = s.freeCount := rfl
@[simp] theorem State.setHotlist_power (s : State) (h : Hotlist) : (s.setHotlist h).power = s.power := rfl
@[simp] theorem State.setHotlist_storeKept (s : State) (h : Hotlist) : (s.setHotlist h).storeKept = s.storeKept := rfl
@[simp] theorem State.setHotlist_now (s : State) (h : Hotlist) : (s.setHotlist h).now = s.now := rfl
@[simp] theorem State.setHotlist_link (s : State) (h : Hotlist) : (s.setHotlist h).link = s.link := rfl
@[simp] theorem State.setHotlist_faces (s : State) (h : Hotlist) : (s.setHotlist h).faces = s.faces := rfl
@[simp] theorem State.setHotlist_contexts (s : State) (h : Hotlist) : (s.setHotlist h).contexts = s.contexts := rfl
@[simp] theorem State.setHotlist_fare (s : State) (h : Hotlist) : (s.setHotlist h).fare = s.fare := rfl
@[simp] theorem State.setHotlist_check (s : State) (h : Hotlist) : (s.setHotlist h).check = s.check := rfl
@[simp] theorem State.setHotlist_sightings (s : State) (h : Hotlist) : (s.setHotlist h).sightings = s.sightings := rfl
@[simp] theorem State.setHotlist_hotlist (s : State) (h : Hotlist) : (s.setHotlist h).hotlist = h := rfl
@[simp] theorem State.setHotlist_tears (s : State) (h : Hotlist) : (s.setHotlist h).tears = s.tears := rfl
@[simp] theorem State.setHotlist_journal (s : State) (h : Hotlist) : (s.setHotlist h).journal = s.journal := rfl
@[simp] theorem State.setHotlist_ring (s : State) (h : Hotlist) : (s.setHotlist h).ring = s.ring := rfl
@[simp] theorem State.setHotlist_watch (s : State) (h : Hotlist) : (s.setHotlist h).watch = s.watch := rfl
@[simp] theorem State.setHotlist_aisle (s : State) (h : Hotlist) : (s.setHotlist h).aisle = s.aisle := rfl
@[simp] theorem State.setHotlist_setup (s : State) (h : Hotlist) : (s.setHotlist h).setup = s.setup := rfl
@[simp] theorem State.setHotlist_service (s : State) (h : Hotlist) : (s.setHotlist h).service = s.service := rfl

/-! ### State.setWatch -/

@[simp] theorem State.setWatch_pending (s : State) (w : Watch) : (s.setWatch w).pending = s.pending := rfl
@[simp] theorem State.setWatch_freeCount (s : State) (w : Watch) : (s.setWatch w).freeCount = s.freeCount := rfl
@[simp] theorem State.setWatch_power (s : State) (w : Watch) : (s.setWatch w).power = s.power := rfl
@[simp] theorem State.setWatch_storeKept (s : State) (w : Watch) : (s.setWatch w).storeKept = s.storeKept := rfl
@[simp] theorem State.setWatch_now (s : State) (w : Watch) : (s.setWatch w).now = s.now := rfl
@[simp] theorem State.setWatch_link (s : State) (w : Watch) : (s.setWatch w).link = s.link := rfl
@[simp] theorem State.setWatch_faces (s : State) (w : Watch) : (s.setWatch w).faces = s.faces := rfl
@[simp] theorem State.setWatch_contexts (s : State) (w : Watch) : (s.setWatch w).contexts = s.contexts := rfl
@[simp] theorem State.setWatch_fare (s : State) (w : Watch) : (s.setWatch w).fare = s.fare := rfl
@[simp] theorem State.setWatch_check (s : State) (w : Watch) : (s.setWatch w).check = s.check := rfl
@[simp] theorem State.setWatch_sightings (s : State) (w : Watch) : (s.setWatch w).sightings = s.sightings := rfl
@[simp] theorem State.setWatch_hotlist (s : State) (w : Watch) : (s.setWatch w).hotlist = s.hotlist := rfl
@[simp] theorem State.setWatch_tears (s : State) (w : Watch) : (s.setWatch w).tears = s.tears := rfl
@[simp] theorem State.setWatch_journal (s : State) (w : Watch) : (s.setWatch w).journal = s.journal := rfl
@[simp] theorem State.setWatch_ring (s : State) (w : Watch) : (s.setWatch w).ring = s.ring := rfl
@[simp] theorem State.setWatch_watch (s : State) (w : Watch) : (s.setWatch w).watch = w := rfl
@[simp] theorem State.setWatch_aisle (s : State) (w : Watch) : (s.setWatch w).aisle = s.aisle := rfl
@[simp] theorem State.setWatch_setup (s : State) (w : Watch) : (s.setWatch w).setup = s.setup := rfl
@[simp] theorem State.setWatch_service (s : State) (w : Watch) : (s.setWatch w).service = s.service := rfl

/-! ### State.setContext -/

@[simp] theorem State.setContext_pending (s : State) (f : Face) (c : Context) : (s.setContext f c).pending = s.pending := rfl
@[simp] theorem State.setContext_freeCount (s : State) (f : Face) (c : Context) : (s.setContext f c).freeCount = s.freeCount := rfl
@[simp] theorem State.setContext_power (s : State) (f : Face) (c : Context) : (s.setContext f c).power = s.power := rfl
@[simp] theorem State.setContext_storeKept (s : State) (f : Face) (c : Context) : (s.setContext f c).storeKept = s.storeKept := rfl
@[simp] theorem State.setContext_now (s : State) (f : Face) (c : Context) : (s.setContext f c).now = s.now := rfl
@[simp] theorem State.setContext_link (s : State) (f : Face) (c : Context) : (s.setContext f c).link = s.link := rfl
@[simp] theorem State.setContext_faces (s : State) (f : Face) (c : Context) : (s.setContext f c).faces = s.faces := rfl
@[simp] theorem State.setContext_contexts (s : State) (f : Face) (c : Context) : (s.setContext f c).contexts = s.contexts.set f c := rfl
@[simp] theorem State.setContext_fare (s : State) (f : Face) (c : Context) : (s.setContext f c).fare = s.fare := rfl
@[simp] theorem State.setContext_check (s : State) (f : Face) (c : Context) : (s.setContext f c).check = s.check := rfl
@[simp] theorem State.setContext_sightings (s : State) (f : Face) (c : Context) : (s.setContext f c).sightings = s.sightings := rfl
@[simp] theorem State.setContext_hotlist (s : State) (f : Face) (c : Context) : (s.setContext f c).hotlist = s.hotlist := rfl
@[simp] theorem State.setContext_tears (s : State) (f : Face) (c : Context) : (s.setContext f c).tears = s.tears := rfl
@[simp] theorem State.setContext_journal (s : State) (f : Face) (c : Context) : (s.setContext f c).journal = s.journal := rfl
@[simp] theorem State.setContext_ring (s : State) (f : Face) (c : Context) : (s.setContext f c).ring = s.ring := rfl
@[simp] theorem State.setContext_watch (s : State) (f : Face) (c : Context) : (s.setContext f c).watch = s.watch := rfl
@[simp] theorem State.setContext_aisle (s : State) (f : Face) (c : Context) : (s.setContext f c).aisle = s.aisle := rfl
@[simp] theorem State.setContext_setup (s : State) (f : Face) (c : Context) : (s.setContext f c).setup = s.setup := rfl
@[simp] theorem State.setContext_service (s : State) (f : Face) (c : Context) : (s.setContext f c).service = s.service := rfl

/-! ### State.setFace -/

@[simp] theorem State.setFace_pending (s : State) (f : Face) (u : FaceUnit) : (s.setFace f u).pending = s.pending := rfl
@[simp] theorem State.setFace_freeCount (s : State) (f : Face) (u : FaceUnit) : (s.setFace f u).freeCount = s.freeCount := rfl
@[simp] theorem State.setFace_power (s : State) (f : Face) (u : FaceUnit) : (s.setFace f u).power = s.power := rfl
@[simp] theorem State.setFace_storeKept (s : State) (f : Face) (u : FaceUnit) : (s.setFace f u).storeKept = s.storeKept := rfl
@[simp] theorem State.setFace_now (s : State) (f : Face) (u : FaceUnit) : (s.setFace f u).now = s.now := rfl
@[simp] theorem State.setFace_link (s : State) (f : Face) (u : FaceUnit) : (s.setFace f u).link = s.link := rfl
@[simp] theorem State.setFace_faces (s : State) (f : Face) (u : FaceUnit) : (s.setFace f u).faces = s.faces.set f u := rfl
@[simp] theorem State.setFace_contexts (s : State) (f : Face) (u : FaceUnit) : (s.setFace f u).contexts = s.contexts := rfl
@[simp] theorem State.setFace_fare (s : State) (f : Face) (u : FaceUnit) : (s.setFace f u).fare = s.fare := rfl
@[simp] theorem State.setFace_check (s : State) (f : Face) (u : FaceUnit) : (s.setFace f u).check = s.check := rfl
@[simp] theorem State.setFace_sightings (s : State) (f : Face) (u : FaceUnit) : (s.setFace f u).sightings = s.sightings := rfl
@[simp] theorem State.setFace_hotlist (s : State) (f : Face) (u : FaceUnit) : (s.setFace f u).hotlist = s.hotlist := rfl
@[simp] theorem State.setFace_tears (s : State) (f : Face) (u : FaceUnit) : (s.setFace f u).tears = s.tears := rfl
@[simp] theorem State.setFace_journal (s : State) (f : Face) (u : FaceUnit) : (s.setFace f u).journal = s.journal := rfl
@[simp] theorem State.setFace_ring (s : State) (f : Face) (u : FaceUnit) : (s.setFace f u).ring = s.ring := rfl
@[simp] theorem State.setFace_watch (s : State) (f : Face) (u : FaceUnit) : (s.setFace f u).watch = s.watch := rfl
@[simp] theorem State.setFace_aisle (s : State) (f : Face) (u : FaceUnit) : (s.setFace f u).aisle = s.aisle := rfl
@[simp] theorem State.setFace_setup (s : State) (f : Face) (u : FaceUnit) : (s.setFace f u).setup = s.setup := rfl
@[simp] theorem State.setFace_service (s : State) (f : Face) (u : FaceUnit) : (s.setFace f u).service = s.service := rfl

/-! ### State.raise -/

@[simp] theorem State.raise_pending (s : State) (g : Flag) : (s.raise g).pending = s.pending := rfl
@[simp] theorem State.raise_freeCount (s : State) (g : Flag) : (s.raise g).freeCount = s.freeCount := rfl
@[simp] theorem State.raise_power (s : State) (g : Flag) : (s.raise g).power = s.power := rfl
@[simp] theorem State.raise_storeKept (s : State) (g : Flag) : (s.raise g).storeKept = s.storeKept := rfl
@[simp] theorem State.raise_now (s : State) (g : Flag) : (s.raise g).now = s.now := rfl
@[simp] theorem State.raise_link (s : State) (g : Flag) : (s.raise g).link = s.link := rfl
@[simp] theorem State.raise_faces (s : State) (g : Flag) : (s.raise g).faces = s.faces := rfl
@[simp] theorem State.raise_contexts (s : State) (g : Flag) : (s.raise g).contexts = s.contexts := rfl
@[simp] theorem State.raise_fare (s : State) (g : Flag) : (s.raise g).fare = s.fare := rfl
@[simp] theorem State.raise_check (s : State) (g : Flag) : (s.raise g).check = s.check := rfl
@[simp] theorem State.raise_sightings (s : State) (g : Flag) : (s.raise g).sightings = s.sightings := rfl
@[simp] theorem State.raise_hotlist (s : State) (g : Flag) : (s.raise g).hotlist = s.hotlist := rfl
@[simp] theorem State.raise_tears (s : State) (g : Flag) : (s.raise g).tears = s.tears := rfl
@[simp] theorem State.raise_journal (s : State) (g : Flag) : (s.raise g).journal = s.journal := rfl
@[simp] theorem State.raise_ring (s : State) (g : Flag) : (s.raise g).ring = s.ring := rfl
@[simp] theorem State.raise_watch (s : State) (g : Flag) : (s.raise g).watch = s.watch := rfl
@[simp] theorem State.raise_aisle (s : State) (g : Flag) : (s.raise g).aisle = s.aisle := rfl
@[simp] theorem State.raise_setup (s : State) (g : Flag) : (s.raise g).setup = s.setup := rfl
@[simp] theorem State.raise_service (s : State) (g : Flag) : (s.raise g).service = { s.service with flags := s.service.flags.raise g } := rfl

/-! ### State.drew -/

@[simp] theorem State.drew_pending (s : State) (n : Nat) : (s.drew n).pending = s.pending := rfl
@[simp] theorem State.drew_freeCount (s : State) (n : Nat) : (s.drew n).freeCount = s.freeCount + n := rfl
@[simp] theorem State.drew_power (s : State) (n : Nat) : (s.drew n).power = s.power := rfl
@[simp] theorem State.drew_storeKept (s : State) (n : Nat) : (s.drew n).storeKept = s.storeKept := rfl
@[simp] theorem State.drew_now (s : State) (n : Nat) : (s.drew n).now = s.now := rfl
@[simp] theorem State.drew_link (s : State) (n : Nat) : (s.drew n).link = s.link := rfl
@[simp] theorem State.drew_faces (s : State) (n : Nat) : (s.drew n).faces = s.faces := rfl
@[simp] theorem State.drew_contexts (s : State) (n : Nat) : (s.drew n).contexts = s.contexts := rfl
@[simp] theorem State.drew_fare (s : State) (n : Nat) : (s.drew n).fare = s.fare := rfl
@[simp] theorem State.drew_check (s : State) (n : Nat) : (s.drew n).check = s.check := rfl
@[simp] theorem State.drew_sightings (s : State) (n : Nat) : (s.drew n).sightings = s.sightings := rfl
@[simp] theorem State.drew_hotlist (s : State) (n : Nat) : (s.drew n).hotlist = s.hotlist := rfl
@[simp] theorem State.drew_tears (s : State) (n : Nat) : (s.drew n).tears = s.tears := rfl
@[simp] theorem State.drew_journal (s : State) (n : Nat) : (s.drew n).journal = s.journal := rfl
@[simp] theorem State.drew_ring (s : State) (n : Nat) : (s.drew n).ring = s.ring := rfl
@[simp] theorem State.drew_watch (s : State) (n : Nat) : (s.drew n).watch = s.watch := rfl
@[simp] theorem State.drew_aisle (s : State) (n : Nat) : (s.drew n).aisle = s.aisle := rfl
@[simp] theorem State.drew_setup (s : State) (n : Nat) : (s.drew n).setup = s.setup := rfl
@[simp] theorem State.drew_service (s : State) (n : Nat) : (s.drew n).service = s.service := rfl

/-! ### Reads of a context and a face -/

@[simp] theorem State.setContext_context (s : State) (f : Face) (c : Context) : (s.setContext f c).context f = c :=
  PerFace.get_set _ _ _

@[simp] theorem State.setContext_context_other (s : State) (f : Face) (c : Context) :
    (s.setContext f c).context f.other = s.context f.other := PerFace.get_set_other _ _ _

@[simp] theorem State.setContext_other_context (s : State) (f : Face) (c : Context) :
    (s.setContext f.other c).context f = s.context f := PerFace.get_other_set _ _ _

@[simp] theorem State.setContext_face (s : State) (f g : Face) (c : Context) : (s.setContext f c).face g = s.face g := rfl

@[simp] theorem State.setFace_face (s : State) (f : Face) (u : FaceUnit) : (s.setFace f u).face f = u :=
  PerFace.get_set _ _ _

@[simp] theorem State.setFace_face_other (s : State) (f : Face) (u : FaceUnit) :
    (s.setFace f u).face f.other = s.face f.other := PerFace.get_set_other _ _ _

@[simp] theorem State.setFace_context (s : State) (f g : Face) (u : FaceUnit) : (s.setFace f u).context g = s.context g := rfl

@[simp] theorem State.setLink_context' (s : State) (g' : Face) (l : Link) : (s.setLink l).context g' = s.context g' := rfl
@[simp] theorem State.setLink_face' (s : State) (g' : Face) (l : Link) : (s.setLink l).face g' = s.face g' := rfl
@[simp] theorem State.setAisle_context' (s : State) (g' : Face) (a : Aisle) : (s.setAisle a).context g' = s.context g' := rfl
@[simp] theorem State.setAisle_face' (s : State) (g' : Face) (a : Aisle) : (s.setAisle a).face g' = s.face g' := rfl
@[simp] theorem State.setService_context' (s : State) (g' : Face) (v : Service) : (s.setService v).context g' = s.context g' := rfl
@[simp] theorem State.setService_face' (s : State) (g' : Face) (v : Service) : (s.setService v).face g' = s.face g' := rfl
@[simp] theorem State.setRing_context' (s : State) (g' : Face) (r : Ring) : (s.setRing r).context g' = s.context g' := rfl
@[simp] theorem State.setRing_face' (s : State) (g' : Face) (r : Ring) : (s.setRing r).face g' = s.face g' := rfl
@[simp] theorem State.setFare_context' (s : State) (g' : Face) (u : FareUnit) : (s.setFare u).context g' = s.context g' := rfl
@[simp] theorem State.setFare_face' (s : State) (g' : Face) (u : FareUnit) : (s.setFare u).face g' = s.face g' := rfl
@[simp] theorem State.setCheck_context' (s : State) (g' : Face) (c : CardCheck) : (s.setCheck c).context g' = s.context g' := rfl
@[simp] theorem State.setCheck_face' (s : State) (g' : Face) (c : CardCheck) : (s.setCheck c).face g' = s.face g' := rfl
@[simp] theorem State.setHotlist_context' (s : State) (g' : Face) (h : Hotlist) : (s.setHotlist h).context g' = s.context g' := rfl
@[simp] theorem State.setHotlist_face' (s : State) (g' : Face) (h : Hotlist) : (s.setHotlist h).face g' = s.face g' := rfl
@[simp] theorem State.setWatch_context' (s : State) (g' : Face) (w : Watch) : (s.setWatch w).context g' = s.context g' := rfl
@[simp] theorem State.setWatch_face' (s : State) (g' : Face) (w : Watch) : (s.setWatch w).face g' = s.face g' := rfl

@[simp] theorem State.raise_context' (s : State) (g' : Face) (g : Flag) : (s.raise g).context g' = s.context g' := rfl
@[simp] theorem State.raise_face' (s : State) (g' : Face) (g : Flag) : (s.raise g).face g' = s.face g' := rfl
@[simp] theorem State.drew_context' (s : State) (g' : Face) (n : Nat) : (s.drew n).context g' = s.context g' := rfl
@[simp] theorem State.drew_face' (s : State) (g' : Face) (n : Nat) : (s.drew n).face g' = s.face g' := rfl

end Sys2Proof.Machine
end

