-- ==== Sys2Proof/Laws/Ops.lean ====
section
/-! SUPPORT. For each shared operation one lemma that names every field of State it leaves as it was: what it can change is the rest. -/

namespace Sys2Proof.Machine

/-- What each step of a fold leaves as it was, the fold leaves as it was. -/
theorem foldl_keeps {α β : Type} (p : State → β) (g : State → α → State) (h : ∀ t x, p (g t x) = p t) (l : List α) (s : State) :
    p (l.foldl g s) = p s := by
  induction l generalizing s with
  | nil => rfl
  | cons x xs ih => simp only [List.foldl_cons, ih, h]

@[simp] theorem State.fillWatchSequence_keeps (s : State) (f : Face) (q : Word) :
    (s.fillWatchSequence f q).pending = s.pending ∧ (s.fillWatchSequence f q).freeCount = s.freeCount ∧
    (s.fillWatchSequence f q).power = s.power ∧ (s.fillWatchSequence f q).storeKept = s.storeKept ∧
    (s.fillWatchSequence f q).now = s.now ∧ (s.fillWatchSequence f q).link = s.link ∧
    (s.fillWatchSequence f q).faces = s.faces ∧ (s.fillWatchSequence f q).contexts = s.contexts ∧
    (s.fillWatchSequence f q).fare = s.fare ∧ (s.fillWatchSequence f q).check = s.check ∧
    (s.fillWatchSequence f q).sightings = s.sightings ∧ (s.fillWatchSequence f q).hotlist = s.hotlist ∧
    (s.fillWatchSequence f q).tears = s.tears ∧ (s.fillWatchSequence f q).journal = s.journal ∧
    (s.fillWatchSequence f q).ring = s.ring ∧ (s.fillWatchSequence f q).aisle = s.aisle ∧
    (s.fillWatchSequence f q).setup = s.setup ∧ (s.fillWatchSequence f q).service = s.service := by
  unfold State.fillWatchSequence
  (repeat' split) <;> simp

@[simp] theorem State.append_keeps (s : State) (k : RecordKind) (t : Stamp) (f : Face) (x : RecordFields) :
    (s.append k t f x).pending = s.pending ∧ (s.append k t f x).freeCount = s.freeCount ∧
    (s.append k t f x).power = s.power ∧ (s.append k t f x).storeKept = s.storeKept ∧
    (s.append k t f x).now = s.now ∧ (s.append k t f x).link = s.link ∧ (s.append k t f x).faces = s.faces ∧
    (s.append k t f x).contexts = s.contexts ∧ (s.append k t f x).fare = s.fare ∧
    (s.append k t f x).check = s.check ∧ (s.append k t f x).sightings = s.sightings ∧
    (s.append k t f x).hotlist = s.hotlist ∧ (s.append k t f x).tears = s.tears ∧ (s.append k t f x).ring = s.ring ∧
    (s.append k t f x).watch = s.watch ∧ (s.append k t f x).aisle = s.aisle ∧ (s.append k t f x).setup = s.setup := by
  unfold State.append
  simp only
  split <;> simp

@[simp] theorem State.appendSpare_keeps (s : State) (k : RecordKind) (f : Face) (x : RecordFields) :
    (s.appendSpare k f x).pending = s.pending ∧ (s.appendSpare k f x).freeCount = s.freeCount ∧
    (s.appendSpare k f x).power = s.power ∧ (s.appendSpare k f x).storeKept = s.storeKept ∧
    (s.appendSpare k f x).now = s.now ∧ (s.appendSpare k f x).link = s.link ∧ (s.appendSpare k f x).faces = s.faces ∧
    (s.appendSpare k f x).contexts = s.contexts ∧ (s.appendSpare k f x).fare = s.fare ∧
    (s.appendSpare k f x).check = s.check ∧ (s.appendSpare k f x).sightings = s.sightings ∧
    (s.appendSpare k f x).hotlist = s.hotlist ∧ (s.appendSpare k f x).tears = s.tears ∧
    (s.appendSpare k f x).ring = s.ring ∧ (s.appendSpare k f x).watch = s.watch ∧
    (s.appendSpare k f x).aisle = s.aisle ∧ (s.appendSpare k f x).setup = s.setup := by
  unfold State.appendSpare
  split <;> simp

@[simp] theorem State.askTone_keeps (s : State) (f : Face) (t : ShortTone) :
    (s.askTone f t).pending = s.pending ∧ (s.askTone f t).freeCount = s.freeCount ∧ (s.askTone f t).power = s.power ∧
    (s.askTone f t).storeKept = s.storeKept ∧ (s.askTone f t).now = s.now ∧ (s.askTone f t).link = s.link ∧
    (s.askTone f t).faces = s.faces ∧ (s.askTone f t).contexts = s.contexts ∧ (s.askTone f t).fare = s.fare ∧
    (s.askTone f t).check = s.check ∧ (s.askTone f t).sightings = s.sightings ∧ (s.askTone f t).hotlist = s.hotlist ∧
    (s.askTone f t).tears = s.tears ∧ (s.askTone f t).journal = s.journal ∧ (s.askTone f t).ring = s.ring ∧
    (s.askTone f t).watch = s.watch ∧ (s.askTone f t).setup = s.setup ∧ (s.askTone f t).service = s.service := by
  unfold State.askTone
  split <;> simp

@[simp] theorem State.ask_keeps (s : State) (f : Face) (c : CardCommand) :
    (s.ask f c).pending = s.pending ∧ (s.ask f c).freeCount = s.freeCount ∧ (s.ask f c).power = s.power ∧
    (s.ask f c).storeKept = s.storeKept ∧ (s.ask f c).now = s.now ∧ (s.ask f c).link = s.link ∧
    (s.ask f c).contexts = s.contexts ∧ (s.ask f c).fare = s.fare ∧ (s.ask f c).check = s.check ∧
    (s.ask f c).sightings = s.sightings ∧ (s.ask f c).hotlist = s.hotlist ∧ (s.ask f c).tears = s.tears ∧
    (s.ask f c).journal = s.journal ∧ (s.ask f c).ring = s.ring ∧ (s.ask f c).watch = s.watch ∧
    (s.ask f c).aisle = s.aisle ∧ (s.ask f c).setup = s.setup ∧ (s.ask f c).service = s.service := by
  simp [State.ask]

@[simp] theorem State.closeExchange_keeps (s : State) (f : Face) :
    (s.closeExchange f).pending = s.pending ∧ (s.closeExchange f).freeCount = s.freeCount ∧
    (s.closeExchange f).power = s.power ∧ (s.closeExchange f).storeKept = s.storeKept ∧
    (s.closeExchange f).now = s.now ∧ (s.closeExchange f).link = s.link ∧ (s.closeExchange f).contexts = s.contexts ∧
    (s.closeExchange f).fare = s.fare ∧ (s.closeExchange f).check = s.check ∧
    (s.closeExchange f).sightings = s.sightings ∧ (s.closeExchange f).hotlist = s.hotlist ∧
    (s.closeExchange f).tears = s.tears ∧ (s.closeExchange f).journal = s.journal ∧
    (s.closeExchange f).ring = s.ring ∧ (s.closeExchange f).watch = s.watch ∧ (s.closeExchange f).aisle = s.aisle ∧
    (s.closeExchange f).setup = s.setup ∧ (s.closeExchange f).service = s.service := by
  simp [State.closeExchange]

@[simp] theorem State.responded_keeps (s : State) (f : Face) :
    (s.responded f).pending = s.pending ∧ (s.responded f).freeCount = s.freeCount ∧ (s.responded f).power = s.power ∧
    (s.responded f).storeKept = s.storeKept ∧ (s.responded f).now = s.now ∧ (s.responded f).link = s.link ∧
    (s.responded f).contexts = s.contexts ∧ (s.responded f).fare = s.fare ∧ (s.responded f).check = s.check ∧
    (s.responded f).sightings = s.sightings ∧ (s.responded f).hotlist = s.hotlist ∧ (s.responded f).tears = s.tears ∧
    (s.responded f).journal = s.journal ∧ (s.responded f).ring = s.ring ∧ (s.responded f).watch = s.watch ∧
    (s.responded f).aisle = s.aisle ∧ (s.responded f).setup = s.setup ∧ (s.responded f).service = s.service := by
  unfold State.responded
  split <;> simp

@[simp] theorem State.noteHolders_keeps (s : State) (n : CardNumber) (x : Note) :
    (s.noteHolders n x).pending = s.pending ∧ (s.noteHolders n x).freeCount = s.freeCount ∧
    (s.noteHolders n x).power = s.power ∧ (s.noteHolders n x).storeKept = s.storeKept ∧
    (s.noteHolders n x).now = s.now ∧ (s.noteHolders n x).link = s.link ∧ (s.noteHolders n x).faces = s.faces ∧
    (s.noteHolders n x).fare = s.fare ∧ (s.noteHolders n x).check = s.check ∧
    (s.noteHolders n x).sightings = s.sightings ∧ (s.noteHolders n x).hotlist = s.hotlist ∧
    (s.noteHolders n x).tears = s.tears ∧ (s.noteHolders n x).journal = s.journal ∧
    (s.noteHolders n x).ring = s.ring ∧ (s.noteHolders n x).watch = s.watch ∧ (s.noteHolders n x).aisle = s.aisle ∧
    (s.noteHolders n x).setup = s.setup ∧ (s.noteHolders n x).service = s.service := by
  simp [State.noteHolders]

@[simp] theorem State.setOwnHold_keeps (s : State) (f : Face) :
    (s.setOwnHold f).pending = s.pending ∧ (s.setOwnHold f).freeCount = s.freeCount ∧
    (s.setOwnHold f).power = s.power ∧ (s.setOwnHold f).storeKept = s.storeKept ∧ (s.setOwnHold f).now = s.now ∧
    (s.setOwnHold f).link = s.link ∧ (s.setOwnHold f).faces = s.faces ∧ (s.setOwnHold f).fare = s.fare ∧
    (s.setOwnHold f).check = s.check ∧ (s.setOwnHold f).hotlist = s.hotlist ∧ (s.setOwnHold f).tears = s.tears ∧
    (s.setOwnHold f).journal = s.journal ∧ (s.setOwnHold f).ring = s.ring ∧ (s.setOwnHold f).watch = s.watch ∧
    (s.setOwnHold f).aisle = s.aisle ∧ (s.setOwnHold f).setup = s.setup ∧ (s.setOwnHold f).service = s.service := by
  unfold State.setOwnHold
  simp only
  (repeat' split) <;> simp

@[simp] theorem State.releaseOwnHold_keeps (s : State) (f : Face) :
    (s.releaseOwnHold f).pending = s.pending ∧ (s.releaseOwnHold f).freeCount = s.freeCount ∧
    (s.releaseOwnHold f).power = s.power ∧ (s.releaseOwnHold f).storeKept = s.storeKept ∧
    (s.releaseOwnHold f).now = s.now ∧ (s.releaseOwnHold f).link = s.link ∧ (s.releaseOwnHold f).faces = s.faces ∧
    (s.releaseOwnHold f).fare = s.fare ∧ (s.releaseOwnHold f).check = s.check ∧
    (s.releaseOwnHold f).hotlist = s.hotlist ∧ (s.releaseOwnHold f).tears = s.tears ∧
    (s.releaseOwnHold f).journal = s.journal ∧ (s.releaseOwnHold f).ring = s.ring ∧
    (s.releaseOwnHold f).watch = s.watch ∧ (s.releaseOwnHold f).aisle = s.aisle ∧
    (s.releaseOwnHold f).setup = s.setup ∧ (s.releaseOwnHold f).service = s.service := by
  unfold State.releaseOwnHold
  simp only
  (repeat' split) <;> simp

@[simp] theorem State.recordSighting_keeps (s : State) (n : CardNumber) (x : Sighting) :
    (s.recordSighting n x).pending = s.pending ∧ (s.recordSighting n x).freeCount = s.freeCount ∧
    (s.recordSighting n x).power = s.power ∧ (s.recordSighting n x).storeKept = s.storeKept ∧
    (s.recordSighting n x).now = s.now ∧ (s.recordSighting n x).link = s.link ∧
    (s.recordSighting n x).faces = s.faces ∧ (s.recordSighting n x).contexts = s.contexts ∧
    (s.recordSighting n x).fare = s.fare ∧ (s.recordSighting n x).check = s.check ∧
    (s.recordSighting n x).hotlist = s.hotlist ∧ (s.recordSighting n x).tears = s.tears ∧
    (s.recordSighting n x).journal = s.journal ∧ (s.recordSighting n x).ring = s.ring ∧
    (s.recordSighting n x).watch = s.watch ∧ (s.recordSighting n x).aisle = s.aisle ∧
    (s.recordSighting n x).setup = s.setup ∧ (s.recordSighting n x).service = s.service := by
  unfold State.recordSighting
  split <;> simp

@[simp] theorem State.localAdd_keeps (s : State) (n : CardNumber) (b : Bool) :
    (s.localAdd n b).pending = s.pending ∧ (s.localAdd n b).freeCount = s.freeCount ∧
    (s.localAdd n b).power = s.power ∧ (s.localAdd n b).storeKept = s.storeKept ∧ (s.localAdd n b).now = s.now ∧
    (s.localAdd n b).link = s.link ∧ (s.localAdd n b).faces = s.faces ∧ (s.localAdd n b).contexts = s.contexts ∧
    (s.localAdd n b).fare = s.fare ∧ (s.localAdd n b).check = s.check ∧ (s.localAdd n b).sightings = s.sightings ∧
    (s.localAdd n b).tears = s.tears ∧ (s.localAdd n b).journal = s.journal ∧ (s.localAdd n b).ring = s.ring ∧
    (s.localAdd n b).watch = s.watch ∧ (s.localAdd n b).aisle = s.aisle ∧ (s.localAdd n b).setup = s.setup := by
  simp [State.localAdd]

@[simp] theorem State.endBlockMark_keeps (s : State) (f : Face) :
    (s.endBlockMark f).pending = s.pending ∧ (s.endBlockMark f).freeCount = s.freeCount ∧
    (s.endBlockMark f).power = s.power ∧ (s.endBlockMark f).storeKept = s.storeKept ∧
    (s.endBlockMark f).now = s.now ∧ (s.endBlockMark f).link = s.link ∧ (s.endBlockMark f).faces = s.faces ∧
    (s.endBlockMark f).contexts = s.contexts ∧ (s.endBlockMark f).fare = s.fare ∧
    (s.endBlockMark f).check = s.check ∧ (s.endBlockMark f).sightings = s.sightings ∧
    (s.endBlockMark f).tears = s.tears ∧ (s.endBlockMark f).journal = s.journal ∧ (s.endBlockMark f).ring = s.ring ∧
    (s.endBlockMark f).watch = s.watch ∧ (s.endBlockMark f).aisle = s.aisle ∧ (s.endBlockMark f).setup = s.setup ∧
    (s.endBlockMark f).service = s.service := by
  unfold State.endBlockMark
  simp only
  split <;> simp

@[simp] theorem State.send_keeps (s : State) (m : RingMessage) :
    (s.send m).pending = s.pending ∧ (s.send m).freeCount = s.freeCount ∧ (s.send m).power = s.power ∧
    (s.send m).storeKept = s.storeKept ∧ (s.send m).now = s.now ∧ (s.send m).link = s.link ∧
    (s.send m).faces = s.faces ∧ (s.send m).contexts = s.contexts ∧ (s.send m).fare = s.fare ∧
    (s.send m).check = s.check ∧ (s.send m).sightings = s.sightings ∧ (s.send m).hotlist = s.hotlist ∧
    (s.send m).tears = s.tears ∧ (s.send m).journal = s.journal ∧ (s.send m).watch = s.watch ∧
    (s.send m).aisle = s.aisle ∧ (s.send m).setup = s.setup ∧ (s.send m).service = s.service := by
  unfold State.send
  split <;> simp

@[simp] theorem State.sendCommitted_keeps (s : State) (n : CardNumber) (x : Sighting) :
    (s.sendCommitted n x).pending = s.pending ∧ (s.sendCommitted n x).freeCount = s.freeCount ∧
    (s.sendCommitted n x).power = s.power ∧ (s.sendCommitted n x).storeKept = s.storeKept ∧
    (s.sendCommitted n x).now = s.now ∧ (s.sendCommitted n x).link = s.link ∧ (s.sendCommitted n x).faces = s.faces ∧
    (s.sendCommitted n x).contexts = s.contexts ∧ (s.sendCommitted n x).fare = s.fare ∧
    (s.sendCommitted n x).check = s.check ∧ (s.sendCommitted n x).sightings = s.sightings ∧
    (s.sendCommitted n x).hotlist = s.hotlist ∧ (s.sendCommitted n x).tears = s.tears ∧
    (s.sendCommitted n x).journal = s.journal ∧ (s.sendCommitted n x).watch = s.watch ∧
    (s.sendCommitted n x).aisle = s.aisle ∧ (s.sendCommitted n x).setup = s.setup ∧
    (s.sendCommitted n x).service = s.service := by
  simp [State.sendCommitted]

@[simp] theorem State.sendDropped_keeps (s : State) (f : Face) :
    (s.sendDropped f).pending = s.pending ∧ (s.sendDropped f).freeCount = s.freeCount ∧
    (s.sendDropped f).power = s.power ∧ (s.sendDropped f).storeKept = s.storeKept ∧ (s.sendDropped f).now = s.now ∧
    (s.sendDropped f).link = s.link ∧ (s.sendDropped f).faces = s.faces ∧ (s.sendDropped f).contexts = s.contexts ∧
    (s.sendDropped f).fare = s.fare ∧ (s.sendDropped f).check = s.check ∧ (s.sendDropped f).sightings = s.sightings ∧
    (s.sendDropped f).hotlist = s.hotlist ∧ (s.sendDropped f).tears = s.tears ∧
    (s.sendDropped f).journal = s.journal ∧ (s.sendDropped f).watch = s.watch ∧ (s.sendDropped f).aisle = s.aisle ∧
    (s.sendDropped f).setup = s.setup ∧ (s.sendDropped f).service = s.service := by
  unfold State.sendDropped
  split <;> simp

@[simp] theorem State.isolate_keeps (s : State) :
    (s.isolate).pending = s.pending ∧ (s.isolate).freeCount = s.freeCount ∧ (s.isolate).power = s.power ∧
    (s.isolate).storeKept = s.storeKept ∧ (s.isolate).now = s.now ∧ (s.isolate).link = s.link ∧
    (s.isolate).faces = s.faces ∧ (s.isolate).contexts = s.contexts ∧ (s.isolate).fare = s.fare ∧
    (s.isolate).check = s.check ∧ (s.isolate).sightings = s.sightings ∧ (s.isolate).hotlist = s.hotlist ∧
    (s.isolate).tears = s.tears ∧ (s.isolate).journal = s.journal ∧ (s.isolate).watch = s.watch ∧
    (s.isolate).aisle = s.aisle ∧ (s.isolate).setup = s.setup := by
  unfold State.isolate
  split <;> simp

@[simp] theorem State.sendCensus_keeps (s : State) :
    (s.sendCensus).pending = s.pending ∧ (s.sendCensus).freeCount = s.freeCount ∧ (s.sendCensus).power = s.power ∧
    (s.sendCensus).storeKept = s.storeKept ∧ (s.sendCensus).now = s.now ∧ (s.sendCensus).link = s.link ∧
    (s.sendCensus).faces = s.faces ∧ (s.sendCensus).contexts = s.contexts ∧ (s.sendCensus).fare = s.fare ∧
    (s.sendCensus).check = s.check ∧ (s.sendCensus).sightings = s.sightings ∧ (s.sendCensus).hotlist = s.hotlist ∧
    (s.sendCensus).tears = s.tears ∧ (s.sendCensus).journal = s.journal ∧ (s.sendCensus).watch = s.watch ∧
    (s.sendCensus).aisle = s.aisle ∧ (s.sendCensus).setup = s.setup ∧ (s.sendCensus).service = s.service := by
  simp [State.sendCensus]

@[simp] theorem State.censusHome_keeps (s : State) (h : Byte) :
    (s.censusHome h).pending = s.pending ∧ (s.censusHome h).freeCount = s.freeCount ∧
    (s.censusHome h).power = s.power ∧ (s.censusHome h).storeKept = s.storeKept ∧ (s.censusHome h).now = s.now ∧
    (s.censusHome h).link = s.link ∧ (s.censusHome h).faces = s.faces ∧ (s.censusHome h).contexts = s.contexts ∧
    (s.censusHome h).fare = s.fare ∧ (s.censusHome h).check = s.check ∧ (s.censusHome h).sightings = s.sightings ∧
    (s.censusHome h).hotlist = s.hotlist ∧ (s.censusHome h).tears = s.tears ∧ (s.censusHome h).journal = s.journal ∧
    (s.censusHome h).watch = s.watch ∧ (s.censusHome h).aisle = s.aisle ∧ (s.censusHome h).setup = s.setup := by
  unfold State.censusHome
  split <;> simp

@[simp] theorem State.checkLock_keeps (s : State) :
    (s.checkLock).pending = s.pending ∧ (s.checkLock).freeCount = s.freeCount ∧ (s.checkLock).power = s.power ∧
    (s.checkLock).storeKept = s.storeKept ∧ (s.checkLock).now = s.now ∧ (s.checkLock).link = s.link ∧
    (s.checkLock).faces = s.faces ∧ (s.checkLock).contexts = s.contexts ∧ (s.checkLock).fare = s.fare ∧
    (s.checkLock).check = s.check ∧ (s.checkLock).sightings = s.sightings ∧ (s.checkLock).hotlist = s.hotlist ∧
    (s.checkLock).tears = s.tears ∧ (s.checkLock).journal = s.journal ∧ (s.checkLock).ring = s.ring ∧
    (s.checkLock).watch = s.watch ∧ (s.checkLock).setup = s.setup ∧ (s.checkLock).service = s.service := by
  simp [State.checkLock]

@[simp] theorem State.count_keeps (s : State) (d : Direction) (g : PassageCounters → PassageCounters) :
    (s.count d g).pending = s.pending ∧ (s.count d g).freeCount = s.freeCount ∧ (s.count d g).power = s.power ∧
    (s.count d g).storeKept = s.storeKept ∧ (s.count d g).now = s.now ∧ (s.count d g).link = s.link ∧
    (s.count d g).faces = s.faces ∧ (s.count d g).contexts = s.contexts ∧ (s.count d g).fare = s.fare ∧
    (s.count d g).check = s.check ∧ (s.count d g).sightings = s.sightings ∧ (s.count d g).hotlist = s.hotlist ∧
    (s.count d g).tears = s.tears ∧ (s.count d g).journal = s.journal ∧ (s.count d g).ring = s.ring ∧
    (s.count d g).watch = s.watch ∧ (s.count d g).setup = s.setup ∧ (s.count d g).service = s.service := by
  simp [State.count]

@[simp] theorem State.reserve_keeps (s : State) (f : Face) :
    (s.reserve f).pending = s.pending ∧ (s.reserve f).freeCount = s.freeCount ∧ (s.reserve f).power = s.power ∧
    (s.reserve f).storeKept = s.storeKept ∧ (s.reserve f).now = s.now ∧ (s.reserve f).link = s.link ∧
    (s.reserve f).faces = s.faces ∧ (s.reserve f).fare = s.fare ∧ (s.reserve f).check = s.check ∧
    (s.reserve f).sightings = s.sightings ∧ (s.reserve f).hotlist = s.hotlist ∧ (s.reserve f).tears = s.tears ∧
    (s.reserve f).journal = s.journal ∧ (s.reserve f).ring = s.ring ∧ (s.reserve f).watch = s.watch ∧
    (s.reserve f).setup = s.setup ∧ (s.reserve f).service = s.service := by
  simp [State.reserve]

@[simp] theorem State.dropReserved_keeps (s : State) (f : Face) :
    (s.dropReserved f).pending = s.pending ∧ (s.dropReserved f).freeCount = s.freeCount ∧
    (s.dropReserved f).power = s.power ∧ (s.dropReserved f).storeKept = s.storeKept ∧
    (s.dropReserved f).now = s.now ∧ (s.dropReserved f).link = s.link ∧ (s.dropReserved f).faces = s.faces ∧
    (s.dropReserved f).contexts = s.contexts ∧ (s.dropReserved f).fare = s.fare ∧
    (s.dropReserved f).check = s.check ∧ (s.dropReserved f).sightings = s.sightings ∧
    (s.dropReserved f).hotlist = s.hotlist ∧ (s.dropReserved f).tears = s.tears ∧
    (s.dropReserved f).journal = s.journal ∧ (s.dropReserved f).ring = s.ring ∧ (s.dropReserved f).watch = s.watch ∧
    (s.dropReserved f).setup = s.setup ∧ (s.dropReserved f).service = s.service := by
  simp [State.dropReserved]

@[simp] theorem State.dropReservation_keeps (s : State) (f : Face) :
    (s.dropReservation f).pending = s.pending ∧ (s.dropReservation f).freeCount = s.freeCount ∧
    (s.dropReservation f).power = s.power ∧ (s.dropReservation f).storeKept = s.storeKept ∧
    (s.dropReservation f).now = s.now ∧ (s.dropReservation f).link = s.link ∧ (s.dropReservation f).faces = s.faces ∧
    (s.dropReservation f).fare = s.fare ∧ (s.dropReservation f).check = s.check ∧
    (s.dropReservation f).sightings = s.sightings ∧ (s.dropReservation f).hotlist = s.hotlist ∧
    (s.dropReservation f).tears = s.tears ∧ (s.dropReservation f).journal = s.journal ∧
    (s.dropReservation f).ring = s.ring ∧ (s.dropReservation f).watch = s.watch ∧
    (s.dropReservation f).setup = s.setup ∧ (s.dropReservation f).service = s.service := by
  unfold State.dropReservation
  split <;> simp

@[simp] theorem State.grant_keeps (s : State) (f : Face) (q : Word) :
    (s.grant f q).pending = s.pending ∧ (s.grant f q).freeCount = s.freeCount ∧ (s.grant f q).power = s.power ∧
    (s.grant f q).storeKept = s.storeKept ∧ (s.grant f q).now = s.now ∧ (s.grant f q).link = s.link ∧
    (s.grant f q).faces = s.faces ∧ (s.grant f q).contexts = s.contexts ∧ (s.grant f q).fare = s.fare ∧
    (s.grant f q).check = s.check ∧ (s.grant f q).sightings = s.sightings ∧ (s.grant f q).hotlist = s.hotlist ∧
    (s.grant f q).tears = s.tears ∧ (s.grant f q).journal = s.journal ∧ (s.grant f q).ring = s.ring ∧
    (s.grant f q).watch = s.watch ∧ (s.grant f q).setup = s.setup ∧ (s.grant f q).service = s.service := by
  unfold State.grant
  split <;> simp

@[simp] theorem State.recordPassage_keeps (s : State) (o : PassageOutcome) (e : QueueEntry) :
    (s.recordPassage o e).pending = s.pending ∧ (s.recordPassage o e).freeCount = s.freeCount ∧
    (s.recordPassage o e).power = s.power ∧ (s.recordPassage o e).storeKept = s.storeKept ∧
    (s.recordPassage o e).now = s.now ∧ (s.recordPassage o e).link = s.link ∧ (s.recordPassage o e).faces = s.faces ∧
    (s.recordPassage o e).contexts = s.contexts ∧ (s.recordPassage o e).fare = s.fare ∧
    (s.recordPassage o e).check = s.check ∧ (s.recordPassage o e).sightings = s.sightings ∧
    (s.recordPassage o e).hotlist = s.hotlist ∧ (s.recordPassage o e).tears = s.tears ∧
    (s.recordPassage o e).ring = s.ring ∧ (s.recordPassage o e).watch = s.watch ∧
    (s.recordPassage o e).aisle = s.aisle ∧ (s.recordPassage o e).setup = s.setup := by
  simp [State.recordPassage]

@[simp] theorem State.cancelGrants_keeps (s : State) :
    (s.cancelGrants).pending = s.pending ∧ (s.cancelGrants).freeCount = s.freeCount ∧
    (s.cancelGrants).power = s.power ∧ (s.cancelGrants).storeKept = s.storeKept ∧ (s.cancelGrants).now = s.now ∧
    (s.cancelGrants).link = s.link ∧ (s.cancelGrants).faces = s.faces ∧ (s.cancelGrants).contexts = s.contexts ∧
    (s.cancelGrants).fare = s.fare ∧ (s.cancelGrants).check = s.check ∧ (s.cancelGrants).sightings = s.sightings ∧
    (s.cancelGrants).hotlist = s.hotlist ∧ (s.cancelGrants).tears = s.tears ∧ (s.cancelGrants).ring = s.ring ∧
    (s.cancelGrants).watch = s.watch ∧ (s.cancelGrants).setup = s.setup := by
  unfold State.cancelGrants
  refine ⟨?_, ?_, ?_, ?_, ?_, ?_, ?_, ?_, ?_, ?_, ?_, ?_, ?_, ?_, ?_, ?_⟩
  · exact (foldl_keeps State.pending _ (fun _ _ => by simp) _ _).trans (by simp)
  · exact (foldl_keeps State.freeCount _ (fun _ _ => by simp) _ _).trans (by simp)
  · exact (foldl_keeps State.power _ (fun _ _ => by simp) _ _).trans (by simp)
  · exact (foldl_keeps State.storeKept _ (fun _ _ => by simp) _ _).trans (by simp)
  · exact (foldl_keeps State.now _ (fun _ _ => by simp) _ _).trans (by simp)
  · exact (foldl_keeps State.link _ (fun _ _ => by simp) _ _).trans (by simp)
  · exact (foldl_keeps State.faces _ (fun _ _ => by simp) _ _).trans (by simp)
  · exact (foldl_keeps State.contexts _ (fun _ _ => by simp) _ _).trans (by simp)
  · exact (foldl_keeps State.fare _ (fun _ _ => by simp) _ _).trans (by simp)
  · exact (foldl_keeps State.check _ (fun _ _ => by simp) _ _).trans (by simp)
  · exact (foldl_keeps State.sightings _ (fun _ _ => by simp) _ _).trans (by simp)
  · exact (foldl_keeps State.hotlist _ (fun _ _ => by simp) _ _).trans (by simp)
  · exact (foldl_keeps State.tears _ (fun _ _ => by simp) _ _).trans (by simp)
  · exact (foldl_keeps State.ring _ (fun _ _ => by simp) _ _).trans (by simp)
  · exact (foldl_keeps State.watch _ (fun _ _ => by simp) _ _).trans (by simp)
  · exact (foldl_keeps State.setup _ (fun _ _ => by simp) _ _).trans (by simp)

@[simp] theorem State.recordExpired_keeps (s : State) (d : Direction) (e : QueueEntry) :
    (s.recordExpired d e).pending = s.pending ∧ (s.recordExpired d e).freeCount = s.freeCount ∧
    (s.recordExpired d e).power = s.power ∧ (s.recordExpired d e).storeKept = s.storeKept ∧
    (s.recordExpired d e).now = s.now ∧ (s.recordExpired d e).link = s.link ∧ (s.recordExpired d e).faces = s.faces ∧
    (s.recordExpired d e).contexts = s.contexts ∧ (s.recordExpired d e).fare = s.fare ∧
    (s.recordExpired d e).check = s.check ∧ (s.recordExpired d e).sightings = s.sightings ∧
    (s.recordExpired d e).hotlist = s.hotlist ∧ (s.recordExpired d e).tears = s.tears ∧
    (s.recordExpired d e).ring = s.ring ∧ (s.recordExpired d e).watch = s.watch ∧
    (s.recordExpired d e).setup = s.setup := by
  simp [State.recordExpired]

@[simp] theorem State.passageAlarm_keeps (s : State) (r : Run) (o : PassageOutcome) :
    (s.passageAlarm r o).pending = s.pending ∧ (s.passageAlarm r o).freeCount = s.freeCount ∧
    (s.passageAlarm r o).power = s.power ∧ (s.passageAlarm r o).storeKept = s.storeKept ∧
    (s.passageAlarm r o).now = s.now ∧ (s.passageAlarm r o).link = s.link ∧ (s.passageAlarm r o).faces = s.faces ∧
    (s.passageAlarm r o).contexts = s.contexts ∧ (s.passageAlarm r o).fare = s.fare ∧
    (s.passageAlarm r o).check = s.check ∧ (s.passageAlarm r o).sightings = s.sightings ∧
    (s.passageAlarm r o).hotlist = s.hotlist ∧ (s.passageAlarm r o).tears = s.tears ∧
    (s.passageAlarm r o).ring = s.ring ∧ (s.passageAlarm r o).watch = s.watch ∧
    (s.passageAlarm r o).setup = s.setup := by
  simp [State.passageAlarm]

@[simp] theorem State.consume_keeps (s : State) (r : Run) (d : Direction) (e : QueueEntry) :
    (s.consume r d e).pending = s.pending ∧ (s.consume r d e).freeCount = s.freeCount ∧
    (s.consume r d e).power = s.power ∧ (s.consume r d e).storeKept = s.storeKept ∧ (s.consume r d e).now = s.now ∧
    (s.consume r d e).link = s.link ∧ (s.consume r d e).faces = s.faces ∧ (s.consume r d e).contexts = s.contexts ∧
    (s.consume r d e).fare = s.fare ∧ (s.consume r d e).check = s.check ∧ (s.consume r d e).sightings = s.sightings ∧
    (s.consume r d e).hotlist = s.hotlist ∧ (s.consume r d e).tears = s.tears ∧ (s.consume r d e).ring = s.ring ∧
    (s.consume r d e).watch = s.watch ∧ (s.consume r d e).setup = s.setup := by
  simp [State.consume]

@[simp] theorem State.classify_keeps (s : State) (r : Run) :
    (s.classify r).pending = s.pending ∧ (s.classify r).freeCount = s.freeCount ∧ (s.classify r).power = s.power ∧
    (s.classify r).storeKept = s.storeKept ∧ (s.classify r).now = s.now ∧ (s.classify r).link = s.link ∧
    (s.classify r).faces = s.faces ∧ (s.classify r).contexts = s.contexts ∧ (s.classify r).fare = s.fare ∧
    (s.classify r).check = s.check ∧ (s.classify r).sightings = s.sightings ∧ (s.classify r).hotlist = s.hotlist ∧
    (s.classify r).tears = s.tears ∧ (s.classify r).ring = s.ring ∧ (s.classify r).watch = s.watch ∧
    (s.classify r).setup = s.setup := by
  unfold State.classify
  (repeat' split) <;> simp

@[simp] theorem State.withdrawRun_keeps (s : State) (r : Run) :
    (s.withdrawRun r).pending = s.pending ∧ (s.withdrawRun r).freeCount = s.freeCount ∧
    (s.withdrawRun r).power = s.power ∧ (s.withdrawRun r).storeKept = s.storeKept ∧ (s.withdrawRun r).now = s.now ∧
    (s.withdrawRun r).link = s.link ∧ (s.withdrawRun r).faces = s.faces ∧ (s.withdrawRun r).contexts = s.contexts ∧
    (s.withdrawRun r).fare = s.fare ∧ (s.withdrawRun r).check = s.check ∧ (s.withdrawRun r).sightings = s.sightings ∧
    (s.withdrawRun r).hotlist = s.hotlist ∧ (s.withdrawRun r).tears = s.tears ∧
    (s.withdrawRun r).journal = s.journal ∧ (s.withdrawRun r).ring = s.ring ∧ (s.withdrawRun r).watch = s.watch ∧
    (s.withdrawRun r).setup = s.setup ∧ (s.withdrawRun r).service = s.service := by
  unfold State.withdrawRun
  split <;> simp

@[simp] theorem State.expireDeferred_keeps (s : State) (d : Direction) :
    (s.expireDeferred d).pending = s.pending ∧ (s.expireDeferred d).freeCount = s.freeCount ∧
    (s.expireDeferred d).power = s.power ∧ (s.expireDeferred d).storeKept = s.storeKept ∧
    (s.expireDeferred d).now = s.now ∧ (s.expireDeferred d).link = s.link ∧ (s.expireDeferred d).faces = s.faces ∧
    (s.expireDeferred d).contexts = s.contexts ∧ (s.expireDeferred d).fare = s.fare ∧
    (s.expireDeferred d).check = s.check ∧ (s.expireDeferred d).sightings = s.sightings ∧
    (s.expireDeferred d).hotlist = s.hotlist ∧ (s.expireDeferred d).tears = s.tears ∧
    (s.expireDeferred d).ring = s.ring ∧ (s.expireDeferred d).watch = s.watch ∧
    (s.expireDeferred d).setup = s.setup := by
  unfold State.expireDeferred
  refine ⟨?_, ?_, ?_, ?_, ?_, ?_, ?_, ?_, ?_, ?_, ?_, ?_, ?_, ?_, ?_, ?_⟩
  · exact (foldl_keeps State.pending _ (fun _ _ => by simp) _ _).trans (by simp)
  · exact (foldl_keeps State.freeCount _ (fun _ _ => by simp) _ _).trans (by simp)
  · exact (foldl_keeps State.power _ (fun _ _ => by simp) _ _).trans (by simp)
  · exact (foldl_keeps State.storeKept _ (fun _ _ => by simp) _ _).trans (by simp)
  · exact (foldl_keeps State.now _ (fun _ _ => by simp) _ _).trans (by simp)
  · exact (foldl_keeps State.link _ (fun _ _ => by simp) _ _).trans (by simp)
  · exact (foldl_keeps State.faces _ (fun _ _ => by simp) _ _).trans (by simp)
  · exact (foldl_keeps State.contexts _ (fun _ _ => by simp) _ _).trans (by simp)
  · exact (foldl_keeps State.fare _ (fun _ _ => by simp) _ _).trans (by simp)
  · exact (foldl_keeps State.check _ (fun _ _ => by simp) _ _).trans (by simp)
  · exact (foldl_keeps State.sightings _ (fun _ _ => by simp) _ _).trans (by simp)
  · exact (foldl_keeps State.hotlist _ (fun _ _ => by simp) _ _).trans (by simp)
  · exact (foldl_keeps State.tears _ (fun _ _ => by simp) _ _).trans (by simp)
  · exact (foldl_keeps State.ring _ (fun _ _ => by simp) _ _).trans (by simp)
  · exact (foldl_keeps State.watch _ (fun _ _ => by simp) _ _).trans (by simp)
  · exact (foldl_keeps State.setup _ (fun _ _ => by simp) _ _).trans (by simp)

@[simp] theorem State.endRun_keeps (s : State) (t : Word) :
    (s.endRun t).pending = s.pending ∧ (s.endRun t).freeCount = s.freeCount ∧ (s.endRun t).power = s.power ∧
    (s.endRun t).storeKept = s.storeKept ∧ (s.endRun t).now = s.now ∧ (s.endRun t).link = s.link ∧
    (s.endRun t).faces = s.faces ∧ (s.endRun t).contexts = s.contexts ∧ (s.endRun t).fare = s.fare ∧
    (s.endRun t).check = s.check ∧ (s.endRun t).sightings = s.sightings ∧ (s.endRun t).hotlist = s.hotlist ∧
    (s.endRun t).tears = s.tears ∧ (s.endRun t).ring = s.ring ∧ (s.endRun t).watch = s.watch ∧
    (s.endRun t).setup = s.setup := by
  unfold State.endRun
  (repeat' split) <;> simp

@[simp] theorem State.beamBlocked_keeps (s : State) (b : Beam) (t : Word) :
    (s.beamBlocked b t).pending = s.pending ∧ (s.beamBlocked b t).freeCount = s.freeCount ∧
    (s.beamBlocked b t).power = s.power ∧ (s.beamBlocked b t).storeKept = s.storeKept ∧
    (s.beamBlocked b t).now = s.now ∧ (s.beamBlocked b t).link = s.link ∧ (s.beamBlocked b t).faces = s.faces ∧
    (s.beamBlocked b t).contexts = s.contexts ∧ (s.beamBlocked b t).fare = s.fare ∧
    (s.beamBlocked b t).check = s.check ∧ (s.beamBlocked b t).sightings = s.sightings ∧
    (s.beamBlocked b t).hotlist = s.hotlist ∧ (s.beamBlocked b t).tears = s.tears ∧
    (s.beamBlocked b t).ring = s.ring ∧ (s.beamBlocked b t).watch = s.watch ∧
    (s.beamBlocked b t).setup = s.setup := by
  unfold State.beamBlocked
  simp only
  (repeat' split) <;> simp

@[simp] theorem State.beamCleared_keeps (s : State) (b : Beam) (t : Word) :
    (s.beamCleared b t).pending = s.pending ∧ (s.beamCleared b t).freeCount = s.freeCount ∧
    (s.beamCleared b t).power = s.power ∧ (s.beamCleared b t).storeKept = s.storeKept ∧
    (s.beamCleared b t).now = s.now ∧ (s.beamCleared b t).link = s.link ∧ (s.beamCleared b t).faces = s.faces ∧
    (s.beamCleared b t).contexts = s.contexts ∧ (s.beamCleared b t).fare = s.fare ∧
    (s.beamCleared b t).check = s.check ∧ (s.beamCleared b t).sightings = s.sightings ∧
    (s.beamCleared b t).hotlist = s.hotlist ∧ (s.beamCleared b t).tears = s.tears ∧
    (s.beamCleared b t).ring = s.ring ∧ (s.beamCleared b t).watch = s.watch ∧
    (s.beamCleared b t).setup = s.setup := by
  unfold State.beamCleared
  simp only
  split <;> simp

@[simp] theorem State.unstick_keeps (s : State) (b : Beam) :
    (s.unstick b).pending = s.pending ∧ (s.unstick b).freeCount = s.freeCount ∧ (s.unstick b).power = s.power ∧
    (s.unstick b).storeKept = s.storeKept ∧ (s.unstick b).now = s.now ∧ (s.unstick b).link = s.link ∧
    (s.unstick b).faces = s.faces ∧ (s.unstick b).contexts = s.contexts ∧ (s.unstick b).fare = s.fare ∧
    (s.unstick b).check = s.check ∧ (s.unstick b).sightings = s.sightings ∧ (s.unstick b).hotlist = s.hotlist ∧
    (s.unstick b).tears = s.tears ∧ (s.unstick b).journal = s.journal ∧ (s.unstick b).ring = s.ring ∧
    (s.unstick b).watch = s.watch ∧ (s.unstick b).setup = s.setup ∧ (s.unstick b).service = s.service := by
  simp [State.unstick]

@[simp] theorem State.startWatchAlarm_keeps (s : State) :
    (s.startWatchAlarm).pending = s.pending ∧ (s.startWatchAlarm).freeCount = s.freeCount ∧
    (s.startWatchAlarm).power = s.power ∧ (s.startWatchAlarm).storeKept = s.storeKept ∧
    (s.startWatchAlarm).now = s.now ∧ (s.startWatchAlarm).link = s.link ∧ (s.startWatchAlarm).faces = s.faces ∧
    (s.startWatchAlarm).contexts = s.contexts ∧ (s.startWatchAlarm).fare = s.fare ∧
    (s.startWatchAlarm).check = s.check ∧ (s.startWatchAlarm).sightings = s.sightings ∧
    (s.startWatchAlarm).hotlist = s.hotlist ∧ (s.startWatchAlarm).tears = s.tears ∧
    (s.startWatchAlarm).journal = s.journal ∧ (s.startWatchAlarm).ring = s.ring ∧
    (s.startWatchAlarm).watch = s.watch ∧ (s.startWatchAlarm).setup = s.setup ∧
    (s.startWatchAlarm).service = s.service := by
  simp [State.startWatchAlarm]

@[simp] theorem State.cardRemoved_keeps (s : State) (f : Face) :
    (s.cardRemoved f).pending = s.pending ∧ (s.cardRemoved f).freeCount = s.freeCount ∧
    (s.cardRemoved f).power = s.power ∧ (s.cardRemoved f).storeKept = s.storeKept ∧ (s.cardRemoved f).now = s.now ∧
    (s.cardRemoved f).link = s.link ∧ (s.cardRemoved f).faces = s.faces ∧ (s.cardRemoved f).fare = s.fare ∧
    (s.cardRemoved f).check = s.check ∧ (s.cardRemoved f).sightings = s.sightings ∧
    (s.cardRemoved f).hotlist = s.hotlist ∧ (s.cardRemoved f).tears = s.tears ∧
    (s.cardRemoved f).journal = s.journal ∧ (s.cardRemoved f).ring = s.ring ∧ (s.cardRemoved f).watch = s.watch ∧
    (s.cardRemoved f).aisle = s.aisle ∧ (s.cardRemoved f).setup = s.setup ∧
    (s.cardRemoved f).service = s.service := by
  unfold State.cardRemoved
  split <;> simp

@[simp] theorem State.fieldOnRequest_keeps (s : State) (f : Face) (r : Bool) :
    (s.fieldOnRequest f r).pending = s.pending ∧ (s.fieldOnRequest f r).freeCount = s.freeCount ∧
    (s.fieldOnRequest f r).power = s.power ∧ (s.fieldOnRequest f r).storeKept = s.storeKept ∧
    (s.fieldOnRequest f r).now = s.now ∧ (s.fieldOnRequest f r).link = s.link ∧
    (s.fieldOnRequest f r).contexts = s.contexts ∧ (s.fieldOnRequest f r).fare = s.fare ∧
    (s.fieldOnRequest f r).check = s.check ∧ (s.fieldOnRequest f r).sightings = s.sightings ∧
    (s.fieldOnRequest f r).hotlist = s.hotlist ∧ (s.fieldOnRequest f r).tears = s.tears ∧
    (s.fieldOnRequest f r).journal = s.journal ∧ (s.fieldOnRequest f r).ring = s.ring ∧
    (s.fieldOnRequest f r).watch = s.watch ∧ (s.fieldOnRequest f r).aisle = s.aisle ∧
    (s.fieldOnRequest f r).setup = s.setup ∧ (s.fieldOnRequest f r).service = s.service := by
  unfold State.fieldOnRequest
  simp only
  (repeat' split) <;> simp

@[simp] theorem State.fieldOffRequest_keeps (s : State) (f : Face) :
    (s.fieldOffRequest f).pending = s.pending ∧ (s.fieldOffRequest f).freeCount = s.freeCount ∧
    (s.fieldOffRequest f).power = s.power ∧ (s.fieldOffRequest f).storeKept = s.storeKept ∧
    (s.fieldOffRequest f).now = s.now ∧ (s.fieldOffRequest f).link = s.link ∧ (s.fieldOffRequest f).fare = s.fare ∧
    (s.fieldOffRequest f).check = s.check ∧ (s.fieldOffRequest f).sightings = s.sightings ∧
    (s.fieldOffRequest f).hotlist = s.hotlist ∧ (s.fieldOffRequest f).tears = s.tears ∧
    (s.fieldOffRequest f).journal = s.journal ∧ (s.fieldOffRequest f).ring = s.ring ∧
    (s.fieldOffRequest f).watch = s.watch ∧ (s.fieldOffRequest f).aisle = s.aisle ∧
    (s.fieldOffRequest f).setup = s.setup ∧ (s.fieldOffRequest f).service = s.service := by
  unfold State.fieldOffRequest
  simp only
  split <;> simp

@[simp] theorem State.leaveServing_keeps (s : State) (f : Face) :
    (s.leaveServing f).pending = s.pending ∧ (s.leaveServing f).freeCount = s.freeCount ∧
    (s.leaveServing f).power = s.power ∧ (s.leaveServing f).storeKept = s.storeKept ∧
    (s.leaveServing f).now = s.now ∧ (s.leaveServing f).link = s.link ∧ (s.leaveServing f).fare = s.fare ∧
    (s.leaveServing f).check = s.check ∧ (s.leaveServing f).sightings = s.sightings ∧
    (s.leaveServing f).hotlist = s.hotlist ∧ (s.leaveServing f).tears = s.tears ∧
    (s.leaveServing f).journal = s.journal ∧ (s.leaveServing f).ring = s.ring ∧ (s.leaveServing f).watch = s.watch ∧
    (s.leaveServing f).aisle = s.aisle ∧ (s.leaveServing f).setup = s.setup ∧
    (s.leaveServing f).service = s.service := by
  unfold State.leaveServing
  simp only
  (repeat' split) <;> simp

@[simp] theorem State.conclude_keeps (s : State) (f : Face) (st : CtxState) (i : Indication) (t : Option ShortTone) :
    (s.conclude f st i t).pending = s.pending ∧ (s.conclude f st i t).freeCount = s.freeCount ∧
    (s.conclude f st i t).power = s.power ∧ (s.conclude f st i t).storeKept = s.storeKept ∧
    (s.conclude f st i t).now = s.now ∧ (s.conclude f st i t).link = s.link ∧ (s.conclude f st i t).fare = s.fare ∧
    (s.conclude f st i t).check = s.check ∧ (s.conclude f st i t).sightings = s.sightings ∧
    (s.conclude f st i t).hotlist = s.hotlist ∧ (s.conclude f st i t).tears = s.tears ∧
    (s.conclude f st i t).journal = s.journal ∧ (s.conclude f st i t).ring = s.ring ∧
    (s.conclude f st i t).watch = s.watch ∧ (s.conclude f st i t).setup = s.setup ∧
    (s.conclude f st i t).service = s.service := by
  unfold State.conclude
  (repeat' split) <;> simp

@[simp] theorem State.pollCollision_keeps (s : State) (f : Face) :
    (s.pollCollision f).pending = s.pending ∧ (s.pollCollision f).freeCount = s.freeCount ∧
    (s.pollCollision f).power = s.power ∧ (s.pollCollision f).storeKept = s.storeKept ∧
    (s.pollCollision f).now = s.now ∧ (s.pollCollision f).link = s.link ∧ (s.pollCollision f).contexts = s.contexts ∧
    (s.pollCollision f).fare = s.fare ∧ (s.pollCollision f).check = s.check ∧
    (s.pollCollision f).sightings = s.sightings ∧ (s.pollCollision f).hotlist = s.hotlist ∧
    (s.pollCollision f).tears = s.tears ∧ (s.pollCollision f).journal = s.journal ∧
    (s.pollCollision f).ring = s.ring ∧ (s.pollCollision f).watch = s.watch ∧ (s.pollCollision f).setup = s.setup ∧
    (s.pollCollision f).service = s.service := by
  unfold State.pollCollision
  simp only
  split <;> simp

@[simp] theorem State.pollAnswered_keeps (s : State) (f : Face) :
    (s.pollAnswered f).pending = s.pending ∧ (s.pollAnswered f).freeCount = s.freeCount ∧
    (s.pollAnswered f).power = s.power ∧ (s.pollAnswered f).storeKept = s.storeKept ∧
    (s.pollAnswered f).now = s.now ∧ (s.pollAnswered f).link = s.link ∧ (s.pollAnswered f).fare = s.fare ∧
    (s.pollAnswered f).check = s.check ∧ (s.pollAnswered f).sightings = s.sightings ∧
    (s.pollAnswered f).hotlist = s.hotlist ∧ (s.pollAnswered f).tears = s.tears ∧
    (s.pollAnswered f).journal = s.journal ∧ (s.pollAnswered f).ring = s.ring ∧ (s.pollAnswered f).watch = s.watch ∧
    (s.pollAnswered f).aisle = s.aisle ∧ (s.pollAnswered f).setup = s.setup ∧
    (s.pollAnswered f).service = s.service := by
  unfold State.pollAnswered
  simp only
  split <;> simp

@[simp] theorem State.evaluateWatch_keeps (s : State) (f : Face) (v : WatchValues) :
    (s.evaluateWatch f v).2.pending = s.pending ∧ (s.evaluateWatch f v).2.freeCount = s.freeCount ∧
    (s.evaluateWatch f v).2.power = s.power ∧ (s.evaluateWatch f v).2.storeKept = s.storeKept ∧
    (s.evaluateWatch f v).2.now = s.now ∧ (s.evaluateWatch f v).2.link = s.link ∧
    (s.evaluateWatch f v).2.faces = s.faces ∧ (s.evaluateWatch f v).2.fare = s.fare ∧
    (s.evaluateWatch f v).2.check = s.check ∧ (s.evaluateWatch f v).2.sightings = s.sightings ∧
    (s.evaluateWatch f v).2.hotlist = s.hotlist ∧ (s.evaluateWatch f v).2.tears = s.tears ∧
    (s.evaluateWatch f v).2.journal = s.journal ∧ (s.evaluateWatch f v).2.ring = s.ring ∧
    (s.evaluateWatch f v).2.setup = s.setup := by
  unfold State.evaluateWatch
  (repeat' split) <;> simp

@[simp] theorem State.lateAlert_keeps (s : State) (f : Face) (k : EvidenceKind) (q : Word) :
    (s.lateAlert f k q).pending = s.pending ∧ (s.lateAlert f k q).freeCount = s.freeCount ∧
    (s.lateAlert f k q).power = s.power ∧ (s.lateAlert f k q).storeKept = s.storeKept ∧
    (s.lateAlert f k q).now = s.now ∧ (s.lateAlert f k q).link = s.link ∧ (s.lateAlert f k q).faces = s.faces ∧
    (s.lateAlert f k q).contexts = s.contexts ∧ (s.lateAlert f k q).fare = s.fare ∧
    (s.lateAlert f k q).check = s.check ∧ (s.lateAlert f k q).sightings = s.sightings ∧
    (s.lateAlert f k q).hotlist = s.hotlist ∧ (s.lateAlert f k q).tears = s.tears ∧
    (s.lateAlert f k q).ring = s.ring ∧ (s.lateAlert f k q).watch = s.watch ∧ (s.lateAlert f k q).aisle = s.aisle ∧
    (s.lateAlert f k q).setup = s.setup := by
  simp [State.lateAlert]

@[simp] theorem State.closeRecord_keeps (s : State) (f : Face) (o : TxOutcome) (x : RecordFields) (n : CtxState) :
    (s.closeRecord f o x n).pending = s.pending ∧ (s.closeRecord f o x n).freeCount = s.freeCount ∧
    (s.closeRecord f o x n).power = s.power ∧ (s.closeRecord f o x n).storeKept = s.storeKept ∧
    (s.closeRecord f o x n).now = s.now ∧ (s.closeRecord f o x n).link = s.link ∧
    (s.closeRecord f o x n).faces = s.faces ∧ (s.closeRecord f o x n).fare = s.fare ∧
    (s.closeRecord f o x n).check = s.check ∧ (s.closeRecord f o x n).sightings = s.sightings ∧
    (s.closeRecord f o x n).hotlist = s.hotlist ∧ (s.closeRecord f o x n).tears = s.tears ∧
    (s.closeRecord f o x n).ring = s.ring ∧ (s.closeRecord f o x n).aisle = s.aisle ∧
    (s.closeRecord f o x n).setup = s.setup := by
  unfold State.closeRecord
  split <;> simp

@[simp] theorem State.cleanUp_keeps (s : State) (f : Face) :
    (s.cleanUp f).pending = s.pending ∧ (s.cleanUp f).freeCount = s.freeCount ∧ (s.cleanUp f).power = s.power ∧
    (s.cleanUp f).storeKept = s.storeKept ∧ (s.cleanUp f).now = s.now ∧ (s.cleanUp f).link = s.link ∧
    (s.cleanUp f).faces = s.faces ∧ (s.cleanUp f).fare = s.fare ∧ (s.cleanUp f).check = s.check ∧
    (s.cleanUp f).tears = s.tears ∧ (s.cleanUp f).journal = s.journal ∧ (s.cleanUp f).watch = s.watch ∧
    (s.cleanUp f).setup = s.setup ∧ (s.cleanUp f).service = s.service := by
  simp [State.cleanUp]

@[simp] theorem State.endRefused_keeps (s : State) (f : Face) (r : Reason) :
    (s.endRefused f r).pending = s.pending ∧ (s.endRefused f r).freeCount = s.freeCount ∧
    (s.endRefused f r).power = s.power ∧ (s.endRefused f r).storeKept = s.storeKept ∧
    (s.endRefused f r).now = s.now ∧ (s.endRefused f r).link = s.link ∧ (s.endRefused f r).fare = s.fare ∧
    (s.endRefused f r).check = s.check ∧ (s.endRefused f r).tears = s.tears ∧ (s.endRefused f r).setup = s.setup := by
  simp [State.endRefused]

@[simp] theorem State.endAbandoned_keeps (s : State) (f : Face) :
    (s.endAbandoned f).pending = s.pending ∧ (s.endAbandoned f).freeCount = s.freeCount ∧
    (s.endAbandoned f).power = s.power ∧ (s.endAbandoned f).storeKept = s.storeKept ∧
    (s.endAbandoned f).now = s.now ∧ (s.endAbandoned f).link = s.link ∧ (s.endAbandoned f).fare = s.fare ∧
    (s.endAbandoned f).check = s.check ∧ (s.endAbandoned f).tears = s.tears ∧ (s.endAbandoned f).setup = s.setup := by
  simp [State.endAbandoned]

@[simp] theorem State.refuseBefore_keeps (s : State) (f : Face) :
    (s.refuseBefore f).pending = s.pending ∧ (s.refuseBefore f).freeCount = s.freeCount ∧
    (s.refuseBefore f).power = s.power ∧ (s.refuseBefore f).storeKept = s.storeKept ∧
    (s.refuseBefore f).now = s.now ∧ (s.refuseBefore f).link = s.link ∧ (s.refuseBefore f).fare = s.fare ∧
    (s.refuseBefore f).check = s.check ∧ (s.refuseBefore f).sightings = s.sightings ∧
    (s.refuseBefore f).hotlist = s.hotlist ∧ (s.refuseBefore f).tears = s.tears ∧
    (s.refuseBefore f).journal = s.journal ∧ (s.refuseBefore f).ring = s.ring ∧ (s.refuseBefore f).watch = s.watch ∧
    (s.refuseBefore f).setup = s.setup ∧ (s.refuseBefore f).service = s.service := by
  simp [State.refuseBefore]

@[simp] theorem State.endFailed_keeps (s : State) (f : Face) (r : Reason) :
    (s.endFailed f r).pending = s.pending ∧ (s.endFailed f r).freeCount = s.freeCount ∧
    (s.endFailed f r).power = s.power ∧ (s.endFailed f r).storeKept = s.storeKept ∧ (s.endFailed f r).now = s.now ∧
    (s.endFailed f r).link = s.link ∧ (s.endFailed f r).fare = s.fare ∧ (s.endFailed f r).check = s.check ∧
    (s.endFailed f r).tears = s.tears ∧ (s.endFailed f r).setup = s.setup := by
  simp [State.endFailed]

@[simp] theorem State.endLost_keeps (s : State) (f : Face) :
    (s.endLost f).pending = s.pending ∧ (s.endLost f).freeCount = s.freeCount ∧ (s.endLost f).power = s.power ∧
    (s.endLost f).storeKept = s.storeKept ∧ (s.endLost f).now = s.now ∧ (s.endLost f).link = s.link ∧
    (s.endLost f).fare = s.fare ∧ (s.endLost f).check = s.check ∧ (s.endLost f).tears = s.tears ∧
    (s.endLost f).setup = s.setup := by
  unfold State.endLost
  split <;> simp

@[simp] theorem State.turnToBlock_keeps (s : State) (f : Face) (k : EvidenceKind) :
    (s.turnToBlock f k).2.pending = s.pending ∧ (s.turnToBlock f k).2.freeCount = s.freeCount ∧
    (s.turnToBlock f k).2.power = s.power ∧ (s.turnToBlock f k).2.storeKept = s.storeKept ∧
    (s.turnToBlock f k).2.now = s.now ∧ (s.turnToBlock f k).2.link = s.link ∧ (s.turnToBlock f k).2.faces = s.faces ∧
    (s.turnToBlock f k).2.fare = s.fare ∧ (s.turnToBlock f k).2.check = s.check ∧
    (s.turnToBlock f k).2.sightings = s.sightings ∧ (s.turnToBlock f k).2.tears = s.tears ∧
    (s.turnToBlock f k).2.journal = s.journal ∧ (s.turnToBlock f k).2.watch = s.watch ∧
    (s.turnToBlock f k).2.aisle = s.aisle ∧ (s.turnToBlock f k).2.setup = s.setup := by
  unfold State.turnToBlock
  simp only
  split <;> simp

@[simp] theorem State.findEvidence_keeps (s : State) (f : Face) (k : EvidenceKind) :
    (s.findEvidence f k).2.pending = s.pending ∧ (s.findEvidence f k).2.freeCount = s.freeCount ∧
    (s.findEvidence f k).2.power = s.power ∧ (s.findEvidence f k).2.storeKept = s.storeKept ∧
    (s.findEvidence f k).2.now = s.now ∧ (s.findEvidence f k).2.link = s.link ∧
    (s.findEvidence f k).2.faces = s.faces ∧ (s.findEvidence f k).2.fare = s.fare ∧
    (s.findEvidence f k).2.check = s.check ∧ (s.findEvidence f k).2.sightings = s.sightings ∧
    (s.findEvidence f k).2.tears = s.tears ∧ (s.findEvidence f k).2.journal = s.journal ∧
    (s.findEvidence f k).2.watch = s.watch ∧ (s.findEvidence f k).2.aisle = s.aisle ∧
    (s.findEvidence f k).2.setup = s.setup := by
  unfold State.findEvidence
  simp only
  split <;> simp

@[simp] theorem State.findAll_keeps (s : State) (f : Face) (l : List EvidenceKind) :
    (s.findAll f l).2.pending = s.pending ∧ (s.findAll f l).2.freeCount = s.freeCount ∧
    (s.findAll f l).2.power = s.power ∧ (s.findAll f l).2.storeKept = s.storeKept ∧ (s.findAll f l).2.now = s.now ∧
    (s.findAll f l).2.link = s.link ∧ (s.findAll f l).2.faces = s.faces ∧ (s.findAll f l).2.fare = s.fare ∧
    (s.findAll f l).2.check = s.check ∧ (s.findAll f l).2.sightings = s.sightings ∧
    (s.findAll f l).2.tears = s.tears ∧ (s.findAll f l).2.journal = s.journal ∧ (s.findAll f l).2.watch = s.watch ∧
    (s.findAll f l).2.aisle = s.aisle ∧ (s.findAll f l).2.setup = s.setup := by
  induction l generalizing s with
  | nil => simp [State.findAll]
  | cons k ks ih =>
    have h := State.findEvidence_keeps s f k
    unfold State.findAll
    generalize hx : s.findEvidence f k = x at h
    obtain ⟨v, t⟩ := x
    cases v
    · have := ih t; simp_all
    · simp only; split <;> simp_all
    · simp_all

@[simp] theorem State.stagePoint_keeps (s : State) (f : Face) (x : CardImage) :
    (s.stagePoint f x).pending = s.pending ∧ (s.stagePoint f x).freeCount = s.freeCount ∧
    (s.stagePoint f x).power = s.power ∧ (s.stagePoint f x).storeKept = s.storeKept ∧
    (s.stagePoint f x).now = s.now ∧ (s.stagePoint f x).link = s.link ∧ (s.stagePoint f x).fare = s.fare ∧
    (s.stagePoint f x).check = s.check ∧ (s.stagePoint f x).tears = s.tears ∧ (s.stagePoint f x).setup = s.setup := by
  unfold State.stagePoint
  split <;> simp

@[simp] theorem State.blockStage_keeps (s : State) (f : Face) :
    (s.blockStage f).pending = s.pending ∧ (s.blockStage f).freeCount = s.freeCount ∧
    (s.blockStage f).power = s.power ∧ (s.blockStage f).storeKept = s.storeKept ∧ (s.blockStage f).now = s.now ∧
    (s.blockStage f).link = s.link ∧ (s.blockStage f).fare = s.fare ∧ (s.blockStage f).check = s.check ∧
    (s.blockStage f).tears = s.tears ∧ (s.blockStage f).setup = s.setup := by
  unfold State.blockStage
  split <;> simp

@[simp] theorem State.charge_keeps (s : State) (f : Face) (c : CardImage) :
    (s.charge f c).pending = s.pending ∧ (s.charge f c).freeCount = s.freeCount ∧ (s.charge f c).power = s.power ∧
    (s.charge f c).storeKept = s.storeKept ∧ (s.charge f c).now = s.now ∧ (s.charge f c).link = s.link ∧
    (s.charge f c).fare = s.fare ∧ (s.charge f c).check = s.check ∧ (s.charge f c).tears = s.tears ∧
    (s.charge f c).setup = s.setup := by
  unfold State.charge
  split
  · simp
  · split
    · simp
    · simp only
      rename_i r _
      have h := State.evaluateWatch_keeps (s.setContext f { s.context f with fare := some r }) f (watchValues f c r)
      generalize (s.setContext f { s.context f with fare := some r }).evaluateWatch f (watchValues f c r) = x at h ⊢
      obtain ⟨v, t⟩ := x
      cases v <;> simp_all

@[simp] theorem State.deciding_keeps (s : State) (f : Face) :
    (s.deciding f).pending = s.pending ∧ (s.deciding f).freeCount = s.freeCount ∧ (s.deciding f).power = s.power ∧
    (s.deciding f).storeKept = s.storeKept ∧ (s.deciding f).now = s.now ∧ (s.deciding f).link = s.link ∧
    (s.deciding f).fare = s.fare ∧ (s.deciding f).check = s.check ∧ (s.deciding f).tears = s.tears ∧
    (s.deciding f).setup = s.setup := by
  unfold State.deciding
  by_cases hc : (s.context f).claimed = true ∧ (s.context f).flagged.contains .concurrent = false
  · have h := State.findEvidence_keeps
      (s.setContext f { s.context f with state := .deciding, ringTimer := none, contested := false, notes := [] }) f .concurrent
    simp only [hc, and_self, if_true]
    generalize State.findEvidence _ f .concurrent = x at h ⊢
    obtain ⟨v, t⟩ := x
    cases v
    · cases (s.context f).image <;> simp_all
    · simp_all
    · simp_all
  · simp only [hc, if_false]
    cases (s.context f).image <;> simp

@[simp] theorem State.sendHold_keeps (s : State) (f : Face) (h : Half) :
    (s.sendHold f h).pending = s.pending ∧ (s.sendHold f h).freeCount = s.freeCount ∧
    (s.sendHold f h).power = s.power ∧ (s.sendHold f h).storeKept = s.storeKept ∧ (s.sendHold f h).now = s.now ∧
    (s.sendHold f h).link = s.link ∧ (s.sendHold f h).fare = s.fare ∧ (s.sendHold f h).check = s.check ∧
    (s.sendHold f h).tears = s.tears ∧ (s.sendHold f h).setup = s.setup := by
  unfold State.sendHold
  split <;> simp

@[simp] theorem State.checkSightings_keeps (s : State) (f : Face) (c : CardImage) :
    (s.checkSightings f c).pending = s.pending ∧ (s.checkSightings f c).freeCount = s.freeCount ∧
    (s.checkSightings f c).power = s.power ∧ (s.checkSightings f c).storeKept = s.storeKept ∧
    (s.checkSightings f c).now = s.now ∧ (s.checkSightings f c).link = s.link ∧
    (s.checkSightings f c).fare = s.fare ∧ (s.checkSightings f c).check = s.check ∧
    (s.checkSightings f c).tears = s.tears ∧ (s.checkSightings f c).setup = s.setup := by
  unfold State.checkSightings
  have h := State.findAll_keeps s f (s.sightingFindings f c)
  generalize s.findAll f (s.sightingFindings f c) = x at h ⊢
  obtain ⟨v, t⟩ := x
  cases v <;> simp_all

@[simp] theorem State.nameEvidence_keeps (s : State) (f : Face) (t : CardStatus) :
    (s.nameEvidence f t).2.pending = s.pending ∧ (s.nameEvidence f t).2.freeCount = s.freeCount ∧
    (s.nameEvidence f t).2.power = s.power ∧ (s.nameEvidence f t).2.storeKept = s.storeKept ∧
    (s.nameEvidence f t).2.now = s.now ∧ (s.nameEvidence f t).2.link = s.link ∧
    (s.nameEvidence f t).2.faces = s.faces ∧ (s.nameEvidence f t).2.fare = s.fare ∧
    (s.nameEvidence f t).2.check = s.check ∧ (s.nameEvidence f t).2.sightings = s.sightings ∧
    (s.nameEvidence f t).2.tears = s.tears ∧ (s.nameEvidence f t).2.journal = s.journal ∧
    (s.nameEvidence f t).2.watch = s.watch ∧ (s.nameEvidence f t).2.aisle = s.aisle ∧
    (s.nameEvidence f t).2.setup = s.setup := by
  unfold State.nameEvidence
  by_cases ht : t = .blocked
  · have h := State.findEvidence_keeps s f .blocked
    simp only [ht, if_true]
    generalize s.findEvidence f .blocked = x at h ⊢
    obtain ⟨v, u⟩ := x
    cases v
    · have g := State.findEvidence_keeps u f .hotlisted
      by_cases hh : u.hotlisted (u.context f).number = true <;> simp_all
    · simp_all
    · simp_all
  · by_cases hh : s.hotlisted (s.context f).number = true <;> simp [ht, hh]

@[simp] theorem State.startReading_keeps (s : State) (f : Face) :
    (s.startReading f).pending = s.pending ∧ (s.startReading f).freeCount = s.freeCount ∧
    (s.startReading f).power = s.power ∧ (s.startReading f).storeKept = s.storeKept ∧
    (s.startReading f).now = s.now ∧ (s.startReading f).link = s.link ∧ (s.startReading f).fare = s.fare ∧
    (s.startReading f).check = s.check ∧ (s.startReading f).sightings = s.sightings ∧
    (s.startReading f).hotlist = s.hotlist ∧ (s.startReading f).tears = s.tears ∧
    (s.startReading f).journal = s.journal ∧ (s.startReading f).ring = s.ring ∧ (s.startReading f).watch = s.watch ∧
    (s.startReading f).aisle = s.aisle ∧ (s.startReading f).setup = s.setup ∧
    (s.startReading f).service = s.service := by
  simp [State.startReading]

@[simp] theorem State.nameChecks_keeps (s : State) (f : Face) (a : NameAnswer) :
    (s.nameChecks f a).pending = s.pending ∧ (s.nameChecks f a).freeCount = s.freeCount ∧
    (s.nameChecks f a).power = s.power ∧ (s.nameChecks f a).storeKept = s.storeKept ∧
    (s.nameChecks f a).now = s.now ∧ (s.nameChecks f a).link = s.link ∧ (s.nameChecks f a).fare = s.fare ∧
    (s.nameChecks f a).check = s.check ∧ (s.nameChecks f a).tears = s.tears ∧ (s.nameChecks f a).setup = s.setup := by
  unfold State.nameChecks
  cases s.check.keys.toList[a.generation.toNat]? with
  | none => simp
  | some slot =>
    cases hk : slot.state with
    | empty => simp [hk]
    | retired => simp [hk]
    | active =>
      have h := State.nameEvidence_keeps (s.setContext f { s.context f with key := some slot.key }) f a.status
      simp only [hk]
      generalize (s.setContext f { s.context f with key := some slot.key }).nameEvidence f a.status = x at h ⊢
      obtain ⟨v, u⟩ := x
      cases v <;> simp_all

@[simp] theorem State.admit_keeps (s : State) (f : Face) (a : NameAnswer) :
    (s.admitCard f a).pending = s.pending ∧ (s.admitCard f a).freeCount = s.freeCount ∧ (s.admitCard f a).power = s.power ∧
    (s.admitCard f a).storeKept = s.storeKept ∧ (s.admitCard f a).now = s.now ∧ (s.admitCard f a).link = s.link ∧
    (s.admitCard f a).fare = s.fare ∧ (s.admitCard f a).check = s.check ∧ (s.admitCard f a).tears = s.tears ∧
    (s.admitCard f a).setup = s.setup := by
  unfold State.admitCard
  simp only
  split <;> simp

@[simp] theorem State.dropTear_keeps (s : State) (n : CardNumber) :
    (s.dropTear n).pending = s.pending ∧ (s.dropTear n).freeCount = s.freeCount ∧ (s.dropTear n).power = s.power ∧
    (s.dropTear n).storeKept = s.storeKept ∧ (s.dropTear n).now = s.now ∧ (s.dropTear n).link = s.link ∧
    (s.dropTear n).faces = s.faces ∧ (s.dropTear n).contexts = s.contexts ∧ (s.dropTear n).fare = s.fare ∧
    (s.dropTear n).check = s.check ∧ (s.dropTear n).sightings = s.sightings ∧ (s.dropTear n).hotlist = s.hotlist ∧
    (s.dropTear n).journal = s.journal ∧ (s.dropTear n).ring = s.ring ∧ (s.dropTear n).watch = s.watch ∧
    (s.dropTear n).aisle = s.aisle ∧ (s.dropTear n).setup = s.setup ∧ (s.dropTear n).service = s.service := by
  simp [State.dropTear]

@[simp] theorem State.resolveTear_keeps (s : State) (o : TearOutcome) (e : TearEntry) (c : Option Half) :
    (s.resolveTear o e c).pending = s.pending ∧ (s.resolveTear o e c).freeCount = s.freeCount ∧
    (s.resolveTear o e c).power = s.power ∧ (s.resolveTear o e c).storeKept = s.storeKept ∧
    (s.resolveTear o e c).now = s.now ∧ (s.resolveTear o e c).link = s.link ∧ (s.resolveTear o e c).faces = s.faces ∧
    (s.resolveTear o e c).contexts = s.contexts ∧ (s.resolveTear o e c).fare = s.fare ∧
    (s.resolveTear o e c).check = s.check ∧ (s.resolveTear o e c).sightings = s.sightings ∧
    (s.resolveTear o e c).hotlist = s.hotlist ∧ (s.resolveTear o e c).ring = s.ring ∧
    (s.resolveTear o e c).watch = s.watch ∧ (s.resolveTear o e c).aisle = s.aisle ∧
    (s.resolveTear o e c).setup = s.setup := by
  simp [State.resolveTear]

@[simp] theorem State.tearRoom_keeps (s : State) :
    (s.tearRoom).pending = s.pending ∧ (s.tearRoom).power = s.power ∧ (s.tearRoom).storeKept = s.storeKept ∧
    (s.tearRoom).now = s.now ∧ (s.tearRoom).link = s.link ∧ (s.tearRoom).faces = s.faces ∧
    (s.tearRoom).contexts = s.contexts ∧ (s.tearRoom).fare = s.fare ∧ (s.tearRoom).check = s.check ∧
    (s.tearRoom).sightings = s.sightings ∧ (s.tearRoom).hotlist = s.hotlist ∧ (s.tearRoom).ring = s.ring ∧
    (s.tearRoom).watch = s.watch ∧ (s.tearRoom).aisle = s.aisle ∧ (s.tearRoom).setup = s.setup := by
  unfold State.tearRoom
  (repeat' split) <;> simp

@[simp] theorem State.commit_keeps (s : State) (f : Face) :
    (s.commit f).pending = s.pending ∧ (s.commit f).power = s.power ∧ (s.commit f).storeKept = s.storeKept ∧
    (s.commit f).now = s.now ∧ (s.commit f).link = s.link ∧ (s.commit f).fare = s.fare ∧
    (s.commit f).check = s.check ∧ (s.commit f).setup = s.setup := by
  unfold State.commit State.makePending
  simp only
  split
  · rename_i s1 h
    split at h
    · split at h
      · cases h
      · cases h; simp
    · cases h; simp
  · split <;> simp

@[simp] theorem State.readyToCommit_keeps (s : State) (f : Face) :
    (s.readyToCommit f).pending = s.pending ∧ (s.readyToCommit f).power = s.power ∧
    (s.readyToCommit f).storeKept = s.storeKept ∧ (s.readyToCommit f).now = s.now ∧
    (s.readyToCommit f).link = s.link ∧ (s.readyToCommit f).fare = s.fare ∧ (s.readyToCommit f).check = s.check ∧
    (s.readyToCommit f).setup = s.setup := by
  unfold State.readyToCommit
  simp only
  (repeat' split) <;> simp

@[simp] theorem State.confirmFare_keeps (s : State) (f : Face) (i : CardImage) :
    (s.confirmFare f i).pending = s.pending ∧ (s.confirmFare f i).freeCount = s.freeCount ∧
    (s.confirmFare f i).power = s.power ∧ (s.confirmFare f i).storeKept = s.storeKept ∧
    (s.confirmFare f i).now = s.now ∧ (s.confirmFare f i).link = s.link ∧ (s.confirmFare f i).fare = s.fare ∧
    (s.confirmFare f i).check = s.check ∧ (s.confirmFare f i).setup = s.setup := by
  simp [State.confirmFare]

@[simp] theorem State.confirmBlock_keeps (s : State) (f : Face) (i : CardImage) :
    (s.confirmBlock f i).pending = s.pending ∧ (s.confirmBlock f i).freeCount = s.freeCount ∧
    (s.confirmBlock f i).power = s.power ∧ (s.confirmBlock f i).storeKept = s.storeKept ∧
    (s.confirmBlock f i).now = s.now ∧ (s.confirmBlock f i).link = s.link ∧ (s.confirmBlock f i).fare = s.fare ∧
    (s.confirmBlock f i).check = s.check ∧ (s.confirmBlock f i).setup = s.setup := by
  simp [State.confirmBlock]

@[simp] theorem State.confirmWrite_keeps (s : State) (f : Face) :
    (s.confirmWrite f).pending = s.pending ∧ (s.confirmWrite f).freeCount = s.freeCount ∧
    (s.confirmWrite f).power = s.power ∧ (s.confirmWrite f).storeKept = s.storeKept ∧
    (s.confirmWrite f).now = s.now ∧ (s.confirmWrite f).link = s.link ∧ (s.confirmWrite f).fare = s.fare ∧
    (s.confirmWrite f).check = s.check ∧ (s.confirmWrite f).setup = s.setup := by
  unfold State.confirmWrite
  (repeat' split) <;> simp

@[simp] theorem State.notWritten_keeps (s : State) (f : Face) :
    (s.notWritten f).pending = s.pending ∧ (s.notWritten f).freeCount = s.freeCount ∧
    (s.notWritten f).power = s.power ∧ (s.notWritten f).storeKept = s.storeKept ∧ (s.notWritten f).now = s.now ∧
    (s.notWritten f).link = s.link ∧ (s.notWritten f).fare = s.fare ∧ (s.notWritten f).check = s.check ∧
    (s.notWritten f).setup = s.setup := by
  simp [State.notWritten]

@[simp] theorem State.tornWrite_keeps (s : State) (f : Face) :
    (s.tornWrite f).pending = s.pending ∧ (s.tornWrite f).freeCount = s.freeCount ∧ (s.tornWrite f).power = s.power ∧
    (s.tornWrite f).storeKept = s.storeKept ∧ (s.tornWrite f).now = s.now ∧ (s.tornWrite f).link = s.link ∧
    (s.tornWrite f).fare = s.fare ∧ (s.tornWrite f).check = s.check ∧ (s.tornWrite f).setup = s.setup := by
  unfold State.tornWrite
  simp only
  split <;> simp

@[simp] theorem State.recoverSighting_keeps (s : State) (e : TearEntry) (b : List Byte) :
    (s.recoverSighting e b).pending = s.pending ∧ (s.recoverSighting e b).freeCount = s.freeCount ∧
    (s.recoverSighting e b).power = s.power ∧ (s.recoverSighting e b).storeKept = s.storeKept ∧
    (s.recoverSighting e b).now = s.now ∧ (s.recoverSighting e b).link = s.link ∧
    (s.recoverSighting e b).faces = s.faces ∧ (s.recoverSighting e b).contexts = s.contexts ∧
    (s.recoverSighting e b).fare = s.fare ∧ (s.recoverSighting e b).check = s.check ∧
    (s.recoverSighting e b).hotlist = s.hotlist ∧ (s.recoverSighting e b).tears = s.tears ∧
    (s.recoverSighting e b).journal = s.journal ∧ (s.recoverSighting e b).watch = s.watch ∧
    (s.recoverSighting e b).aisle = s.aisle ∧ (s.recoverSighting e b).setup = s.setup ∧
    (s.recoverSighting e b).service = s.service := by
  simp [State.recoverSighting]

@[simp] theorem State.recoverHere_keeps (s : State) (f : Face) (e : TearEntry) (b : List Byte) :
    (s.recoverHere f e b).pending = s.pending ∧ (s.recoverHere f e b).freeCount = s.freeCount ∧
    (s.recoverHere f e b).power = s.power ∧ (s.recoverHere f e b).storeKept = s.storeKept ∧
    (s.recoverHere f e b).now = s.now ∧ (s.recoverHere f e b).link = s.link ∧ (s.recoverHere f e b).fare = s.fare ∧
    (s.recoverHere f e b).check = s.check ∧ (s.recoverHere f e b).setup = s.setup := by
  simp [State.recoverHere]

@[simp] theorem State.recoverElsewhere_keeps (s : State) (e : TearEntry) (b : List Byte) :
    (s.recoverElsewhere e b).pending = s.pending ∧ (s.recoverElsewhere e b).freeCount = s.freeCount ∧
    (s.recoverElsewhere e b).power = s.power ∧ (s.recoverElsewhere e b).storeKept = s.storeKept ∧
    (s.recoverElsewhere e b).now = s.now ∧ (s.recoverElsewhere e b).link = s.link ∧
    (s.recoverElsewhere e b).faces = s.faces ∧ (s.recoverElsewhere e b).contexts = s.contexts ∧
    (s.recoverElsewhere e b).fare = s.fare ∧ (s.recoverElsewhere e b).check = s.check ∧
    (s.recoverElsewhere e b).hotlist = s.hotlist ∧ (s.recoverElsewhere e b).watch = s.watch ∧
    (s.recoverElsewhere e b).aisle = s.aisle ∧ (s.recoverElsewhere e b).setup = s.setup := by
  simp [State.recoverElsewhere]

@[simp] theorem State.resolveAtRead_keeps (s : State) (f : Face) (b : List Byte) :
    (s.resolveAtRead f b).2.pending = s.pending ∧ (s.resolveAtRead f b).2.freeCount = s.freeCount ∧
    (s.resolveAtRead f b).2.power = s.power ∧ (s.resolveAtRead f b).2.storeKept = s.storeKept ∧
    (s.resolveAtRead f b).2.now = s.now ∧ (s.resolveAtRead f b).2.link = s.link ∧
    (s.resolveAtRead f b).2.fare = s.fare ∧ (s.resolveAtRead f b).2.check = s.check ∧
    (s.resolveAtRead f b).2.setup = s.setup := by
  unfold State.resolveAtRead
  simp only
  (repeat' split) <;> simp

@[simp] theorem State.startProving_keeps (s : State) (f : Face) :
    (s.startProving f).pending = s.pending ∧ (s.startProving f).freeCount = s.freeCount ∧
    (s.startProving f).power = s.power ∧ (s.startProving f).storeKept = s.storeKept ∧
    (s.startProving f).now = s.now ∧ (s.startProving f).link = s.link ∧ (s.startProving f).fare = s.fare ∧
    (s.startProving f).sightings = s.sightings ∧ (s.startProving f).hotlist = s.hotlist ∧
    (s.startProving f).tears = s.tears ∧ (s.startProving f).journal = s.journal ∧ (s.startProving f).ring = s.ring ∧
    (s.startProving f).watch = s.watch ∧ (s.startProving f).aisle = s.aisle ∧ (s.startProving f).setup = s.setup ∧
    (s.startProving f).service = s.service := by
  simp [State.startProving]

@[simp] theorem State.readImage_keeps (s : State) (f : Face) (b : List Byte) :
    (s.readImage f b).pending = s.pending ∧ (s.readImage f b).freeCount = s.freeCount ∧
    (s.readImage f b).power = s.power ∧ (s.readImage f b).storeKept = s.storeKept ∧ (s.readImage f b).now = s.now ∧
    (s.readImage f b).link = s.link ∧ (s.readImage f b).fare = s.fare ∧ (s.readImage f b).setup = s.setup := by
  unfold State.readImage
  have h := State.resolveAtRead_keeps s f b
  generalize s.resolveAtRead f b = x at h ⊢
  obtain ⟨v, t⟩ := x
  cases v
  · simp_all
  · simp only
    split
    · simp_all
    · split <;> simp_all

@[simp] theorem State.confirmRead_keeps (s : State) (f : Face) (b : List Byte) :
    (s.confirmRead f b).pending = s.pending ∧ (s.confirmRead f b).freeCount = s.freeCount ∧
    (s.confirmRead f b).power = s.power ∧ (s.confirmRead f b).storeKept = s.storeKept ∧
    (s.confirmRead f b).now = s.now ∧ (s.confirmRead f b).link = s.link ∧ (s.confirmRead f b).fare = s.fare ∧
    (s.confirmRead f b).check = s.check ∧ (s.confirmRead f b).setup = s.setup := by
  unfold State.confirmRead
  simp only
  (repeat' split) <;> simp

@[simp] theorem State.cardLost_keeps (s : State) (f : Face) :
    (s.cardLost f).pending = s.pending ∧ (s.cardLost f).freeCount = s.freeCount ∧ (s.cardLost f).power = s.power ∧
    (s.cardLost f).storeKept = s.storeKept ∧ (s.cardLost f).now = s.now ∧ (s.cardLost f).link = s.link ∧
    (s.cardLost f).fare = s.fare ∧ (s.cardLost f).check = s.check ∧ (s.cardLost f).setup = s.setup := by
  unfold State.cardLost
  split <;> simp

@[simp] theorem State.settleTimeout_keeps (s : State) (f : Face) :
    (s.settleTimeout f).pending = s.pending ∧ (s.settleTimeout f).freeCount = s.freeCount ∧
    (s.settleTimeout f).power = s.power ∧ (s.settleTimeout f).storeKept = s.storeKept ∧
    (s.settleTimeout f).now = s.now ∧ (s.settleTimeout f).link = s.link ∧ (s.settleTimeout f).fare = s.fare ∧
    (s.settleTimeout f).check = s.check ∧ (s.settleTimeout f).sightings = s.sightings ∧
    (s.settleTimeout f).hotlist = s.hotlist ∧ (s.settleTimeout f).tears = s.tears ∧
    (s.settleTimeout f).journal = s.journal ∧ (s.settleTimeout f).ring = s.ring ∧
    (s.settleTimeout f).watch = s.watch ∧ (s.settleTimeout f).aisle = s.aisle ∧ (s.settleTimeout f).setup = s.setup ∧
    (s.settleTimeout f).service = s.service := by
  simp [State.settleTimeout]

@[simp] theorem State.removeReservation_keeps (s : State) (f : Face) :
    (s.removeReservation f).pending = s.pending ∧ (s.removeReservation f).freeCount = s.freeCount ∧
    (s.removeReservation f).power = s.power ∧ (s.removeReservation f).storeKept = s.storeKept ∧
    (s.removeReservation f).now = s.now ∧ (s.removeReservation f).link = s.link ∧
    (s.removeReservation f).faces = s.faces ∧ (s.removeReservation f).fare = s.fare ∧
    (s.removeReservation f).check = s.check ∧ (s.removeReservation f).sightings = s.sightings ∧
    (s.removeReservation f).hotlist = s.hotlist ∧ (s.removeReservation f).tears = s.tears ∧
    (s.removeReservation f).journal = s.journal ∧ (s.removeReservation f).ring = s.ring ∧
    (s.removeReservation f).watch = s.watch ∧ (s.removeReservation f).setup = s.setup ∧
    (s.removeReservation f).service = s.service := by
  unfold State.removeReservation
  split <;> simp

@[simp] theorem State.abortContext_keeps (s : State) (f : Face) (r : Reason) :
    (s.abortContext f r).pending = s.pending ∧ (s.abortContext f r).freeCount = s.freeCount ∧
    (s.abortContext f r).power = s.power ∧ (s.abortContext f r).storeKept = s.storeKept ∧
    (s.abortContext f r).now = s.now ∧ (s.abortContext f r).link = s.link ∧ (s.abortContext f r).fare = s.fare ∧
    (s.abortContext f r).check = s.check ∧ (s.abortContext f r).tears = s.tears ∧
    (s.abortContext f r).setup = s.setup := by
  unfold State.abortContext
  split <;> simp

@[simp] theorem State.abortContexts_keeps (s : State) (r : Reason) :
    (s.abortContexts r).pending = s.pending ∧ (s.abortContexts r).freeCount = s.freeCount ∧
    (s.abortContexts r).power = s.power ∧ (s.abortContexts r).storeKept = s.storeKept ∧
    (s.abortContexts r).now = s.now ∧ (s.abortContexts r).link = s.link ∧ (s.abortContexts r).fare = s.fare ∧
    (s.abortContexts r).check = s.check ∧ (s.abortContexts r).tears = s.tears ∧
    (s.abortContexts r).setup = s.setup := by
  simp [State.abortContexts]

@[simp] theorem State.fieldRequests_keeps (s : State) (o n : ServiceState) :
    (s.fieldRequests o n).pending = s.pending ∧ (s.fieldRequests o n).freeCount = s.freeCount ∧
    (s.fieldRequests o n).power = s.power ∧ (s.fieldRequests o n).storeKept = s.storeKept ∧
    (s.fieldRequests o n).now = s.now ∧ (s.fieldRequests o n).link = s.link ∧ (s.fieldRequests o n).fare = s.fare ∧
    (s.fieldRequests o n).check = s.check ∧ (s.fieldRequests o n).sightings = s.sightings ∧
    (s.fieldRequests o n).hotlist = s.hotlist ∧ (s.fieldRequests o n).tears = s.tears ∧
    (s.fieldRequests o n).journal = s.journal ∧ (s.fieldRequests o n).ring = s.ring ∧
    (s.fieldRequests o n).watch = s.watch ∧ (s.fieldRequests o n).aisle = s.aisle ∧
    (s.fieldRequests o n).setup = s.setup ∧ (s.fieldRequests o n).service = s.service := by
  unfold State.fieldRequests
  (repeat' split) <;> simp

@[simp] theorem State.handToContexts_keeps (s : State) (n : ServiceState) :
    (s.handToContexts n).pending = s.pending ∧ (s.handToContexts n).freeCount = s.freeCount ∧
    (s.handToContexts n).power = s.power ∧ (s.handToContexts n).storeKept = s.storeKept ∧
    (s.handToContexts n).now = s.now ∧ (s.handToContexts n).link = s.link ∧ (s.handToContexts n).fare = s.fare ∧
    (s.handToContexts n).check = s.check ∧ (s.handToContexts n).tears = s.tears ∧
    (s.handToContexts n).setup = s.setup := by
  unfold State.handToContexts
  split <;> simp

@[simp] theorem State.setServiceState_keeps (s : State) (n : ServiceState) :
    (s.setServiceState n).pending = s.pending ∧ (s.setServiceState n).freeCount = s.freeCount ∧
    (s.setServiceState n).power = s.power ∧ (s.setServiceState n).storeKept = s.storeKept ∧
    (s.setServiceState n).now = s.now ∧ (s.setServiceState n).link = s.link ∧ (s.setServiceState n).faces = s.faces ∧
    (s.setServiceState n).contexts = s.contexts ∧ (s.setServiceState n).fare = s.fare ∧
    (s.setServiceState n).check = s.check ∧ (s.setServiceState n).sightings = s.sightings ∧
    (s.setServiceState n).hotlist = s.hotlist ∧ (s.setServiceState n).tears = s.tears ∧
    (s.setServiceState n).journal = s.journal ∧ (s.setServiceState n).ring = s.ring ∧
    (s.setServiceState n).watch = s.watch ∧ (s.setServiceState n).aisle = s.aisle ∧
    (s.setServiceState n).setup = s.setup := by
  simp [State.setServiceState]

@[simp] theorem State.enterPlain_keeps (s : State) (n : ServiceState) :
    (s.enterPlain n).pending = s.pending ∧ (s.enterPlain n).freeCount = s.freeCount ∧
    (s.enterPlain n).power = s.power ∧ (s.enterPlain n).storeKept = s.storeKept ∧ (s.enterPlain n).now = s.now ∧
    (s.enterPlain n).link = s.link ∧ (s.enterPlain n).fare = s.fare ∧ (s.enterPlain n).check = s.check ∧
    (s.enterPlain n).sightings = s.sightings ∧ (s.enterPlain n).hotlist = s.hotlist ∧
    (s.enterPlain n).tears = s.tears ∧ (s.enterPlain n).journal = s.journal ∧ (s.enterPlain n).ring = s.ring ∧
    (s.enterPlain n).watch = s.watch ∧ (s.enterPlain n).aisle = s.aisle ∧ (s.enterPlain n).setup = s.setup := by
  simp [State.enterPlain]

@[simp] theorem State.enterFree_keeps (s : State) (n : ServiceState) :
    (s.enterFree n).pending = s.pending ∧ (s.enterFree n).power = s.power ∧ (s.enterFree n).storeKept = s.storeKept ∧
    (s.enterFree n).now = s.now ∧ (s.enterFree n).link = s.link ∧ (s.enterFree n).fare = s.fare ∧
    (s.enterFree n).check = s.check ∧ (s.enterFree n).tears = s.tears ∧ (s.enterFree n).setup = s.setup := by
  unfold State.enterFree
  split <;> simp

@[simp] theorem State.fillFaultSlot_keeps (s : State) (r : FaultRecord) :
    (s.fillFaultSlot r).pending = s.pending ∧ (s.fillFaultSlot r).freeCount = s.freeCount ∧
    (s.fillFaultSlot r).power = s.power ∧ (s.fillFaultSlot r).storeKept = s.storeKept ∧
    (s.fillFaultSlot r).now = s.now ∧ (s.fillFaultSlot r).link = s.link ∧ (s.fillFaultSlot r).faces = s.faces ∧
    (s.fillFaultSlot r).contexts = s.contexts ∧ (s.fillFaultSlot r).fare = s.fare ∧
    (s.fillFaultSlot r).check = s.check ∧ (s.fillFaultSlot r).sightings = s.sightings ∧
    (s.fillFaultSlot r).hotlist = s.hotlist ∧ (s.fillFaultSlot r).tears = s.tears ∧
    (s.fillFaultSlot r).journal = s.journal ∧ (s.fillFaultSlot r).ring = s.ring ∧
    (s.fillFaultSlot r).watch = s.watch ∧ (s.fillFaultSlot r).aisle = s.aisle ∧
    (s.fillFaultSlot r).setup = s.setup := by
  simp [State.fillFaultSlot]

@[simp] theorem State.lockDown_keeps (s : State) (r : FaultRecord) :
    (s.lockDown r).pending = s.pending ∧ (s.lockDown r).power = s.power ∧ (s.lockDown r).storeKept = s.storeKept ∧
    (s.lockDown r).now = s.now ∧ (s.lockDown r).link = s.link ∧ (s.lockDown r).fare = s.fare ∧
    (s.lockDown r).check = s.check ∧ (s.lockDown r).tears = s.tears ∧ (s.lockDown r).setup = s.setup := by
  simp [State.lockDown]

@[simp] theorem State.raiseFault_keeps (s : State) (k : FaultKind) :
    (s.raiseFault k).pending = s.pending ∧ (s.raiseFault k).power = s.power ∧
    (s.raiseFault k).storeKept = s.storeKept ∧ (s.raiseFault k).now = s.now ∧ (s.raiseFault k).link = s.link ∧
    (s.raiseFault k).fare = s.fare ∧ (s.raiseFault k).check = s.check ∧ (s.raiseFault k).tears = s.tears ∧
    (s.raiseFault k).setup = s.setup := by
  unfold State.raiseFault
  (repeat' split) <;> simp

@[simp] theorem State.readerFault_keeps (s : State) (f : Face) :
    (s.readerFault f).pending = s.pending ∧ (s.readerFault f).power = s.power ∧
    (s.readerFault f).storeKept = s.storeKept ∧ (s.readerFault f).now = s.now ∧ (s.readerFault f).link = s.link ∧
    (s.readerFault f).fare = s.fare ∧ (s.readerFault f).check = s.check ∧ (s.readerFault f).tears = s.tears ∧
    (s.readerFault f).setup = s.setup := by
  simp [State.readerFault]

@[simp] theorem State.emergencyAsserted_keeps (s : State) :
    (s.emergencyAsserted).pending = s.pending ∧ (s.emergencyAsserted).power = s.power ∧
    (s.emergencyAsserted).storeKept = s.storeKept ∧ (s.emergencyAsserted).now = s.now ∧
    (s.emergencyAsserted).link = s.link ∧ (s.emergencyAsserted).fare = s.fare ∧
    (s.emergencyAsserted).check = s.check ∧ (s.emergencyAsserted).tears = s.tears ∧
    (s.emergencyAsserted).setup = s.setup := by
  unfold State.emergencyAsserted
  split <;> simp

@[simp] theorem State.resumeService_keeps (s : State) :
    (s.resumeService).pending = s.pending ∧ (s.resumeService).freeCount = s.freeCount ∧
    (s.resumeService).power = s.power ∧ (s.resumeService).storeKept = s.storeKept ∧ (s.resumeService).now = s.now ∧
    (s.resumeService).link = s.link ∧ (s.resumeService).contexts = s.contexts ∧ (s.resumeService).fare = s.fare ∧
    (s.resumeService).check = s.check ∧ (s.resumeService).sightings = s.sightings ∧
    (s.resumeService).hotlist = s.hotlist ∧ (s.resumeService).tears = s.tears ∧
    (s.resumeService).journal = s.journal ∧ (s.resumeService).ring = s.ring ∧ (s.resumeService).watch = s.watch ∧
    (s.resumeService).setup = s.setup := by
  simp [State.resumeService]

@[simp] theorem State.rollover_keeps (s : State) (k : Clock) :
    (s.rollover k).pending = s.pending ∧ (s.rollover k).freeCount = s.freeCount ∧ (s.rollover k).power = s.power ∧
    (s.rollover k).storeKept = s.storeKept ∧ (s.rollover k).now = s.now ∧ (s.rollover k).link = s.link ∧
    (s.rollover k).faces = s.faces ∧ (s.rollover k).contexts = s.contexts ∧ (s.rollover k).check = s.check ∧
    (s.rollover k).hotlist = s.hotlist ∧ (s.rollover k).tears = s.tears ∧ (s.rollover k).journal = s.journal ∧
    (s.rollover k).ring = s.ring ∧ (s.rollover k).watch = s.watch ∧ (s.rollover k).aisle = s.aisle ∧
    (s.rollover k).setup = s.setup := by
  simp [State.rollover]

@[simp] theorem State.advanceMinute_keeps (s : State) :
    (s.advanceMinute).pending = s.pending ∧ (s.advanceMinute).freeCount = s.freeCount ∧
    (s.advanceMinute).power = s.power ∧ (s.advanceMinute).storeKept = s.storeKept ∧ (s.advanceMinute).now = s.now ∧
    (s.advanceMinute).link = s.link ∧ (s.advanceMinute).faces = s.faces ∧ (s.advanceMinute).contexts = s.contexts ∧
    (s.advanceMinute).check = s.check ∧ (s.advanceMinute).hotlist = s.hotlist ∧ (s.advanceMinute).tears = s.tears ∧
    (s.advanceMinute).journal = s.journal ∧ (s.advanceMinute).ring = s.ring ∧ (s.advanceMinute).watch = s.watch ∧
    (s.advanceMinute).aisle = s.aisle ∧ (s.advanceMinute).setup = s.setup := by
  unfold State.advanceMinute
  simp only
  (repeat' split) <;> simp

@[simp] theorem State.expireTear_keeps (s : State) (e : TearEntry) :
    (s.expireTear e).pending = s.pending ∧ (s.expireTear e).freeCount = s.freeCount ∧
    (s.expireTear e).power = s.power ∧ (s.expireTear e).storeKept = s.storeKept ∧ (s.expireTear e).now = s.now ∧
    (s.expireTear e).link = s.link ∧ (s.expireTear e).faces = s.faces ∧ (s.expireTear e).contexts = s.contexts ∧
    (s.expireTear e).fare = s.fare ∧ (s.expireTear e).check = s.check ∧ (s.expireTear e).sightings = s.sightings ∧
    (s.expireTear e).hotlist = s.hotlist ∧ (s.expireTear e).ring = s.ring ∧ (s.expireTear e).watch = s.watch ∧
    (s.expireTear e).aisle = s.aisle ∧ (s.expireTear e).setup = s.setup := by
  simp [State.expireTear]

@[simp] theorem State.expireTears_keeps (s : State) :
    (s.expireTears).pending = s.pending ∧ (s.expireTears).power = s.power ∧ (s.expireTears).storeKept = s.storeKept ∧
    (s.expireTears).now = s.now ∧ (s.expireTears).link = s.link ∧ (s.expireTears).faces = s.faces ∧
    (s.expireTears).contexts = s.contexts ∧ (s.expireTears).fare = s.fare ∧ (s.expireTears).check = s.check ∧
    (s.expireTears).sightings = s.sightings ∧ (s.expireTears).hotlist = s.hotlist ∧ (s.expireTears).ring = s.ring ∧
    (s.expireTears).watch = s.watch ∧ (s.expireTears).aisle = s.aisle ∧ (s.expireTears).setup = s.setup := by
  unfold State.expireTears
  refine ⟨?_, ?_, ?_, ?_, ?_, ?_, ?_, ?_, ?_, ?_, ?_, ?_, ?_, ?_, ?_⟩
  · exact (foldl_keeps State.pending _ (fun _ _ => by simp) _ _).trans (by simp)
  · exact (foldl_keeps State.power _ (fun _ _ => by simp) _ _).trans (by simp)
  · exact (foldl_keeps State.storeKept _ (fun _ _ => by simp) _ _).trans (by simp)
  · exact (foldl_keeps State.now _ (fun _ _ => by simp) _ _).trans (by simp)
  · exact (foldl_keeps State.link _ (fun _ _ => by simp) _ _).trans (by simp)
  · exact (foldl_keeps State.faces _ (fun _ _ => by simp) _ _).trans (by simp)
  · exact (foldl_keeps State.contexts _ (fun _ _ => by simp) _ _).trans (by simp)
  · exact (foldl_keeps State.fare _ (fun _ _ => by simp) _ _).trans (by simp)
  · exact (foldl_keeps State.check _ (fun _ _ => by simp) _ _).trans (by simp)
  · exact (foldl_keeps State.sightings _ (fun _ _ => by simp) _ _).trans (by simp)
  · exact (foldl_keeps State.hotlist _ (fun _ _ => by simp) _ _).trans (by simp)
  · exact (foldl_keeps State.ring _ (fun _ _ => by simp) _ _).trans (by simp)
  · exact (foldl_keeps State.watch _ (fun _ _ => by simp) _ _).trans (by simp)
  · exact (foldl_keeps State.aisle _ (fun _ _ => by simp) _ _).trans (by simp)
  · exact (foldl_keeps State.setup _ (fun _ _ => by simp) _ _).trans (by simp)

end Sys2Proof.Machine
end

