-- ==== Sys2Proof/Laws/PerInstr.lean ====
section
/-! SUPPORT. The per-constructor family: a well-formed request is what the part reads from the kind byte and the body it carries (Table 27). -/

namespace Sys2Proof.Laws.Request

open Sys2Proof.Machine

/-- The kind byte of a request (Table 27). -/
def kindOf : Instr → Option Byte
  | .identify _ => some 0x01
  | .setClock _ => some 0x02
  | .setAisle _ => some 0x03
  | .loadStations _ => some 0x04
  | .loadBands _ => some 0x05
  | .loadFares _ => some 0x06
  | .loadClasses _ => some 0x07
  | .loadKey _ => some 0x08
  | .setPolicy _ => some 0x09
  | .configDone _ => some 0x0A
  | .setService _ => some 0x0B
  | .emergency _ => some 0x0C
  | .resume _ => some 0x0D
  | .releaseDays _ => some 0x0E
  | .hotlistAdd _ => some 0x0F
  | .hotlistRemove _ => some 0x10
  | .hotlistRange _ => some 0x11
  | .hotlistQuery _ => some 0x12
  | .pushSighting _ => some 0x13
  | .setWatchUnit _ => some 0x14
  | .setWatchCommon _ => some 0x14
  | .watchStatus _ => some 0x15
  | .clearWatch _ => some 0x16
  | .attention _ => some 0x17
  | .setAttentionMask _ => some 0x18
  | .readFault _ => some 0x19
  | .clearFault _ => some 0x1A
  | .readJournal _ => some 0x1B
  | .freeJournal _ => some 0x1C
  | .readCounters _ => some 0x1D
  | .aisleStatus _ => some 0x1E
  | .tearList _ => some 0x1F
  | .reset _ => some 0x20
  | .unknownRequest _ => none
  | .checkMismatch _ => none
  | .framingError => none
  | .frameGapTimeout => none
  | .frameOverrun => none
  | .replySent => none
  | .powerOn _ => none
  | .hardwareResetAssert => none
  | .powerLoss => none
  | .settlingTimeExpiry _ => none
  | .pollDue _ => none
  | .wakeTimeout _ => none
  | .presenceAnswer _ => none
  | .collisionReport _ => none
  | .garbledReply _ => none
  | .silenceNotice _ => none
  | .commandTimeout _ => none
  | .nameAnswer _ _ _ _ _ => none
  | .cardImage _ _ => none
  | .proofAnswer _ _ => none
  | .ready _ => none
  | .stale _ => none
  | .settled _ _ => none
  | .hold _ _ _ _ _ => none
  | .release _ _ _ _ => none
  | .alert _ _ _ _ _ => none
  | .census _ _ => none
  | .badRingMessage => none
  | .ringOutSent => none
  | .ringTimeout _ => none
  | .censusDue => none
  | .peerHoldExpiry _ => none
  | .displacedHoldExpiry _ => none
  | .tearWindowExpiry _ => none
  | .beamInputChange _ _ => none
  | .beamDebounceExpiry _ => none
  | .beamStuck _ => none
  | .limitInputChange _ _ => none
  | .limitDebounceExpiry _ => none
  | .travelTimeout => none
  | .closeDelayExpiry => none
  | .grantExpiry _ _ => none
  | .passageAlarmEnd => none
  | .watchAlarmEnd => none
  | .shortToneEnd _ => none
  | .emergencyInputChange _ => none
  | .emergencyDebounceExpiry => none
  | .minuteTick => none
  | .backupSupplyFailure => none
  | .frameStart => none

/-- A well-formed command with a kind byte is read from that kind and a body that fits. -/
def Statement (i : Instr) : Prop :=
  i.wellFormed = true → ∀ k, kindOf i = some k → requestKind k = true ∧ ∃ b, bodyFits b = true ∧ requestCommand k b = i

theorem identify (body : List Byte) : Statement (.identify body) := by
  intro h k hk
  cases hk
  exact ⟨rfl, body, h, rfl⟩

theorem setClock (body : List Byte) : Statement (.setClock body) := by
  intro h k hk
  cases hk
  exact ⟨rfl, body, h, rfl⟩

theorem setAisle (body : List Byte) : Statement (.setAisle body) := by
  intro h k hk
  cases hk
  exact ⟨rfl, body, h, rfl⟩

theorem loadStations (body : List Byte) : Statement (.loadStations body) := by
  intro h k hk
  cases hk
  exact ⟨rfl, body, h, rfl⟩

theorem loadBands (body : List Byte) : Statement (.loadBands body) := by
  intro h k hk
  cases hk
  exact ⟨rfl, body, h, rfl⟩

theorem loadFares (body : List Byte) : Statement (.loadFares body) := by
  intro h k hk
  cases hk
  exact ⟨rfl, body, h, rfl⟩

theorem loadClasses (body : List Byte) : Statement (.loadClasses body) := by
  intro h k hk
  cases hk
  exact ⟨rfl, body, h, rfl⟩

theorem loadKey (body : List Byte) : Statement (.loadKey body) := by
  intro h k hk
  cases hk
  exact ⟨rfl, body, h, rfl⟩

theorem setPolicy (body : List Byte) : Statement (.setPolicy body) := by
  intro h k hk
  cases hk
  exact ⟨rfl, body, h, rfl⟩

theorem configDone (body : List Byte) : Statement (.configDone body) := by
  intro h k hk
  cases hk
  exact ⟨rfl, body, h, rfl⟩

theorem setService (body : List Byte) : Statement (.setService body) := by
  intro h k hk
  cases hk
  exact ⟨rfl, body, h, rfl⟩

theorem emergency (body : List Byte) : Statement (.emergency body) := by
  intro h k hk
  cases hk
  exact ⟨rfl, body, h, rfl⟩

theorem resume (body : List Byte) : Statement (.resume body) := by
  intro h k hk
  cases hk
  exact ⟨rfl, body, h, rfl⟩

theorem releaseDays (body : List Byte) : Statement (.releaseDays body) := by
  intro h k hk
  cases hk
  exact ⟨rfl, body, h, rfl⟩

theorem hotlistAdd (body : List Byte) : Statement (.hotlistAdd body) := by
  intro h k hk
  cases hk
  exact ⟨rfl, body, h, rfl⟩

theorem hotlistRemove (body : List Byte) : Statement (.hotlistRemove body) := by
  intro h k hk
  cases hk
  exact ⟨rfl, body, h, rfl⟩

theorem hotlistRange (body : List Byte) : Statement (.hotlistRange body) := by
  intro h k hk
  cases hk
  exact ⟨rfl, body, h, rfl⟩

theorem hotlistQuery (body : List Byte) : Statement (.hotlistQuery body) := by
  intro h k hk
  cases hk
  exact ⟨rfl, body, h, rfl⟩

theorem pushSighting (body : List Byte) : Statement (.pushSighting body) := by
  intro h k hk
  cases hk
  exact ⟨rfl, body, h, rfl⟩

theorem setWatchUnit (body : List Byte) : Statement (.setWatchUnit body) := by
  intro h k hk
  cases hk
  simp only [Instr.wellFormed, namesCommon, Bool.and_eq_true, Bool.not_eq_true', decide_eq_false_iff_not] at h
  refine ⟨rfl, body, h.1, if_neg ?_⟩
  cases body with
  | nil => decide
  | cons b bs => exact fun e => h.2 (congrArg some e)

theorem setWatchCommon (body : List Byte) : Statement (.setWatchCommon body) := by
  intro h k hk
  cases hk
  simp only [Instr.wellFormed, namesCommon, Bool.and_eq_true, decide_eq_true_eq] at h
  refine ⟨rfl, body, h.1, if_pos ?_⟩
  cases body with
  | nil => exact absurd h.2 (by decide)
  | cons b bs => exact Option.some.inj h.2

theorem watchStatus (body : List Byte) : Statement (.watchStatus body) := by
  intro h k hk
  cases hk
  exact ⟨rfl, body, h, rfl⟩

theorem clearWatch (body : List Byte) : Statement (.clearWatch body) := by
  intro h k hk
  cases hk
  exact ⟨rfl, body, h, rfl⟩

theorem attention (body : List Byte) : Statement (.attention body) := by
  intro h k hk
  cases hk
  exact ⟨rfl, body, h, rfl⟩

theorem setAttentionMask (body : List Byte) : Statement (.setAttentionMask body) := by
  intro h k hk
  cases hk
  exact ⟨rfl, body, h, rfl⟩

theorem readFault (body : List Byte) : Statement (.readFault body) := by
  intro h k hk
  cases hk
  exact ⟨rfl, body, h, rfl⟩

theorem clearFault (body : List Byte) : Statement (.clearFault body) := by
  intro h k hk
  cases hk
  exact ⟨rfl, body, h, rfl⟩

theorem readJournal (body : List Byte) : Statement (.readJournal body) := by
  intro h k hk
  cases hk
  exact ⟨rfl, body, h, rfl⟩

theorem freeJournal (body : List Byte) : Statement (.freeJournal body) := by
  intro h k hk
  cases hk
  exact ⟨rfl, body, h, rfl⟩

theorem readCounters (body : List Byte) : Statement (.readCounters body) := by
  intro h k hk
  cases hk
  exact ⟨rfl, body, h, rfl⟩

theorem aisleStatus (body : List Byte) : Statement (.aisleStatus body) := by
  intro h k hk
  cases hk
  exact ⟨rfl, body, h, rfl⟩

theorem tearList (body : List Byte) : Statement (.tearList body) := by
  intro h k hk
  cases hk
  exact ⟨rfl, body, h, rfl⟩

theorem reset (body : List Byte) : Statement (.reset body) := by
  intro h k hk
  cases hk
  exact ⟨rfl, body, h, rfl⟩

theorem unknownRequest (kind : Byte) : Statement (.unknownRequest kind) := fun _ _ h => nomatch h

theorem checkMismatch (kind : Byte) : Statement (.checkMismatch kind) := fun _ _ h => nomatch h

theorem framingError : Statement .framingError := fun _ _ h => nomatch h

theorem frameGapTimeout : Statement .frameGapTimeout := fun _ _ h => nomatch h

theorem frameOverrun : Statement .frameOverrun := fun _ _ h => nomatch h

theorem replySent : Statement .replySent := fun _ _ h => nomatch h

theorem powerOn (storeCheckMatches : Bool) : Statement (.powerOn storeCheckMatches) := fun _ _ h => nomatch h

theorem hardwareResetAssert : Statement .hardwareResetAssert := fun _ _ h => nomatch h

theorem powerLoss : Statement .powerLoss := fun _ _ h => nomatch h

theorem settlingTimeExpiry (face : Face) : Statement (.settlingTimeExpiry face) := fun _ _ h => nomatch h

theorem pollDue (face : Face) : Statement (.pollDue face) := fun _ _ h => nomatch h

theorem wakeTimeout (face : Face) : Statement (.wakeTimeout face) := fun _ _ h => nomatch h

theorem presenceAnswer (face : Face) : Statement (.presenceAnswer face) := fun _ _ h => nomatch h

theorem collisionReport (face : Face) : Statement (.collisionReport face) := fun _ _ h => nomatch h

theorem garbledReply (face : Face) : Statement (.garbledReply face) := fun _ _ h => nomatch h

theorem silenceNotice (face : Face) : Statement (.silenceNotice face) := fun _ _ h => nomatch h

theorem commandTimeout (face : Face) : Statement (.commandTimeout face) := fun _ _ h => nomatch h

theorem nameAnswer (face : Face) (number : CardNumber) (cls generation : Byte) (status : CardStatus) : Statement (.nameAnswer face number cls generation status) := fun _ _ h => nomatch h

theorem cardImage (face : Face) (image : List Byte) : Statement (.cardImage face image) := fun _ _ h => nomatch h

theorem proofAnswer (face : Face) (proof : Word) : Statement (.proofAnswer face proof) := fun _ _ h => nomatch h

theorem ready (face : Face) : Statement (.ready face) := fun _ _ h => nomatch h

theorem stale (face : Face) : Statement (.stale face) := fun _ _ h => nomatch h

theorem settled (face : Face) (counter : Half) : Statement (.settled face counter) := fun _ _ h => nomatch h

theorem hold (origin hop : Byte) (number : CardNumber) (counterRead : Half) (contest : HoldContest) : Statement (.hold origin hop number counterRead contest) := fun _ _ h => nomatch h

theorem release (origin hop : Byte) (number : CardNumber) (body : ReleaseBody) : Statement (.release origin hop number body) := fun _ _ h => nomatch h

theorem alert (origin hop : Byte) (number : CardNumber) (kind : EvidenceKind) (block : Byte) : Statement (.alert origin hop number kind block) := fun _ _ h => nomatch h

theorem census (origin hop : Byte) : Statement (.census origin hop) := fun _ _ h => nomatch h

theorem badRingMessage : Statement .badRingMessage := fun _ _ h => nomatch h

theorem ringOutSent : Statement .ringOutSent := fun _ _ h => nomatch h

theorem ringTimeout (face : Face) : Statement (.ringTimeout face) := fun _ _ h => nomatch h

theorem censusDue : Statement .censusDue := fun _ _ h => nomatch h

theorem peerHoldExpiry (number : CardNumber) : Statement (.peerHoldExpiry number) := fun _ _ h => nomatch h

theorem displacedHoldExpiry (number : CardNumber) : Statement (.displacedHoldExpiry number) := fun _ _ h => nomatch h

theorem tearWindowExpiry (number : CardNumber) : Statement (.tearWindowExpiry number) := fun _ _ h => nomatch h

theorem beamInputChange (beam : Beam) (high : Bool) : Statement (.beamInputChange beam high) := fun _ _ h => nomatch h

theorem beamDebounceExpiry (beam : Beam) : Statement (.beamDebounceExpiry beam) := fun _ _ h => nomatch h

theorem beamStuck (beam : Beam) : Statement (.beamStuck beam) := fun _ _ h => nomatch h

theorem limitInputChange (limit : Limit) (asserted : Bool) : Statement (.limitInputChange limit asserted) := fun _ _ h => nomatch h

theorem limitDebounceExpiry (limit : Limit) : Statement (.limitDebounceExpiry limit) := fun _ _ h => nomatch h

theorem travelTimeout : Statement .travelTimeout := fun _ _ h => nomatch h

theorem closeDelayExpiry : Statement .closeDelayExpiry := fun _ _ h => nomatch h

theorem grantExpiry (direction : Direction) (sequence : Word) : Statement (.grantExpiry direction sequence) := fun _ _ h => nomatch h

theorem passageAlarmEnd : Statement .passageAlarmEnd := fun _ _ h => nomatch h

theorem watchAlarmEnd : Statement .watchAlarmEnd := fun _ _ h => nomatch h

theorem shortToneEnd (face : Face) : Statement (.shortToneEnd face) := fun _ _ h => nomatch h

theorem emergencyInputChange (asserted : Bool) : Statement (.emergencyInputChange asserted) := fun _ _ h => nomatch h

theorem emergencyDebounceExpiry : Statement .emergencyDebounceExpiry := fun _ _ h => nomatch h

theorem minuteTick : Statement .minuteTick := fun _ _ h => nomatch h

theorem backupSupplyFailure : Statement .backupSupplyFailure := fun _ _ h => nomatch h

theorem frameStart : Statement .frameStart := fun _ _ h => nomatch h

end Sys2Proof.Laws.Request
end

