-- ==== Sys2Proof/Tests/Slice0.lean ====
section
/-! SUPPORT. The model's own tests: what WellFormed refuses, the worked examples of the spec, and for each statement a state
and operands that meet its hypotheses. -/

namespace Sys2Proof.Tests

open Sys2Proof.Machine

/-! ### WellFormed -/

theorem test_body_of_1025_refused : (Instr.identify (List.replicate 1025 0)).wellFormed = false := by decide +kernel

theorem test_body_of_1024_taken : (Instr.identify (List.replicate 1024 0)).wellFormed = true := by decide +kernel

theorem test_watch_unit_with_common_target_refused : (Instr.setWatchUnit [255]).wellFormed = false := by decide

theorem test_watch_common_with_unit_target_refused :
    (Instr.setWatchCommon [7]).wellFormed = false ∧ (Instr.setWatchCommon [255]).wellFormed = true := by decide

theorem test_known_kind_as_unknown_refused :
    (Instr.unknownRequest 0x20).wellFormed = false ∧ (Instr.unknownRequest 0x21).wellFormed = true
      ∧ (Instr.unknownRequest 0).wellFormed = true := by decide

theorem test_short_card_image_refused : (Instr.cardImage .paid (List.replicate 63 0)).wellFormed = false := by decide

/-! ### States for the tests -/

/-- What a command makes of a state. -/
def after (c : Instr) (s : State) : State :=
  match exec c s with
  | .next t => t
  | _ => s

/-- The reply a command leaves in the reply buffer. -/
def replyTo (c : Instr) (s : State) : Option Reply := (after c s).link.reply

/-- The fare unit of the spec's example (3.6). -/
def exampleFares : FareUnit :=
  { FareUnit.afterReset with
    stations := (FareUnit.afterReset.stations.setIfInBounds 407 { loaded := true, zone := 7, group := 3 }).setIfInBounds 112
      { loaded := true, zone := 3, group := 0 }
    bands := (FareUnit.afterReset.bands.setIfInBounds 3 ((Vector.replicate 32 15).setIfInBounds 7 4)).setIfInBounds 7
      ((Vector.replicate 32 15).setIfInBounds 7 1)
    fares :=
      { step := 10, transferCredit := 60, transferWindow := 30, incompleteFare := 400, overstayLimit := 180
        overstayCharge := 150, grace := 15, floor := 0, minEntry := 200
        base := (((Vector.replicate 16 0).setIfInBounds 1 180).setIfInBounds 4 275).setIfInBounds 15 40000
        minTravel := (Vector.replicate 16 0).setIfInBounds 4 25
        peakPercent := 125, windows := (Vector.replicate 4 (0, 0)).setIfInBounds 0 (180, 330) }
    faresLoaded := true
    classes := (FareUnit.afterReset.classes.setIfInBounds 0 { discount := 0, cap := 1000 }).setIfInBounds 2
      { discount := 50, cap := 600 } }

def face (st : FaceState) : FaceUnit := { FaceUnit.afterReset with state := st, pollStart := some 9950 }

/-- In service at station 407, gate 5, on day 9 000 at minute 312, 10 s after reset, with the ring UP. -/
def base : State :=
  { State.reset with
    now := 10000
    faces := { street := face .polling, paid := face .polling }
    fare := exampleFares
    check := { CardCheck.afterReset with
      challenge := 26053, keys := CardCheck.afterReset.keys.setIfInBounds 4 { state := .active, key := 1000 } }
    ring := { Ring.afterReset with state := .up, size := 4 }
    setup := { Setup.afterReset with place := some { station := 407, gate := 5 } }
    service := { (Service.afterReset false true) with
      state := .inService
      clock := { isSet := true, day := 9000, minute := 312, ms := 0, peakDay := true, rollover := 240 } } }

def number : CardNumber := 8589934599

def named : NameAnswer := { number := number, cls := 0, generation := 4, status := .active }

/-- The card of the spec's exit example: counter 41, chain word 1 000, balance 1 150, entered at station 112. -/
def card : CardImage :=
  { number := number, cls := 0, generation := 4, status := .active, balance := 1150, counter := 41, chain := 1000
    spendDay := 9000, daySpend := 760
    entry := some { station := 112, gate := 2, day := 9000, minute := 240, transferMark := true }
    history := [], pass := none }

/-- A context that was admitted and holds its card's entry. -/
def context (st : CtxState) : Context :=
  { Context.idle with
    state := st, name := some named, key := some 1000, challenge := some 5, image := some card, ownHold := true
    holdsEntry := true, reservation := .held }

def entryOf (h : Hold) : SightingEntry := { number := number, sighting := none, hold := h, displaced := none, contestNote := none }

/-- The paid face SERVING with an exchange whose reply timeout has just been reached, its context as given. -/
def tap (command : CardCommand) (c : Context) : State :=
  { base with
    faces := { base.faces with paid :=
      { face .serving with pollStart := none, exchange := some { command := command, sentAt := 9975, resent := false } } }
    contexts := { base.contexts with paid := c }
    sightings := [entryOf (.own .paid)]
    aisle := { base.aisle with
      queues := { base.aisle.queues with exit := [{ face := .paid, number := number, state := .reserved }] }, lock := .exit } }

/-- The image to be staged for the example exit. -/
def written : CardImage := { card with balance := 910, counter := 42, chain := 70268121, entry := none }

def tearEntry (st : TearState) : TearEntry :=
  { number := number, cls := 0, face := .paid, kind := .exit, oldCounter := 41, newCounter := 42, fare := 240
    balanceAfter := 910, written := some (9000, 312), state := st }

/-- The example exit past its commit point, in the given context state. -/
def committed (command : CardCommand) (st : CtxState) : State :=
  { tap command { context st with staged := some written } with tears := [tearEntry .pending] }

/-- The aisle with beam `b` blocked (or clear) and a change of it pending for 30 ms. -/
def beams (set : List Beam) (b : Beam) (s : State) : State :=
  let one := fun (x : Beam) => { s.aisle.beams.get x with
    blocked := decide (x ∈ set), pendingSince := if x = b then some (s.now - 30) else none }
  { s with aisle := { s.aisle with
    beams := { beam1 := one .beam1, beam2 := one .beam2, beam3 := one .beam3, beam4 := one .beam4 } } }

/-- A run in progress without a crossing. -/
def run (d : RunDirection) : Run :=
  { direction := d, side := .paid, crossings := 0, cleared2 := true, cleared3 := true, lastConsumed := none, alarmed := false }

def granted (q : Word) (deferred : Bool) : QueueEntry :=
  { face := .paid, number := number, state := .granted q 0 10000 deferred }

def withExit (q : List QueueEntry) (s : State) : State :=
  { s with aisle := { s.aisle with queues := { s.aisle.queues with exit := q } } }

def withRun (r : Option Run) (s : State) : State := { s with aisle := { s.aisle with run := r } }

def withLeaf (l : LeafState) (s : State) : State := { s with aisle := { s.aisle with leaf := l } }

def withService (st : ServiceState) (s : State) : State := { s with service := { s.service with state := st } }

/-! ### The spec's worked examples -/

/-- R19: station 407, gate 5 seeds 26 053, and the first challenge after it is 1 430 101 088. -/
theorem test_challenge_example :
    (after (.setAisle (natHalf 407 ++ [5, 2, 0, 0, 0, 0, 10] ++ natHalf 120 ++ natHalf 40 ++ [3])) State.reset).check.challenge
      = 26053
    ∧ nextChallenge 26053 = 1430101088 := by decide +kernel

/-- R20: the proof of the example card, and of the same card one write later. -/
theorem test_proof_example :
    expectedProof 1000 8589934599 5 41 = 2386866619 ∧ expectedProof 1000 8589934599 5 42 = 2386866620 := by decide +kernel

/-- R21: the chain word of the exit of the example, and of the block write after it. -/
theorem test_chain_example :
    chainWord 1000 42 910 407 5 = 70268121 ∧ chainWord 70268121 43 910 407 5 = 37008089 := by decide +kernel

/-- R198: the frame check of the example. -/
theorem test_frame_check : (frameBytes 0x01 []).length = 6 ∧ linkCommands .hunting ((frameBytes 0x01 []).map .plain)
    = [.frameStart, .identify []] := by decide +kernel

/-- R176: rollover minute 240: wall minute 250 is service minute 10, and wall minute 100 is 1 300. -/
theorem test_set_clock_example :
    (after (.setClock (natHalf 9000 ++ natHalf 250 ++ [1, 1] ++ natHalf 240)) State.reset).service.clock.minute = 10
    ∧ (after (.setClock (natHalf 9000 ++ natHalf 100 ++ [1, 0, 0, 0])) State.reset).service.clock.minute = 1300 := by
  decide +kernel

def clockAt (minute : Half) : FareClock := { station := 407, gate := 5, today := 9000, now := minute, peakDay := true }

def fareOf (c : CardImage) (k : FareClock) : Option (Nat × Int × Option (Half × Half)) :=
  match exitFare exampleFares k c with
  | .ok x => some (x.fare.toNat, x.balanceAfter.toInt, x.dayRecord)
  | .error _ => none

/-- The exit of 3.6: fare 240, balance 910, day spend 1 000. -/
theorem test_exit_fare_example : fareOf card (clockAt 312) = some (240, 910, some (9000, 1000)) := by decide +kernel

/-- 3.6: within the same-station grace the fare is 0, on a card whose entry is two days old it is Q. -/
theorem test_grace_and_stale_examples :
    fareOf { card with entry := some { station := 407, gate := 5, day := 9000, minute := 297, transferMark := false } }
      (clockAt 312) = some (0, 1150, none)
    ∧ fareOf { card with entry := some { station := 112, gate := 2, day := 8998, minute := 240, transferMark := false } }
      (clockAt 312) = some (400, 750, none) := by decide +kernel

/-- R73: the floor, and the greatest fare. -/
theorem test_insufficient_example : fareOf { card with balance := 239 } (clockAt 312) = none
    ∧ fareOf { card with balance := 240 } (clockAt 312) = some (240, 0, some (9000, 1000)) := by decide +kernel

def seen (counter : Half) (chain : Word) (minute : Half) : Sighting :=
  { counter := counter, chain := chain, station := 112, gate := some 2, day := 9000, minute := minute, direction := .entry
    source := .peer }

def sighted (x : Sighting) (note : Option Byte) : State :=
  { tap (.prove 5) (context .proving) with
    sightings := [{ (entryOf (.own .paid)) with sighting := some x, contestNote := note }] }

/-- 5.2: the four examples of the sighting checks. -/
theorem test_sighting_examples :
    (sighted (seen 18 1000 0) none).sightingFindings .paid { card with counter := 17 } = [.replay]
    ∧ (sighted (seen 30 1001 0) none).sightingFindings .paid { card with counter := 30 } = [.divergent]
    ∧ (sighted (seen 52 1000 300) none).sightingFindings .paid { card with counter := 53 } = [.impossible]
    ∧ (sighted (seen 52 1000 287) none).sightingFindings .paid { card with counter := 53 } = []
    ∧ (sighted (seen 40 1000 0) (some 8)).sightingFindings .paid card = [.concurrent] := by decide +kernel

/-- R86: on day 9 004, with lifetime 3, a sighting of day 9 000 goes and one of day 9 001 stays. -/
theorem test_ageing_example :
    let aged := fun (day : Half) => (after .minuteTick { base with
      sightings := [{ (entryOf .noHold) with sighting := some { (seen 1 1 0) with day := day } }]
      service := { base.service with clock := { base.service.clock with day := 9003, minute := 1439, ms := 60000 } } }).sightings
    aged 9000 = [] ∧ (aged 9001).length = 1 := by decide +kernel

/-- R102: the CENSUS of a ring of 4 comes home with hop count 3. -/
theorem test_census_example : (after (.census 5 3) { base with ring := Ring.afterReset }).ring.size = 4 := by decide +kernel

/-- The example exit, from the return of its HOLD to the STAGE it asks for: counter 42, balance 910, chain word 70 268 121. -/
theorem test_exit_is_staged :
    let s := { tap .fetch { context .holding with holdSent := true } with
      ring := { base.ring with holdOrder := [.paid] }
      faces := { base.faces with paid := { face .serving with pollStart := none } } }
    let w := ((after (.hold 5 3 number 41 uncontested) s).context .paid).staged
    w.map (fun c => (c.counter, c.balance, c.chain, c.entry)) = some (42, 910, 70268121, none) := by decide +kernel

/-- A request two ways round the queue: the front command runs first and the rest stays. -/
theorem test_queue_is_first_in_first_out :
    (match step { State.reset with pending := [.identify [], .framingError] } with
      | .next t => some (t.pending, t.link.reply.map (·.kind))
      | _ => none) = some ([.framingError], some 0x01) := by decide +kernel

/-! ### Witnesses: the queue, the link and the requests

Each theorem `meets_…` shows, for the statement it names, a state and operands that meet its hypotheses, clause by clause at the
bounds; where it helps, with what the command then answers. -/

/-- The result byte of the reply a request leaves. -/
def resultOf (c : Instr) (s : State) : Option Byte := (replyTo c s).bind fun r => r.body.head?

theorem test_base_listens : base.listening ∧ base.power = .running ∧ base.pending = [] ∧ base.link.resetPending = false :=
  ⟨⟨rfl, rfl⟩, rfl, rfl, rfl⟩

theorem test_meets_StepRunsTheFrontCommand :
    ({ base with pending := [.censusDue, .minuteTick] } : State).pending = .censusDue :: [.minuteTick] := rfl

/-- 1 ms before every kind of deadline, with the leaf as given: face and context, tables, aisle and clocks. -/
def nearlyDue (leaf : LeafState) (ms : Nat) : State :=
  let beam : BeamInput := { base.aisle.beams.beam1 with blocked := true, blockedSince := 0 - 50000, pendingSince := some 9970 }
  let line : LineInput := { level := true, accepted := false, pendingSince := some 9970 }
  { base with
    now := 9998 + BitVec.ofNat 32 ms
    faces :=
      { street := { face .settling with settleStart := some 9980, exchange := some { command := .name, sentAt := 9975, resent := false } }
        paid := { face .watching with pollStart := some 9900, poll := some { second := false, sentAt := 9975, responded := false } } }
    contexts := { base.contexts with paid := { Context.idle with state := .holding, ringTimer := some (9960, 40) } }
    ring := { base.ring with state := .isolated, censusStart := some 8000 }
    sightings := [{ number := 7, sighting := none, hold := .peer 8 5000, displaced := some (8, 5000), contestNote := none }]
    tears := [{ number := 7, cls := 0, face := .paid, kind := .exit, oldCounter := 41, newCounter := 42, fare := 240, balanceAfter := 910
                written := none, state := .torn 0 9 }]
    setup := { base.setup with tearWindow := 10 }
    aisle := { base.aisle with
      beams := { base.aisle.beams with beam1 := beam }, openLimit := line, closedLimit := line, leaf := leaf
      travelStart := some 8500, closeStart := some 9200, passageAlarm := .since 7000, watchAlarm := some 7000
      queues := { entry := [], exit := [{ face := .paid, number := 7, state := .granted 5 0 10000 false }] }
      tones := { street := some (.accept, 9880), paid := some (.refuse, 9640) } }
    service := { base.service with
      emergency := line, clock := { base.service.clock with ms := 59998 + ms } } }

/-- A millisecond later none of them has been reached; another later every one, the leaf's by its state. -/
theorem test_meets_EmptyQueueLetsAMillisecondPass :
    (nearlyDue .opening 0).pending = [] ∧ (nearlyDue .opening 0).power = .running
      ∧ (nearlyDue .opening 0).clocksAdvance.deadlines = []
      ∧ (nearlyDue .opening 1).clocksAdvance.deadlines
        = [.settlingTimeExpiry .street, .commandTimeout .street, .shortToneEnd .street, .pollDue .paid, .wakeTimeout .paid,
            .ringTimeout .paid, .shortToneEnd .paid, .censusDue, .peerHoldExpiry 7, .displacedHoldExpiry 7, .tearWindowExpiry 7,
            .beamDebounceExpiry .beam1, .beamStuck .beam1, .limitDebounceExpiry .openLimit, .limitDebounceExpiry .closedLimit,
            .travelTimeout, .grantExpiry .exit 5, .passageAlarmEnd, .watchAlarmEnd, .emergencyDebounceExpiry, .minuteTick]
      ∧ (.closeDelayExpiry ∈ (nearlyDue .opened 1).clocksAdvance.deadlines
          ∧ .closeDelayExpiry ∉ (nearlyDue .opened 0).clocksAdvance.deadlines)
      ∧ ((nearlyDue .opening 1).sightings.map (·.number)).Nodup ∧ ((nearlyDue .opening 1).tears.map (·.number)).Nodup
      ∧ (∀ d ∈ [Direction.entry, .exit],
          (((nearlyDue .opening 1).aisle.queues.get d).filterMap QueueEntry.sequence).Nodup) := by
  decide +kernel

theorem test_meets_StoppedPartRests :
    let s : State := { base with power := .heldInReset }
    s.power ≠ .running ∧ (after .minuteTick { s with
      service := { s.service with clock := { s.service.clock with ms := 60000 } } }).service.clock.minute = 312
      ∧ ({ s with ring := { s.ring with queue := [.census 5 0] } } : State).ringOut = none
      ∧ ({ base with ring := { base.ring with queue := [.census 5 0] } } : State).ringOut = some (ringBytes (.census 5 0)) := by
  decide +kernel

/-- R197: TXD sends a reply from its first start bit to its last stop bit; a byte's bits are read back as the byte. -/
theorem test_meets_TxdCarriesTheReply :
    let r : Reply := { kind := 0x1A, body := [1] }
    let s : State := { base with link := { base.link with busy := true, reply := some r } }
    s.power = .running ∧ s.link.reply = some r ∧ r.frame[0]? = some 0xA5 ∧ base.link.reply = none ∧ base.txd 0 = true
      ∧ (List.range 10).map s.txd = [false, true, false, true, false, false, true, false, true, true]
      ∧ s.txd (10 * r.frame.length - 1) = true ∧ s.txd (10 * r.frame.length) = true
      ∧ LineByte.ofBits false (lineBits 0xA5) = { byte := 0xA5, stopGood := true, late := false } := by decide +kernel

/-- The overrun count stays at 255; a body of the wrong length is OUT_OF_RANGE; a sent reply reports a count above 0. -/
theorem test_meets_FramesMeetTheReceiveBuffer :
    let busy := fun (n : Nat) => ({ base with link := { base.link with busy := true, collector := .collecting, overrun := n } } : State)
    let sent := fun (n : Nat) => ({ busy n with
      link := { (busy n).link with reply := some { kind := 1, body := [0] } } } : State)
    ((busy 254).power = .running ∧ (busy 254).link.busy = true ∧ (busy 254).link.collector = .collecting)
    ∧ (after .frameOverrun (busy 254)).link.overrun = 255 ∧ (after .frameOverrun (busy 255)).link.overrun = 255
    ∧ (requestKind 0x02 = true ∧ (List.replicate 9 (0 : Byte)).length ≠ requestLength 0x02 (List.replicate 9 0)
        ∧ resultOf (.setClock (List.replicate 9 0)) base = some 2)
    ∧ ((sent 1).link.resetPending = false ∧ (sent 1).link.reply ≠ none ∧ 0 < (sent 1).link.overrun
        ∧ (replyTo .replySent (sent 1)).map (·.body) = some [2, 1])
    ∧ ((sent 0).link.overrun = 0 ∧ replyTo .replySent (sent 0) = none ∧ base.link.reply = none) := by decide +kernel

def clockBody (wall : Nat) (mark : Byte) (rollover : Nat) : List Byte := natHalf 9000 ++ natHalf wall ++ [1, mark] ++ natHalf rollover

theorem test_meets_SetClockStoresServiceTime :
    (clockBody 1439 1 1439).length = 8 ∧ resultOf (.setClock (clockBody 1439 1 1439)) base = some 0
    ∧ resultOf (.setClock (clockBody 1440 0 0)) base = some 2 ∧ resultOf (.setClock (clockBody 0 1 1440)) base = some 2
    ∧ resultOf (.setClock (clockBody 0 0 1440)) base = some 0
    ∧ (after (.setClock (clockBody 240 0 0)) base).service.clock.minute = 0
    ∧ (after (.setClock (clockBody 239 0 0)) base).service.clock.minute = 1439 := by decide +kernel

def starting : State := withService .starting { base with faces := { street := face .off, paid := face .off } }

/-- Each of the four requests, in a state that lets it change the service state and in one that does not. -/
theorem test_meets_ServiceStateRequestsMoveTheState :
    let emergency := withLeaf .free (withService .emergency base)
    let leafAfter := fun (clear opened closed : Bool) =>
      let b := beams (if clear then [] else [.beam2]) .beam1 emergency
      (after (.resume []) { b with aisle := { b.aisle with
        openLimit := { b.aisle.openLimit with accepted := opened }
        closedLimit := { b.aisle.closedLimit with accepted := closed } } }).aisle.leaf
    let urgent : State := { starting with service := { starting.service with
      emergency := { starting.service.emergency with accepted := true } } }
    base.service.state = .inService
      ∧ [leafAfter true false true, leafAfter true true false, leafAfter false true true, leafAfter false false true]
        = [.closed, .closing, .opened, .opening]
      ∧ (urgent.service.emergency.accepted = true ∧ urgent.faces.paid.state = .off ∧ urgent.contexts.street.state = .idle
        ∧ urgent.contexts.paid.state = .idle ∧ urgent.setup.place ≠ none ∧ urgent.fare.faresLoaded = true)
    ∧ (emergency.service.state = .emergency ∧ emergency.service.emergency.accepted = false
        ∧ emergency.service.faultSlot = none ∧ emergency.aisle.clear = true ∧ emergency.aisle.closedLimit.accepted = true
        ∧ (after (.resume []) emergency).service.state = .inService)
    ∧ (beams [.beam2] .beam2 emergency).aisle.clear = false
    ∧ (starting.service.state = .starting ∧ starting.setup.place ≠ none ∧ starting.fare.faresLoaded = true
        ∧ (∃ k ∈ starting.check.keys.toList, k.state = .active) ∧ starting.service.emergency.accepted = false
        ∧ starting.faces.street.state = .off ∧ (after (.configDone []) starting).service.state = .inService)
    ∧ resultOf (.configDone []) base = some 1 ∧ resultOf (.emergency []) starting = some 1
    ∧ resultOf (.resume []) base = some 1
    ∧ (let watching : State := { base with
        faces := { street := face .watching, paid := face .serving }
        contexts := { base.contexts with street := { Context.idle with state := .removalWait } } }
      let u := after (.setService [2]) watching
      u.faces.street.state = .off ∧ u.contexts.street = Context.idle ∧ u.faces.paid.offPending = true)
    ∧ (after (.setService [1]) (withService .closed { base with faces := { street := face .off, paid := face .disabled } })).faces.street.state
        = .settling
    ∧ (after (.setService [2]) base).service.state = .closed ∧ resultOf (.setService [4]) base = some 1
    ∧ resultOf (.setService [5]) base = some 2
    ∧ (after (.setService [1]) (withService .closed base)).service.state = .inService := by decide +kernel

theorem test_meets_AttentionFlagsMaskAndLine :
    let s : State := { base with service := { base.service with flags := { FlagSet.none with journal := true } } }
    [Flag.fault, .lockdown, .clone, .watch, .alarm, .tear, .journal, .ring, .service].map
        (fun g => (FlagSet.none.raise g).toBits) = [1, 2, 4, 8, 16, 32, 64, 128, 256] ∧
    [(0 : Byte), 64].length = 2 ∧ s.attn = true ∧ (after (.setAttentionMask [1, 191]) s).attn = false
      ∧ (replyTo (.attention []) s).map (·.body) = some [0, 0, 64] := by decide +kernel

theorem test_meets_ReadFaultAndClearFault :
    let s := withService .lockdown (base.raiseFault .leafTimeout)
    s.service.state = .lockdown ∧ base.service.state ≠ .lockdown ∧ resultOf (.clearFault []) s = some 1
      ∧ resultOf (.clearFault []) base = some 0 := by decide +kernel

theorem test_meets_TablesTakeWhatTheyAreLoaded :
    let stations := fun (first count : Nat) (e : List Byte) => natHalf first ++ natHalf count ++ e
    let bands := fun (first count : Byte) (cell : Byte) => [first, count] ++ List.replicate 32 cell
    (4 ≤ (stations 1023 1 [1, 31, 15]).length ∧ (stations 1023 1 [1, 31, 15]).length = 4 + 3 * 1
        ∧ resultOf (.loadStations (stations 1023 1 [1, 31, 15])) base = some 0
        ∧ resultOf (.loadStations (stations 1023 1 [1, 32, 15])) base = some 2
        ∧ resultOf (.loadStations (stations 1023 1 [1, 31, 16])) base = some 2
        ∧ resultOf (.loadStations (stations 1023 2 [1, 0, 0, 1, 0, 0])) base = some 2)
    ∧ ((bands 31 1 15).length = 2 + 32 * 1 ∧ resultOf (.loadBands (bands 31 1 15)) base = some 0
        ∧ (replyTo (.loadBands (bands 31 1 15)) base).map (·.body) = some [0, 31, 0, 1]
        ∧ resultOf (.loadBands (bands 32 1 15)) base = some 2 ∧ resultOf (.loadBands (bands 31 1 16)) base = some 2)
    ∧ (resultOf (.loadClasses [1, 7, 101, 0, 0]) base = some 0
        ∧ (after (.loadClasses [1, 7, 101, 0, 0]) base).fare.classes[7].discount = 100
        ∧ (after (.loadClasses [1, 8, 0, 0, 0]) base).fare.classes = base.fare.classes
        ∧ resultOf (.loadClasses [0]) base = some 2
        ∧ (replyTo (.loadClasses [2, 7, 101, 0, 9, 7, 3, 0, 8]) base).map (·.body) = some [0, 0, 2, 7, 3, 0, 8, 7, 3, 0, 8]) := by
  decide +kernel

def faresBody (step window grace : Byte) (floor limit start : Nat) : List Byte :=
  [step] ++ natHalf 60 ++ [window] ++ natHalf 400 ++ natHalf limit ++ natHalf 150 ++ [grace] ++ natHalf floor ++ natHalf 200
    ++ List.replicate 32 1 ++ List.replicate 16 2 ++ natHalf 301 ++ natHalf start ++ List.replicate 14 0

theorem test_meets_LoadFaresReplacesEveryValue :
    let taken := faresBody 100 120 60 10000 601 1440
    taken.length = 81 ∧ resultOf (.loadFares taken) base = some 0
      ∧ (replyTo (.loadFares taken) base).map (fun r => (r.body.length, r.body.take 6, (r.body.drop 50).take 4))
        = some (100, [0, 100, 0, 60, 0, 120], [0, 2, 0, 2])
      ∧ (after (.loadFares taken) base).fare.fares.overstayLimit = 600 ∧ (after (.loadFares taken) base).fare.fares.peakPercent = 300
      ∧ resultOf (.loadFares (faresBody 2 120 60 10000 601 1440)) base = some 2
      ∧ resultOf (.loadFares (faresBody 1 121 60 10000 601 1440)) base = some 2
      ∧ resultOf (.loadFares (faresBody 1 120 61 10000 601 1440)) base = some 2
      ∧ resultOf (.loadFares (faresBody 1 120 60 10001 601 1440)) base = some 2
      ∧ resultOf (.loadFares (faresBody 1 120 60 10000 601 1441)) base = some 2 := by decide +kernel

theorem test_meets_ReleaseDaysKeepsTheList :
    let pairs := fun (n : Nat) => (List.range n).map fun i => ((5, BitVec.ofNat 16 i) : Half × Half)
    let s := fun (n : Nat) => ({ base with fare := { base.fare with released := pairs n } } : State)
    let body := fun (a : Byte) (station day : Nat) => [a] ++ natHalf station ++ natHalf day
    (body 0 1023 9000).length = 5 ∧ (1023, 9000) ∉ (s 15).fare.released ∧ (5, 14) ∈ (s 15).fare.released
      ∧ (after (.releaseDays (body 0 1023 9000)) (s 15)).fare.released.length = 16
      ∧ resultOf (.releaseDays (body 0 1023 9000)) (s 16) = some 3 ∧ resultOf (.releaseDays (body 0 1024 9000)) (s 15) = some 2
      ∧ resultOf (.releaseDays (body 0 5 14)) (s 16) = some 0 ∧ (after (.releaseDays (body 1 5 14)) (s 15)).fare.released = pairs 14
      ∧ resultOf (.releaseDays (body 1 5 15)) (s 15) = some 4 ∧ (after (.releaseDays (body 2 0 0)) (s 15)).fare.released = []
      ∧ 2 < (byteAt (body 3 5 14) 0).toNat ∧ (after (.releaseDays (body 3 5 14)) (s 15)).fare.released = pairs 15 := by decide +kernel

theorem test_meets_KeysAndPoliciesAreStored :
    let stored := fun (b : List Byte) => ((after (.loadKey b) base).check.keys.toList[15]?).map (·.state)
    ([15, 1, 0, 0, 0, 9] : List Byte).length = 6 ∧ stored [15, 1, 0, 0, 0, 9] = some .active
      ∧ stored [15, 2, 0, 0, 0, 9] = some .retired ∧ stored [15, 0, 0, 0, 0, 9] = some .empty
      ∧ resultOf (.loadKey [15, 3, 0, 0, 0, 9]) base = some 2 ∧ resultOf (.loadKey [16, 1, 0, 0, 0, 9]) base = some 2
      ∧ (after (.setPolicy [6, 1]) base).check.policies.impossible = .refuseAndBlock
      ∧ decodeIn evidenceList 6 = some .impossible ∧ decodeIn policyList 2 = some .flag
      ∧ resultOf (.setPolicy [0, 0]) base = some 0 ∧ resultOf (.setPolicy [2, 1]) base = some 2
      ∧ resultOf (.setPolicy [3, 3]) base = some 2 ∧ decodeIn evidenceList 7 = none := by decide +kernel

def hotEntry (n : CardNumber) (o : HotOrigin) : HotEntry := { number := n, origin := o, ownBlock := false }

def listed : State :=
  { base with hotlist := { entries := [hotEntry 3 .host, hotEntry 5 .localAdd], localOrder := [5] } }

/-- A list of 2 048 numbers, the last of them LOCAL. -/
def fullList : Hotlist :=
  { entries := ((List.range 2047).map fun i => hotEntry (BitVec.ofNat 64 i) .host) ++ [hotEntry 9000 .localAdd]
    localOrder := [9000] }

theorem test_meets_HotlistRequestsAndLookups :
    (longBytes 5).length = 8 ∧ (∃ e ∈ listed.hotlist.entries, e.number = 3 ∧ e.origin = .host)
      ∧ (∃ e ∈ listed.hotlist.entries, e.number = 5 ∧ e.origin = .localAdd)
      ∧ (∀ e ∈ listed.hotlist.entries, e.number ≠ 4)
      ∧ (after (.hotlistAdd (longBytes 4)) listed).hotlist.entries.map (·.number) = [3, 4, 5]
      ∧ (after (.hotlistAdd (longBytes 5)) listed).hotlist.localOrder = []
      ∧ (after (.hotlistRemove (longBytes 5)) listed).hotlist = { entries := [hotEntry 3 .host], localOrder := [] }
      ∧ resultOf (.hotlistRemove (longBytes 4)) listed = some 4
      ∧ ([7] ++ longBytes 8 ++ longBytes 8).length = 17
      ∧ (after (.hotlistRange ([7] ++ longBytes 8 ++ longBytes 8)) listed).hotlisted 8 = true
      ∧ (after (.hotlistRange ([7] ++ longBytes 9 ++ longBytes 8)) listed).hotlisted 8 = false
      ∧ resultOf (.hotlistRange ([8] ++ longBytes 8 ++ longBytes 8)) listed = some 2 := by decide +kernel

theorem test_listed_in_order : listed.HotlistOrdered := by unfold State.HotlistOrdered; decide +kernel

/-- 5.10: a full list refuses the host's add, and an ALERT's add takes the place of the earliest LOCAL number. -/
theorem test_full_list_example :
    fullList.entries.length = 2048 ∧ resultOf (.hotlistAdd (longBytes 8000)) { base with hotlist := fullList } = some 3
      ∧ (fullList.localAdd 8000 false).localOrder = [8000] ∧ (fullList.localAdd 8000 false).listed 9000 = false := by
  decide +kernel

def pushBody (n : CardNumber) (counter station minute : Nat) (d : Byte) : List Byte :=
  longBytes n ++ natHalf counter ++ natWord 7 ++ natHalf station ++ natHalf 9000 ++ natHalf minute ++ [d]

theorem test_meets_PushSightingRecordsTheNewer :
    let s : State := { base with sightings := [{ (entryOf .noHold) with sighting := some (seen 18 1000 0) }] }
    let filled : State := { base with sightings := (List.range 256).map fun i =>
      { (entryOf (if i = 0 then .own .paid else .noHold)) with number := BitVec.ofNat 64 i } }
    let held : State := { base with sightings := (List.range 256).map fun i =>
      { (entryOf (.peer 8 10000)) with number := BitVec.ofNat 64 i } }
    (pushBody number 18 1023 1439 1).length = 21
      ∧ ((after (.pushSighting (pushBody number 19 1023 1439 1)) s).sightings.map (·.sighting.map (·.counter))) = [some 19]
      ∧ (after (.pushSighting (pushBody number 18 1023 1439 1)) s).sightings = s.sightings
      ∧ resultOf (.pushSighting (pushBody number 19 1024 1439 1)) s = some 2
      ∧ resultOf (.pushSighting (pushBody number 19 1023 1440 1)) s = some 2
      ∧ resultOf (.pushSighting (pushBody number 19 1023 1439 2)) s = some 2
      ∧ (after (.pushSighting (pushBody number 19 1023 1439 0)) base).sightings.length = 1
      ∧ filled.sightings.length = 256 ∧ (∀ e ∈ filled.sightings, e.number ≠ number)
      ∧ (∀ e ∈ filled.sightings.take 1, e.hold ≠ .noHold) ∧ (filled.sightings.drop 1).head?.map (·.hold) = some .noHold
      ∧ ((after (.pushSighting (pushBody number 19 1023 1439 0)) filled).sightings.map (·.number)).drop 255 = [number]
      ∧ (∀ e ∈ held.sightings, e.hold ≠ .noHold)
      ∧ resultOf (.pushSighting (pushBody number 19 1023 1439 0)) held = some 3 := by decide +kernel

def watchBody (target field sense kind group combine action : Byte) : List Byte :=
  [target, field] ++ longBytes 1 ++ longBytes 9 ++ [sense, kind, group, combine, action] ++ natHalf 3

theorem test_meets_WatchRequestsStoreAndReport :
    (watchBody 7 5 1 2 3 0 0).length = 25 ∧ resultOf (.setWatchUnit (watchBody 7 5 1 2 3 0 0)) base = some 0
      ∧ resultOf (.setWatchUnit (watchBody 7 6 1 2 3 0 0)) base = some 2
      ∧ resultOf (.setWatchUnit (watchBody 7 5 2 2 3 0 0)) base = some 2
      ∧ resultOf (.setWatchUnit (watchBody 7 5 1 3 3 0 0)) base = some 2
      ∧ resultOf (.setWatchUnit (watchBody 7 5 1 2 4 0 0)) base = some 2
      ∧ resultOf (.setWatchUnit (watchBody 8 5 1 2 3 0 0)) base = some 2
      ∧ resultOf (.setWatchCommon (watchBody 255 9 9 9 9 1 2)) base = some 0
      ∧ resultOf (.setWatchCommon (watchBody 255 0 0 0 0 2 0)) base = some 2
      ∧ resultOf (.setWatchCommon (watchBody 255 0 0 0 0 0 3)) base = some 2 := by decide +kernel

def watchUnit (group : Byte) (field : WatchField) (low high : BitVec 64) : WatchUnit :=
  { field := field, low := low, high := high, sense := .inside, kind := .any, group := group }

def values : WatchValues := watchValues .paid card { fare := 240, balanceAfter := 910, dayRecord := none, entry := none, journey := none, entryStation := some 112 }

/-- Two groups, one unit of each true, under AND and OR; the bounds of a range; a disabled unit; no entry station. -/
theorem test_meets_WatchUnitsAreComparedAndCombined :
    let units := (Watch.afterReset.units.setIfInBounds 0 (watchUnit 0 .fare 240 240)).setIfInBounds 1 (watchUnit 3 .fare 241 300)
    let w := fun (c : Combine) => ({ Watch.afterReset with units := units, combine := c } : Watch)
    (∀ u ∈ (w .and).units.toList, u.group.toNat ≤ 3) ∧ (w .or).combine = .or ∧ (w .and).combine = .and
      ∧ effectiveMatch (w .or) values = true ∧ effectiveMatch (w .and) values = false
      ∧ matchedUnits units.toList values = 1 ∧ WatchUnit.afterReset.enabled = false
      ∧ (watchUnit 0 .balanceAfter (BitVec.ofInt 64 (-1)) 910).result values = true
      ∧ (watchUnit 0 .fare 0 239).result values = false
      ∧ ({ watchUnit 0 .fare 0 239 with kind := .entry }).kind = .entry ∧ values.face = .paid
      ∧ ({ values with entryStation := none } : WatchValues).entryStation = none := by decide +kernel

def recordOf (q : Word) : Record :=
  { sequence := q, kind := .transaction .abandoned, stamp := none, face := .street, fields := RecordFields.blank }

def withJournal (l : List Record) (next : Word) : State := { base with journal := { records := l, next := next } }

/-- Sequences that pass from the greatest to 1: what a count of 1 and of 8 returns, and what is freed. -/
theorem test_meets_JournalIsReadAndFreedInOrder :
    let s := withJournal [recordOf 4294967295, recordOf 1, recordOf 2] 3
    let freed := (after (.freeJournal (wordBytes 1)) s).journal
    (wordBytes 1 ++ [8]).length = 5 ∧ resultOf (.readJournal (wordBytes 1 ++ [8])) s = some 0
      ∧ resultOf (.readJournal (wordBytes 1 ++ [0])) s = some 2 ∧ resultOf (.readJournal (wordBytes 1 ++ [9])) s = some 2
      ∧ (wordBytes 1).length = 4 ∧ s.journal.records = [recordOf 4294967295, recordOf 1] ++ [recordOf 2]
      ∧ (∀ r ∈ [recordOf 4294967295, recordOf 1], (wordAt (wordBytes 1) 0 - r.sequence).toNat < 2 ^ 31)
      ∧ 2 ^ 31 ≤ (wordAt (wordBytes 1) 0 - (recordOf 2).sequence).toNat
      ∧ freed.records = [recordOf 2] ∧ freed.next = 3
      ∧ (2147483649 - (recordOf 2).sequence).toNat < 2 ^ 31
      ∧ (after (.freeJournal (wordBytes 2147483649)) s).journal.records = s.journal.records := by decide +kernel

theorem test_meets_AppendGivesTheNextSequence :
    let s := withJournal (List.replicate 768 (recordOf 1)) 4294967295
    s.journal.records.length < 1024 ∧ s.service.flags.journal = false ∧ s.freeSlots = 256
      ∧ (s.append .lateAlert none .paid RecordFields.blank).journal.next = 1
      ∧ (s.append .lateAlert none .paid RecordFields.blank).service.flags.journal = true := by decide +kernel

def aisleBody (station : Nat) (gate mode polarity : Byte) : List Byte :=
  natHalf station ++ [gate, mode, polarity, 0, 0, polarity, 2] ++ natHalf 9 ++ natHalf 501 ++ [8]

theorem test_meets_SetAisleStoresEverythingTogether :
    let occupied := withExit [granted 7 false] base
    let torn : State := { base with tears := [tearEntry (.torn 1 9)] }
    let old : State := { base with tears := [{ tearEntry (.torn 0 8) with number := 6 }, tearEntry (.torn 1 9)] }
    (aisleBody 1023 63 2 1).length = 14 ∧ resultOf (.setAisle (aisleBody 1023 63 2 1)) occupied = some 0
      ∧ (after (.setAisle (aisleBody 1023 63 2 1)) base).setup
        = { place := some { station := 1023, gate := 63 }, grantLifetime := 3, tearWindow := 10, ringTimeout := 500, sightingLifetime := 7 }
      ∧ (replyTo (.setAisle (aisleBody 1023 63 2 1)) base).map (·.body) = some [0, 3, 255, 63, 2, 1, 0, 0, 1, 3, 0, 10, 1, 244, 0, 7]
      ∧ resultOf (.setAisle (aisleBody 1024 63 2 1)) base = some 2 ∧ resultOf (.setAisle (aisleBody 1023 64 2 1)) base = some 2
      ∧ resultOf (.setAisle (aisleBody 1023 63 3 1)) base = some 2 ∧ resultOf (.setAisle (aisleBody 1023 63 2 2)) base = some 2
      ∧ decodeIn aisleModeList 1 = some .exitOnly ∧ occupied.aisle.mode = .bidirectional
      ∧ occupied.aisle.queues.exit ≠ [] ∧ resultOf (.setAisle (aisleBody 1023 63 1 1)) occupied = some 1
      ∧ (after (.setAisle (aisleBody 1023 63 1 1)) base).aisle.lock = .exit
      ∧ (∀ e ∈ torn.tears, e.state = .torn 1 9) ∧ (torn.now - 1).toNat < 10 * 1000
      ∧ (after (.setAisle (aisleBody 1023 63 2 1)) torn).tears = torn.tears
      ∧ (old.tears.map (·.number)).Nodup ∧ 10 * 1000 ≤ (old.now - 0).toNat ∧ (old.now - 1).toNat < 10 * 1000 := by decide +kernel

theorem test_meets_AisleReportsChangeNothing :
    let r := fun (n : Nat) => { run .exit with crossings := n }
    (withRun (some (r 255)) base).aisle.run = some (r 255) ∧ (r 255).crossings ≤ 255 ∧ 255 < (r 256).crossings
      ∧ (after (.aisleStatus []) (withRun (some (r 255)) base)).freeCount = base.freeCount
      ∧ (after (.aisleStatus []) (withRun (some (r 256)) base)).freeCount = base.freeCount + 1 := by decide +kernel

/-! ### Witnesses: resets, power and the reader faces -/

theorem test_meets_ResetsAndPowerKeepTheStore :
    let s := committed .settle .settling
    let asked : State := { s with link := { s.link with busy := true, reply := some { kind := 0x20, body := [0] }, resetPending := true } }
    let two : State := { s with tears := [tearEntry .pending, { tearEntry .pending with number := 6, face := .street, kind := .entry }] }
    (asked.tears.map (·.number)).Nodup ∧ asked.power = .running ∧ asked.link.reply ≠ none ∧ asked.link.resetPending = true
      ∧ asked.storeKept = true ∧ (tearEntry .pending).state = .pending ∧ asked.tears = [tearEntry .pending]
      ∧ (after .replySent asked).tears.map (·.state) = [.torn 0 1]
      ∧ (after .replySent asked).journal.records.map (fun r => (r.kind, r.stamp)) = [(.transaction .torn, some (9000, 312))]
      ∧ (after (.powerOn true) asked).tears.map (·.state) = [.torn 0 1] ∧ (after (.powerOn false) asked).tears = []
      ∧ (two.tears.map (·.number)).Nodup
      ∧ (after (.powerOn true) two).journal.records.map (fun r => (r.sequence, r.face)) = [(1, .street), (2, .paid)]
      ∧ (after (.powerOn true) two).tears.map (·.state) = [.torn 0 2, .torn 0 1]
      ∧ (after (.powerOn false) (nearlyDue .opened 1)).aisle.queues.exit = []
      ∧ (after (.powerOn false) (nearlyDue .opened 1)).service.emergency.accepted = true
      ∧ (after .backupSupplyFailure asked).storeKept = false
      ∧ (after (.powerOn true) (nearlyDue .opened 1)).aisle.passageAlarm = .silent
      ∧ (after (.powerOn true) (nearlyDue .opened 1)).aisle.closedLimit.accepted = true := by decide +kernel

def atFace (u : FaceUnit) : State := { base with faces := { base.faces with street := u } }

def polled (st : FaceState) (second responded : Bool) (misses unanswered : Nat) : State :=
  atFace { face st with
    poll := some { second := second, sentAt := 9975, responded := responded }, missCount := misses, unanswered := unanswered }

theorem test_meets_PollsRunAndEndUnanswered :
    let settling := fun (start : Word) => atFace { face .settling with settleStart := some start }
    let polling := fun (start : Word) => atFace { face .polling with pollStart := some start }
    (20 ≤ ((settling 9980).now - 9980).toNat ∧ ((after (.settlingTimeExpiry .street) (settling 9980)).face .street).state = .polling
        ∧ ((after (.settlingTimeExpiry .street) (settling 9981)).face .street).state = .settling)
    ∧ (((after (.pollDue .street) (polling 9900)).face .street).poll ≠ none
        ∧ ((after (.pollDue .street) (polling 9901)).face .street).poll = none)
    ∧ (25 ≤ (base.now - 9975).toNat ∧ ((polled .polling false false 0 0).face .street).poll ≠ none
        ∧ ((after (.wakeTimeout .street) (polled .polling false false 0 0)).face .street).poll.map (·.second) = some true)
    ∧ ((after (.wakeTimeout .street) (polled .polling true false 1 0)).face .street).missCount = 2
    ∧ ((after (.wakeTimeout .street) (polled .watching true true 2 0)).face .street).unanswered = 1
    ∧ ((after (.wakeTimeout .street) (polled .watching true true 2 1)).face .street).state = .polling
    ∧ (2 ≤ ((polled .watching true false 2 0).face .street).missCount ∧ base.service.faultSlot = none
        ∧ base.service.state ≠ .lockdown
        ∧ ((after (.wakeTimeout .street) (polled .watching true false 2 0)).face .street).state = .disabled) := by decide +kernel

theorem test_meets_FrontEndResponsesEndPolls :
    let p : Poll := { second := true, sentAt := 9975, responded := false }
    ((polled .polling true false 2 0).face .street).poll = some p ∧ ((polled .polling true false 2 0).face .street).state = .polling
      ∧ ((polled .watching true false 2 1).face .street).poll = some p
      ∧ ((polled .watching true false 2 1).face .street).state = .watching
      ∧ (base.face .street).poll = none ∧ (base.face .street).state ≠ .off ∧ (base.face .street).state ≠ .disabled
      ∧ ((after (.presenceAnswer .street) (polled .polling true false 2 0)).context .street).state = .naming
      ∧ ((after (.garbledReply .street) (polled .polling true false 2 0)).face .street).lastOutcome = .twoCards
      ∧ ((after (.collisionReport .street) (polled .watching true false 2 1)).face .street).unanswered = 0 := by decide +kernel

theorem test_meets_LampsAndTones :
    let detained : State := { base with aisle := { base.aisle with watchAlarm := some 9000 } }
    [LeafState.closed, .opening, .opened, .closing, .free, .jammed].map (fun l => (withLeaf l base).leafDrive)
        = [.close, .opening, .opening, .close, .opening, .off]
      ∧ [FaceState.off, .settling, .polling, .serving, .watching, .disabled].map (fun u => (atFace (face u)).fieldOn .street)
        = [false, true, true, true, true, false]
      ∧ base.power = .running ∧ base.lamp .street = .stop ∧ detained.lamp .street = .attend
      ∧ (withService .emergency base).lamp .paid = .free ∧ starting.lamp .paid = .off
      ∧ (withService .closed (atFace (face .off))).lamp .street = .off
      ∧ (withService .closed (atFace (face .serving))).service.state = .closed
      ∧ (atFace (face .disabled)).lamp .street = .stop ∧ detained.sound .paid = .alarm ∧ base.sound .paid = .silent
      ∧ [9881, 9880, 9761, 9760].map (fun t => ({ base with
          aisle := { base.aisle with tones := { street := none, paid := some (.refuse, t) } } } : State).sound .paid)
        = [.refuse, .silent, .silent, .refuse]
      ∧ (base.askTone .paid .accept).sound .paid = .accept ∧ (detained.askTone .paid .accept).aisle.tones = detained.aisle.tones
      ∧ ((base.askTone .paid .accept).passageAlarm (run .exit) .intrusion).sound .paid = .alarm
      ∧ ((base.askTone .paid .accept).passageAlarm (run .exit) .intrusion).aisle.tones.paid = none := by
  decide +kernel

/-! ### Witnesses: the tap transaction -/

/-- For each command, an exchange whose reply timeout is just reached, in the context state that waits for it. -/
theorem test_meets_CardRepliesAreExpectedOrTimeOut :
    let e := fun (c : CardCommand) (again : Bool) => ({ command := c, sentAt := 9975, resent := again } : Exchange)
    let resent := fun (c : CardCommand) (x : Context) => ({ tap c x with
      faces := { base.faces with paid := { face .serving with exchange := some (e c true) } } } : State)
    let stage := CardCommand.stage written.toBytes 42
    ((tap .fetch (context .reading)).face .paid).exchange = some (e .fetch false)
      ∧ 25 ≤ (base.now - 9975).toNat ∧ ((tap stage (context .staging)).face .paid).exchange = some (e stage false)
      ∧ (after (.settled .paid 42) (tap .fetch (context .reading))).faces = (tap .fetch (context .reading)).faces
      ∧ ((after (.commandTimeout .paid) (tap .fetch (context .reading))).face .paid).exchange
          = some { command := .fetch, sentAt := 10000, resent := true }
      ∧ ((after (.commandTimeout .paid) (committed .settle .settling)).context .paid).state = .confirming
      ∧ ((after (.commandTimeout .paid) (resent .name (context .naming))).context .paid).state = .idle
      ∧ ((after (.commandTimeout .paid) (resent .fetch (context .reading))).context .paid).state = .idle
      ∧ ((after (.commandTimeout .paid) (tap (.prove 5) (context .proving))).context .paid).state = .idle
      ∧ ((after (.commandTimeout .paid) (resent .fetch { context .reading with blockPath := true })).context .paid).state
          = .refusedShown
      ∧ ((after (.commandTimeout .paid) (resent stage (context .staging))).context .paid).state = .refusedShown
      ∧ (after (.commandTimeout .paid) { committed .settle .confirming with
          faces := { base.faces with paid := { face .serving with exchange := some (e .fetch true) } } }).tears.map (·.state)
          = [.torn 10000 1] := by decide +kernel

/-- A field-off request is pending on the paid face. -/
def offPending (s : State) : State := { s with faces := { s.faces with paid := { s.faces.paid with offPending := true } } }

theorem test_meets_RefusedAndAbandonedLeaveOneRecord :
    let s := tap .fetch (context .reading)
    (s.context .paid).late = none ∧ (s.context .paid).blockPath = false ∧ (s.face .paid).state = .serving
      ∧ (s.face .paid).offPending = false ∧ (s.endRefused .paid .cardInvalid).aisle.queues.exit = []
      ∧ ((s.endRefused .paid .cardInvalid).journal.records.map (·.fields.reason)) = [some .cardInvalid]
      ∧ ((s.endAbandoned .paid).journal.records.map (·.kind)) = [.transaction .abandoned]
      ∧ (s.endAbandoned .paid).aisle.lock = .unlocked
      ∧ ((offPending s).endRefused .paid .cardInvalid).faces.paid.state = .off
      ∧ ((offPending s).endRefused .paid .cardInvalid).contexts.paid = Context.idle := by decide +kernel

/-- A late finding's LATE_ALERT, with slots to spare and without; the own-block mark of a number that the other face's block path still
needs, and of one whose block path over there has ended. -/
theorem test_meets_RefusedAndAbandoned_late :
    let s := fun (n : Nat) => ({ tap .fetch { context .reading with late := some .replay } with
      journal := { records := List.replicate n (recordOf 1), next := 5 } } : State)
    let written_ := fun (n : Nat) => ((s n).endAbandoned .paid).journal.records.drop n |>.map fun r => (r.kind, r.fields.reference)
    let blocking := fun (st : CtxState) => ({ tap .fetch { context .reading with blockPath := true } with
      contexts := { street := { context st with blockPath := true }, paid := { context .reading with blockPath := true } }
      hotlist := { entries := [{ number := number, origin := .localAdd, ownBlock := true }], localOrder := [number] } } : State)
    written_ 1022 = [(.transaction .abandoned, none), (.lateAlert, some 5)] ∧ written_ 1023 = [(.transaction .abandoned, none)]
      ∧ ((s 0).endAbandoned .paid).service.flags.clone = true
      ∧ ((blocking .staging).endRefused .paid .evidence).hotlist.entries.map (·.ownBlock) = [true]
      ∧ ((blocking .refusedShown).endRefused .paid .evidence).hotlist.entries.map (·.ownBlock) = [false] := by decide +kernel

/-- The paid face waiting for NAME, with nothing queued. -/
def naming : State := { withExit [] (tap .name { Context.idle with state := .naming }) with sightings := [] }

theorem test_meets_NameAnswersAreAdmittedOrRefused :
    let s := { naming with aisle := { naming.aisle with lock := .unlocked }, journal := { records := List.replicate 1021 (recordOf 1), next := 2 } }
    let slot : KeySlot := { state := .active, key := 1000 }
    (s.power = .running ∧ (s.face .paid).exchange.map (·.command) = some .name ∧ (s.face .paid).state = .serving
        ∧ (s.face .paid).offPending = false ∧ (s.context .paid).state = .naming ∧ s.service.state = .inService
        ∧ s.service.clock.isSet = true ∧ s.aisle.mode = .bidirectional ∧ s.obligations + 3 ≤ s.freeSlots ∧ s.aisle.leaf ≠ .jammed
        ∧ s.aisle.lock = .unlocked ∧ (s.aisle.queues.get .exit).length < 3 ∧ s.check.keys.toList[4]? = some slot
        ∧ slot.state = .active ∧ s.hotlisted number = false)
    ∧ ((after (.nameAnswer .paid number 0 4 .active) s).context .paid).state = .reading := by decide +kernel

/-- Each refusal of a name answer, in the order of the tests: before admission no record, after it one with its reason. -/
theorem test_meets_NameAnswerRefusals :
    let answer := fun (s : State) (g : Byte) => (after (.nameAnswer .paid number 0 g .active) s).journal.records.map (·.fields.reason)
    let full : State := { naming with journal := { records := List.replicate 1022 (recordOf 1), next := 2 } }
    let retired : State := { naming with check := { naming.check with
      keys := naming.check.keys.setIfInBounds 4 { state := .retired, key := 1 } } }
    full.freeSlots < full.obligations + 3 ∧ ((after (.nameAnswer .paid number 0 4 .active) full).context .paid).state = .refusedShown
      ∧ (after (.nameAnswer .paid number 0 4 .active) full).journal = full.journal
      ∧ answer (withService .closed naming) 4 = []
      ∧ answer (withLeaf .jammed naming) 4 = [some .aisleFault]
      ∧ answer { naming with aisle := { naming.aisle with lock := .entry } } 4 = [some .aisleBusy]
      ∧ answer (withExit [granted 7 false, granted 8 false, granted 9 false] naming) 4 = [some .queueFull]
      ∧ naming.check.keys.toList[15]? = some { state := .empty, key := 0 } ∧ answer naming 15 = [some .unknownKey]
      ∧ naming.check.keys.toList[16]? = none ∧ answer naming 16 = [some .unknownKey]
      ∧ answer retired 4 = [some .keyRetired] := by decide +kernel

/-- Status BLOCKED, and a hotlisted number under each policy: flagged, refused, blocked with the add made and not made. -/
theorem test_meets_NameChecksFindEvidence :
    let empty := { naming with aisle := { naming.aisle with lock := .unlocked } }
    let hot := fun (p : Policy) (l : Hotlist) => ({ empty with
      check := { empty.check with
        policies := { empty.check.policies with hotlisted := p }
        ranges := empty.check.ranges.setIfInBounds 0 { low := number, high := number } }
      hotlist := l } : State)
    let answer := fun (st : CardStatus) (s : State) => after (.nameAnswer .paid number 0 4 st) s
    let none_ : Hotlist := { entries := [], localOrder := [] }
    (hot .flag none_).hotlisted number = true ∧ ((answer .active (hot .flag none_)).context .paid).flagged = [.hotlisted]
      ∧ ((answer .active (hot .flag none_)).context .paid).state = .reading
      ∧ (answer .active (hot .refuse none_)).journal.records.map (·.fields.evidence) = [some .hotlisted]
      ∧ (answer .blocked (hot .flag none_)).journal.records.map (·.fields.evidence) = [some .blocked]
      ∧ ((answer .active (hot .refuseAndBlock none_)).context .paid).blockPath = true
      ∧ (answer .active (hot .refuseAndBlock none_)).ring.queue = [.alert 5 0 number .hotlisted 1]
      ∧ ((answer .active (hot .refuseAndBlock
          { entries := fullList.entries.map fun e => { e with ownBlock := true }, localOrder := [9000] })).context .paid).state
          = .refusedShown
      ∧ ((after (.nameAnswer .paid number 0 4 .active) (withService .closed (offPending naming))).face .paid).state = .off := by
  decide +kernel

theorem test_meets_CardImageIsCheckedAndProved :
    let s := tap .fetch { context .reading with image := none, ownHold := false, holdsEntry := false }
    let read := fun (c : CardImage) => match checkImage named c.toBytes with
      | .ok i => some (.inl i)
      | .error r => some (.inr r : CardImage ⊕ Reason)
    let entered := fun (station : Half) (gate : Byte) (minute : Half) =>
      some ({ station := station, gate := gate, day := 9000, minute := minute, transferMark := false } : EntryRecord)
    let journeyAt := fun (station minute : Half) => ({ station := station, day := 9000, minute := minute, fare := 1 } : Journey)
    let valid := fun (x : Option EntryRecord × List Journey) =>
      ((read { card with entry := x.1, history := x.2 }).bind Sum.getLeft?).isSome
    s.power = .running ∧ (s.face .paid).state = .serving ∧ (s.face .paid).exchange.map (·.command) = some .fetch
      ∧ (s.context .paid).state = .reading ∧ (s.context .paid).name = some named ∧ card.toBytes.length = 64
      ∧ s.tears = [] ∧ read card = some (.inl card)
      ∧ read { card with balance := 999999, counter := 65534 } = some (.inl { card with balance := 999999, counter := 65534 })
      ∧ read { card with balance := 1000000 } = some (.inr .cardInvalid)
      ∧ read { card with balance := BitVec.ofInt 32 (-99999) } = some (.inl { card with balance := BitVec.ofInt 32 (-99999) })
      ∧ read { card with balance := BitVec.ofInt 32 (-100000) } = some (.inr .cardInvalid)
      ∧ read { card with counter := 65535 } = some (.inr .counterExhausted)
      ∧ [(10, 1), (10, 2), (25, 2), (33, 2), (34, 3), (34, 4), (59, 2)].map (fun (i, b) =>
          (CardImage.ofBytes (card.toBytes.set i b)).isSome) = [true, false, false, false, true, false, false]
      ∧ [(entered 1023 63 1439, []), (entered 1024 63 1439, []), (entered 1023 64 1439, []), (entered 1023 63 1440, [])].map valid
        = [true, false, false, false]
      ∧ [(none, [journeyAt 1023 1439]), (none, [journeyAt 1024 1439]), (none, [journeyAt 1023 1440])].map valid = [true, false, false]
      ∧ [{ card with pass := some { zoneLow := 31, zoneHigh := 31, lastDay := 0 } },
          { card with pass := some { zoneLow := 32, zoneHigh := 31, lastDay := 0 } },
          { card with pass := some { zoneLow := 31, zoneHigh := 32, lastDay := 0 } }, { card with cls := 1 }, { card with generation := 5 },
          { card with status := .blocked }, { card with number := 3 }].map (fun c => (read c).bind Sum.getLeft? |>.isSome)
        = [true, false, false, false, false, false, false]
      ∧ ((after (.cardImage .paid card.toBytes) s).context .paid).challenge = some 1430101088
      ∧ ((after (.cardImage .paid { card with counter := 42 }.toBytes) { s with tears := [tearEntry (.torn 0 9)] }).context .paid).state
          = .removalWait
      ∧ ((after (.cardImage .paid card.toBytes) { s with tears := [tearEntry (.torn 0 9)] }).context .paid).state = .proving
      ∧ (after (.cardImage .paid card.toBytes) { s with tears := [tearEntry (.torn 0 9)] }).tears = [] := by decide +kernel

/-- The torn exit met again at its own face with the new counter, the old one and another; at the other face and on the block path. -/
theorem test_meets_TornEntriesAreResolvedAtTheRead :
    let s := { tap .fetch { context .reading with image := none } with tears := [tearEntry (.torn 0 9)] }
    let u := (s.resolveAtRead .paid written.toBytes).2
    let kinds := fun (c : Half) => (s.resolveAtRead .paid { card with counter := c }.toBytes).2.journal.records.map (·.kind)
    (s.tears.map (·.number)).Nodup ∧ (s.sightings.map (·.number)).Nodup ∧ tearEntry (.torn 0 9) ∈ s.tears
      ∧ (tearEntry (.torn 0 9)).number = (s.context .paid).number ∧ (s.face .paid).state = .serving
      ∧ (s.context .paid).reservation = .held
      ∧ s.aisle.queues.get .exit = [] ++ { face := .paid, number := number, state := .reserved } :: []
      ∧ (s.resolveAtRead .paid written.toBytes).1 = .ended
      ∧ kinds 42 = [.transaction .recovered] ∧ kinds 41 = [.tear .void] ∧ kinds 43 = [.tear .unresolved]
      ∧ u.aisle.queues.exit = [{ face := .paid, number := number, state := .granted 1 10000 10000 false }]
      ∧ u.aisle.tones.paid = some (.accept, 10000)
      ∧ u.ring.queue = [.release 5 0 number (.committed 42 70268121 407 9000 312 1)]
      ∧ u.sightings.map (fun e => e.sighting.map fun x => (x.counter, x.source)) = [some (42, .localWrite)] := by decide +kernel

theorem test_meets_TornEntriesAreResolvedAtTheRead_elsewhere :
    let s := fun (f : Face) (x : Context) =>
      ({ tap .fetch { context .reading with image := none, blockPath := x.blockPath, flagged := [.replay] } with
        tears := [{ tearEntry (.torn 0 9) with face := f, kind := if f = .street then .entry else .exit }] } : State)
    let met := fun (f : Face) (x : Context) => (s f x).resolveAtRead .paid written.toBytes
    let onPath := { context .reading with blockPath := true }
    [(met .street Context.idle).1, (met .paid onPath).1].map (fun r => decide (r = .continues)) = [true, true]
      ∧ (met .street Context.idle).2.journal.records.map (fun r => (r.kind, r.face, r.fields.evidence))
        = [(.transaction .recovered, .street, none)]
      ∧ (met .street Context.idle).2.ring.queue = [.release 5 0 number (.committed 42 70268121 407 9000 312 0)]
      ∧ (met .paid onPath).2.aisle.queues.exit = [{ face := .paid, number := number, state := .reserved }] := by decide +kernel

def proving : State := tap (.prove 5) (context .proving)

theorem test_proving_waits : Claims.waits proving .paid (· = .prove 5) .proving := ⟨rfl, rfl, ⟨_, rfl, rfl⟩, rfl⟩

theorem test_meets_ProofAnswerIsCompared :
    let blocking := tap (.prove 5) { context .proving with blockPath := true, refusing := some .replay }
    let answer := fun (s : State) (p : Word) => ((after (.proofAnswer .paid p) s).context .paid).state
    (proving.context .paid).name = some named ∧ (proving.context .paid).image = some card
      ∧ (proving.context .paid).key = some 1000 ∧ (proving.context .paid).challenge = some 5
      ∧ (proving.context .paid).blockPath = false ∧ proving.sightingFindings .paid card = [] ∧ proving.ring.state = .up
      ∧ proving.ring.queue.length < 32 ∧ proving.check.policies.forged = .refuse
      ∧ answer proving 2386866619 = .holding ∧ answer proving 2386866620 = .refusedShown
      ∧ answer { proving with ring := { proving.ring with state := .isolated } } 2386866619 = .staging
      ∧ answer { proving with ring := { proving.ring with queue := List.replicate 32 (.census 5 0) } } 2386866619 = .staging
      ∧ answer blocking 2386866619 = .staging ∧ answer (withService .closed blocking) 2386866619 = .refusedShown
      ∧ answer blocking 0 = .refusedShown := by decide +kernel

/-- A flagged, a refusing and a blocking finding, the last two after a flagged one. -/
theorem test_meets_SightingChecksFollowTheirPolicies :
    let policies := fun (concurrent impossible : Policy) (s : State) =>
      ({ s with check := { s.check with policies := { s.check.policies with concurrent := concurrent, impossible := impossible } } } : State)
    let s := sighted (seen 40 1000 300) (some 8)
    let t := fun (c i : Policy) => after (.proofAnswer .paid 2386866619) (policies c i s)
    (s.sightings.map (·.number)).Nodup ∧ (s.context .paid).holdsEntry = true ∧ (s.context .paid).expectedProof = 2386866619
      ∧ s.sightingFindings .paid card = [.concurrent, .impossible] ∧ (s.context .street).holdsEntry = false
      ∧ ((t .flag .flag).context .paid).flagged = [.concurrent, .impossible] ∧ ((t .flag .flag).context .paid).state = .holding
      ∧ (let alone := policies .flag .flag { s with ring := { s.ring with state := .isolated } }
        alone.ring.state = .isolated ∧ ((after (.proofAnswer .paid 2386866619) alone).context .paid).bypassed = true
        ∧ ((after (.proofAnswer .paid 2386866619) alone).context .paid).flagged = [.concurrent, .impossible])
      ∧ ((t .flag .refuse).context .paid).state = .refusedShown ∧ ((t .flag .refuse).context .paid).refusing = some .impossible
      ∧ ((t .refuse .flag).ring.queue) = [.alert 5 0 number .concurrent 0]
      ∧ (after (.proofAnswer .paid 2386866619) (withService .closed (policies .flag .refuseAndBlock s))).journal.records.map
          (·.fields.reason) = [some .evidence]
      ∧ ((t .flag .refuseAndBlock).context .paid).state = .staging ∧ (t .flag .refuseAndBlock).hotlist.listed number = true
      ∧ (after (.proofAnswer .paid 2386866619)
          { policies .refuseAndBlock .flag s with
            hotlist := { entries := fullList.entries.map fun e => { e with ownBlock := true }, localOrder := [9000] } }).hotlist.listed number
          = false := by decide +kernel

/-- DECIDING with a claim, under a policy for CONCURRENT. -/
def claiming (p : Policy) : State :=
  let s := tap .fetch { context .holding with contested := true }
  ({ s with check := { s.check with policies := { s.check.policies with concurrent := p } } } : State).deciding .paid

/-- DECIDING with a claim, an unset clock, a refusal of the fare unit, and the watch unit's actions at countdown 0 and 1. -/
theorem test_meets_DecidingStopsAtTheFirstRefusal :
    let s := tap .fetch (context .holding)
    let watch := fun (a : WatchAction) (n : Half) => ({ s with watch :=
      { Watch.afterReset with units := Watch.afterReset.units.setIfInBounds 7 (watchUnit 0 .fare 240 240), action := a, countdown := n } } : State)
    let reason := fun (u : State) => (u.deciding .paid).journal.records.map (·.fields.reason)
    (s.context .paid).image = some card ∧ (s.context .paid).blockPath = false ∧ (s.context .paid).contested = false
      ∧ (s.context .paid).notes = [] ∧ s.check.policies.concurrent = .refuse ∧ ((s.deciding .paid).context .paid).state = .staging
      ∧ ((s.deciding .paid).context .paid).staged = some ((Claims.rewritten s card 910).withFare
          { fare := 240, balanceAfter := 910, dayRecord := some (9000, 1000), entry := none
            journey := some { station := 407, day := 9000, minute := 312, fare := 240 }, entryStation := some 112 })
      ∧ reason (tap .fetch { context .holding with contested := true }) = [some .evidence]
      ∧ reason (tap .fetch { context .holding with notes := [.concurrent] }) = [some .evidence]
      ∧ ((claiming .flag).context .paid).flagged = [.concurrent] ∧ ((claiming .flag).context .paid).state = .staging
      ∧ ((claiming .refuseAndBlock).context .paid).blockPath = true
      ∧ ((claiming .refuseAndBlock).context .paid).staged.map (·.status) = some .blocked
      ∧ (claiming .refuseAndBlock).ring.queue = [.alert 5 0 number .concurrent 1]
      ∧ reason { s with service := { s.service with clock := { s.service.clock with isSet := false } } } = [some .noTime]
      ∧ reason (tap .fetch { context .holding with image := some { card with balance := 239 } }) = [some .insufficient]
      ∧ reason (withService .closed s) = [some .closed]
      ∧ reason (withService .closed (watch .report 0)) = [some .closed] ∧ reason (withService .closed (watch .detain 0)) = [some .watchDetain]
      ∧ ((withService .closed (watch .report 1)).deciding .paid).watch.countdown = 0
      ∧ ((withService .closed (watch .alarm 0)).deciding .paid).aisle.watchAlarm = some 10000
      ∧ reason (watch .detain 0) = [some .watchDetain] ∧ ((watch .detain 1).deciding .paid).watch.countdown = 0
      ∧ ((watch .detain 1).watch.units.toList.all fun u => decide (u.group.toNat ≤ 3)) = true
      ∧ ((watch .report 0).deciding .paid).watch.status.map (·.units) = some 128
      ∧ ((watch .alarm 0).deciding .paid).aisle.watchAlarm = some 10000 := by decide +kernel

def staging (c : Context) : State := tap (.stage written.toBytes 42) { c with staged := some written }

theorem test_staging_waits : Claims.waits (staging (context .staging)) .paid (fun x => ∃ i n, x = .stage i n) .staging :=
  ⟨rfl, rfl, ⟨_, rfl, _, _, rfl⟩, rfl⟩

theorem test_meets_ReadyCommitsAndStaleFails :
    let s := staging (context .staging)
    let other := fun (n : CardNumber) (st : TearState) => { tearEntry st with number := n }
    let with_ := fun (l : List TearEntry) => ({ s with tears := l } : State)
    let fifteen := (List.range 15).map fun i => other (BitVec.ofNat 64 i) (.torn 5 1)
    let claimed := staging { context .staging with notes := [.contest 8] }
    let block := { staging { context .staging with blockPath := true, refusing := some .replay } with tears := [tearEntry .pending] }
    let flagging : State := { claimed with check := { claimed.check with policies := { claimed.check.policies with concurrent := .flag } } }
    (s.context .paid).image = some card ∧ (s.context .paid).staged = some written ∧ (s.context .paid).notes = []
      ∧ (with_ fifteen).tears.length < 16 ∧ (after (.ready .paid) (with_ fifteen)).tears.length = 16
      ∧ ((after (.ready .paid) s).context .paid).state = .settling
      ∧ ((after (.ready .paid) (with_ [tearEntry .pending])).context .paid).state = .refusedShown
      ∧ (after (.ready .paid) (with_ [tearEntry (.torn 5 1)])).tears.map (·.state) = [.pending]
      ∧ ((with_ (fifteen ++ [other 99 (.torn 4 1)])).tears.map (·.number)).Nodup
      ∧ (with_ (fifteen ++ [other 99 (.torn 4 1)])).tears.length = 16
      ∧ (∃ x ∈ (with_ (fifteen ++ [other 99 (.torn 4 1)])).tears, x.state ≠ .pending)
      ∧ (block.context .paid).blockPath = true ∧ (∃ x ∈ block.tears, x.number = (block.context .paid).number)
      ∧ (after (.ready .paid) block).journal.records.map (fun r => (r.fields.reason, r.fields.evidence))
        = [(some .evidence, some .replay)]
      ∧ (claimed.context .paid).notes ≠ [] ∧ claimed.check.policies.concurrent ≠ .flag
      ∧ ((after (.ready .paid) claimed).context .paid).state = .refusedShown
      ∧ ((after (.ready .paid) flagging).context .paid).state = .settling
      ∧ ((after (.ready .paid) { flagging with tears := [tearEntry (.torn 5 1)] }).context .paid).flagged = [.concurrent]
      ∧ (after (.ready .paid) { flagging with tears := [tearEntry (.torn 5 1)] }).tears.map (·.state) = [.pending]
      ∧ (after (.ready .paid) { flagging with tears := [tearEntry .pending] }).journal.records.map (·.fields.evidence) = [some .concurrent]
      ∧ (after (.ready .paid) (with_ [tearEntry (.torn 5 1)])).service.flags.tear = false
      ∧ ((after (.stale .paid) s).journal.records.map (·.fields.reason)) = [some .writeFailed] := by decide +kernel

theorem test_settling_waits : Claims.waits (committed .settle .settling) .paid (· = .settle) .settling
    ∧ Claims.waits (committed .fetch .confirming) .paid (· = .fetch) .confirming :=
  ⟨⟨rfl, rfl, ⟨_, rfl, rfl⟩, rfl⟩, ⟨rfl, rfl, ⟨_, rfl, rfl⟩, rfl⟩⟩

/-- A committed exit settled and confirmed, not written, and torn; and a block write that is confirmed. -/
theorem test_meets_WritesAreConfirmedOrTorn :
    let s := committed .settle .settling
    let c := committed .fetch .confirming
    let block := tap .settle { context .settling with staged := some { card with counter := 42, status := .blocked }, blockPath := true, refusing := some .replay }
    let kinds := fun (i : Instr) (u : State) => (after i u).journal.records.map (·.kind)
    let committed_ := fun (k : Option EvidenceKind) (u : State) =>
      ({ u with contexts := { u.contexts with paid := { u.contexts.paid with late := k } } } : State)
    (s.context .paid).image = some card ∧ (s.context .paid).staged = some written ∧ (s.context .paid).late = none
      ∧ (s.face .paid).state = .serving ∧ (s.face .paid).offPending = false ∧ (s.sightings.map (·.number)).Nodup
      ∧ s.sightings = [entryOf (.own .paid)] ∧ (entryOf (.own .paid)).number = (s.context .paid).number
      ∧ (entryOf (.own .paid)).displaced = none ∧ (s.context .paid).ownHold = true ∧ (s.context .paid).holdsEntry = true
      ∧ (s.context .street).ownHold = false ∧ (s.context .paid).reservation = .held
      ∧ s.aisle.queues.get .exit = [] ++ { face := .paid, number := number, state := .reserved } :: []
      ∧ kinds (.settled .paid 42) s = [.transaction .exited] ∧ kinds (.settled .paid 41) s = [.transaction .refused]
      ∧ kinds (.settled .paid 42) block = [.transaction .blockedCard]
      ∧ kinds (.settled .paid 42) (committed_ (some .replay) s) = [.transaction .exited, .lateAlert]
      ∧ kinds (.cardImage .paid { card with counter := 43 }.toBytes) (committed_ (some .replay) c) = [.transaction .torn, .lateAlert]
      ∧ ((after (.settled .paid 42) (offPending s)).face .paid).state = .off
      ∧ (after (.settled .paid 42) (offPending s)).contexts.paid = Context.idle
      ∧ kinds (.cardImage .paid written.toBytes) c = [.transaction .exited]
      ∧ kinds (.cardImage .paid card.toBytes) c = [.transaction .refused]
      ∧ kinds (.cardImage .paid { card with counter := 43 }.toBytes) c = [.transaction .torn]
      ∧ kinds (.cardImage .paid { written with number := 1 }.toBytes) c = [.transaction .torn] := by decide +kernel

/-- A confirmed write with no entry, with a displaced hold that stands, one that has run out, and a hold the other face shares. -/
theorem test_meets_WritesAreConfirmed_holds :
    let s := fun (l : List SightingEntry) (street : Context) => ({ committed .settle .settling with
      sightings := l, contexts := { (committed .settle .settling).contexts with street := street } } : State)
    let own := fun (d : Option (Byte × Word)) => [{ (entryOf (.own .paid)) with displaced := d }]
    let left := fun (u : State) => (u.confirmWrite .paid).sightings.map fun e => (e.hold, e.displaced, e.sighting.isSome)
    let other := { context .reading with reservation := .noPlace }
    [left (s [] Context.idle), left (s (own (some (8, 5001))) Context.idle), left (s (own (some (8, 5000))) Context.idle),
        left (s (own (some (8, 5000))) other)]
      = [[(.noHold, none, true)], [(.peer 8 5001, none, true)], [(.noHold, none, true)], [(.own .street, some (8, 5000), true)]]
      ∧ other.ownHold = true ∧ other.holdsEntry = true ∧ other.number = number := by decide +kernel

def holdOf (e : SightingEntry) (x : Context) : State := { tap .fetch x with sightings := [e] }

def holds (u : State) : List (Hold × Option (Byte × Word)) := u.sightings.map fun e => (e.hold, e.displaced)

def displacing (since : Word) : SightingEntry := { (entryOf (.own .paid)) with displaced := some (8, since) }

def unheld : Context := { context .reading with ownHold := false, holdsEntry := false }

theorem test_meets_OwnHoldsAreTakenAndReleased :
    ((holdOf (entryOf .noHold) unheld).sightings.map (·.number)).Nodup ∧ unheld.state.committed = false ∧ unheld.number = number
      ∧ (base.now - 5001).toNat < 5000 ∧ 5000 ≤ (base.now - 5000).toNat
      ∧ (let met := fun (st : CtxState) =>
          let s := holdOf (entryOf (.own .street)) unheld
          ({ s with contexts := { s.contexts with street := context st } } : State).setOwnHold .paid
        ((met .reading).context .paid).contested = true
        ∧ [CtxState.reading, .settling, .confirming].map (fun st => (((met st).context .street).contested, ((met st).context .street).late))
          = [(true, none), (true, some .concurrent), (true, some .concurrent)])
      ∧ [(holdOf (entryOf .noHold) unheld).setOwnHold .paid, (holdOf (entryOf (.peer 8 5001)) unheld).setOwnHold .paid,
          (holdOf (displacing 5001) (context .reading)).releaseOwnHold .paid,
          (holdOf (displacing 5000) (context .reading)).releaseOwnHold .paid,
          ({ holdOf (displacing 5001) (context .reading) with
            contexts := { street := context .reading, paid := context .reading } } : State).releaseOwnHold .paid].map holds
        = [[(.own .paid, none)], [(.own .paid, some (8, 5001))], [(.peer 8 5001, none)], [(.noHold, none)],
          [(.own .street, some (8, 5001))]] := by decide +kernel

theorem test_meets_OwnHolds_full_table :
    let full : State := { tap .fetch unheld with sightings := (List.range 256).map fun i =>
      { (entryOf (.own .street)) with number := BitVec.ofNat 64 i } }
    let unheldAt3 : State := { full with sightings := full.sightings.set 3 { (entryOf .noHold) with number := 3 } }
    unheldAt3.sightings = full.sightings.take 3 ++ { (entryOf .noHold) with number := 3 } :: full.sightings.drop 4
      ∧ ((unheldAt3.setOwnHold .paid).sightings.drop 255).map (fun e => (e.number, e.hold)) = [(number, .own .paid)]
      ∧ ((holdOf (entryOf (.peer 8 5000)) unheld).setOwnHold .paid).sightings.map (fun e => (e.hold, e.displaced)) = [(.own .paid, none)]
      ∧ full.sightings.length = 256 ∧ (∀ e ∈ full.sightings, e.number ≠ number ∧ e.hold ≠ .noHold)
      ∧ ((full.setOwnHold .paid).context .paid).contested = true
      ∧ (({ tap .fetch unheld with sightings := [] } : State).setOwnHold .paid).sightings.length = 1 := by decide +kernel

/-! ### Witnesses: the gate ring and its deadlines -/

/-- Hop counts 62 and 63, before and after a gate is set; a CENSUS and a HOLD that come home. -/
theorem test_meets_RingMessagesComeHomeOrAreForwarded :
    let unset : State := { base with setup := Setup.afterReset }
    let sent := fun (s : State) (m : RingMessage) => (after m.command s).ring.queue
    unset.setup.place = none ∧ base.setup.place = some { station := 407, gate := 5 }
      ∧ sent unset (.census 8 62) = [.census 8 63] ∧ sent unset (.census 8 63) = []
      ∧ sent base (.census 8 62) = [.census 8 63] ∧ sent base (.census 8 63) = []
      ∧ Claims.route (.hold 8 62 number 41 uncontested) = (8, 62) ∧ sent base (.release 5 0 number (.dropped 0)) = []
      ∧ sent base (.alert 5 0 number .replay 1) = [] ∧ sent base (.hold 5 0 number 41 uncontested) = []
      ∧ sent unset (.alert 8 1 number .replay 7) = [.alert 8 2 number .replay 7]
      ∧ sent base (.release 8 1 number (.dropped 3)) = [.release 8 2 number (.dropped 3)]
      ∧ sent base (.hold 8 1 number 41 { mark := 0, gate := 9 }) = [.hold 8 2 number 41 { mark := 0, gate := 9 }]
      ∧ (base.context .street).state ≠ .holding ∧ (base.context .paid).state ≠ .holding
      ∧ (after (.census 5 63) { base with ring := Ring.afterReset }).ring.size = 64
      ∧ (after (.census 5 63) { base with ring := Ring.afterReset }).service.flags.ring = true := by decide +kernel

def peerEntry (o : Byte) : SightingEntry := entryOf (.peer o 5000)

theorem test_meets_RingArrivalsActOnTheTables_hold :
    let s := fun (e : SightingEntry) => ({ tap .fetch (context .reading) with sightings := [e] } : State)
    let hop : Byte := 62
    let go := fun (u : State) => after (.hold 8 hop number 41 uncontested) u
    let full : State := { base with sightings := (List.range 256).map fun i =>
      { (entryOf (.own .street)) with number := BitVec.ofNat 64 i } }
    (8 : Byte) ≠ 5 ∧ hop.toNat < 63 ∧ ((s (peerEntry 8)).sightings.map (·.number)).Nodup
      ∧ (go base).sightings.map (·.hold) = [.peer 8 10000] ∧ (go (s (peerEntry 8))).sightings.map (·.hold) = [.peer 8 10000]
      ∧ (go (s (peerEntry 9))).ring.queue = [.hold 8 63 number 41 (contestedAt 5)]
      ∧ (go (s (entryOf (.own .paid)))).sightings.map (·.contestNote) = [some 8]
      ∧ ((go (s (entryOf (.own .paid)))).context .paid).notes = [.contest 8]
      ∧ (go (s { (peerEntry 8) with sighting := some (seen 42 1 0) })).ring.queue = [.hold 8 63 number 41 (contestedAt 5)]
      ∧ (go (s { (peerEntry 8) with sighting := some (seen 41 1 0) })).ring.queue = [.hold 8 63 number 41 uncontested]
      ∧ full.sightings.length = 256 ∧ (go full).ring.queue = [.hold 8 63 number 41 (contestedAt 5)]
      ∧ ((go (committed .settle .settling)).context .paid).late = some .concurrent
      ∧ ((go { full with sightings := full.sightings.drop 1 }).sightings.map (·.number)).drop 255 = [number] := by decide +kernel

theorem test_meets_RingArrivalsActOnTheTables_release :
    let s := fun (e : SightingEntry) => ({ tap .fetch (context .reading) with sightings := [e] } : State)
    let committed_ := fun (c : Half) => ReleaseBody.committed c 7 112 9000 300 0
    let go := fun (b : ReleaseBody) (u : State) => after (.release 8 62 number b) u
    (peerEntry 8).number = number ∧ (go (.dropped 9) (s (peerEntry 8))).sightings.map (·.hold) = [.noHold]
      ∧ (go (.uncertain 0) (s (peerEntry 9))).sightings.map (·.hold) = [.peer 9 5000]
      ∧ (go (committed_ 42) (s { (entryOf (.own .paid)) with sighting := some (seen 41 1 0) })).sightings.map (fun e => e.sighting.map (·.source))
          = [some .peer]
      ∧ (go (committed_ 41) (s { (entryOf (.own .paid)) with sighting := some (seen 41 1 0) })).sightings.map (fun e => e.sighting.map (·.chain))
          = [some 1]
      ∧ ((go (committed_ 42) (s (entryOf (.own .paid)))).context .paid).notes = [.concurrent]
      ∧ ((go (committed_ 43) (committed .settle .settling)).context .paid).late = some .concurrent := by decide +kernel

/-- A RELEASE whose card has no entry: DROPPED and UNCERTAIN make none; COMMITTED makes one, gives up the first unheld entry of a full
table, and makes none where every entry is held. -/
theorem test_meets_RingArrivalsActOnTheTables_release_without_entry :
    let go := fun (b : ReleaseBody) (u : State) => (after (.release 8 62 number b) u).sightings.map (·.number)
    let write := ReleaseBody.committed 42 7 112 9000 300 1
    let full := fun (h : Hold) => ({ base with sightings := (List.range 256).map fun i =>
      { (entryOf (if i = 3 then h else .own .street)) with number := BitVec.ofNat 64 i } } : State)
    (∀ e ∈ (full .noHold).sightings, e.number ≠ number) ∧ go (.dropped 0) base = [] ∧ go (.uncertain 0) base = []
      ∧ go write base = [number] ∧ (after (.release 8 62 number write) base).sightings.map (fun e => e.sighting.map (·.direction))
          = [some .exit]
      ∧ (go write (full .noHold)).drop 255 = [number] ∧ 3 ∉ go write (full .noHold)
      ∧ go write (full (.peer 8 10000)) = (full (.peer 8 10000)).sightings.map (·.number) := by decide +kernel

theorem test_meets_RingArrivalsActOnTheTables_alert :
    let go := fun (block : Byte) (u : State) => after (.alert 8 62 number .replay block) u
    let late := committed .settle .settling
    (go 1 base).hotlist.localOrder = [number] ∧ (go 1 base).service.flags.clone = true
      ∧ (go 0 base).hotlist = base.hotlist ∧ (go 0 base).service.flags.clone = false
      ∧ ((go 0 late).context .paid).late = some .replay ∧ ((go 0 (tap .fetch (context .reading))).context .paid).late = none
      ∧ (∀ e ∈ fullList.entries, e.number ≠ 8000) ∧ fullList.localOrder = [] ++ 9000 :: [] ∧ fullList.localOrder.Nodup
      ∧ (∃ e ∈ fullList.entries, e.number = 9000 ∧ e.ownBlock = false)
      ∧ (∃ e ∈ listed.hotlist.entries, e.number = 5) ∧ (listed.hotlist.localAdd 3 true) = listed.hotlist
      ∧ (listed.hotlist.localAdd 5 true).entries.map (·.ownBlock) = [false, true] ∧ listed.hotlist.localAdd 5 false = listed.hotlist := by
  decide +kernel

/-- A HOLD's return, plain and contested, and its ring timeout at 40 ms and at 39 ms. -/
theorem test_meets_HoldReturnOrTimeoutEndsTheWait :
    let s := fun (start : Word) => ({ tap .fetch { context .holding with holdSent := true, ringTimer := some (start, 40) } with
      ring := { base.ring with holdOrder := [.street, .paid] }
      faces := { base.faces with paid := { face .serving with pollStart := none } } } : State)
    (s 9960).ring.holdOrder = [.street] ++ .paid :: [] ∧ ((s 9960).context .street).state ≠ .holding
      ∧ ((s 9960).context .paid).state = .holding ∧ ((s 9960).context .paid).holdSent = true
      ∧ ((s 9960).context .paid).number = number ∧ ((s 9960).context .paid).ringTimer = some (9960, 40)
      ∧ 40 ≤ ((s 9960).now - 9960).toNat ∧ ((after (.ringTimeout .paid) (s 9960)).context .paid).state = .staging
      ∧ (after (.ringTimeout .paid) (s 9960)).ring.state = .isolated ∧ ((after (.ringTimeout .paid) (s 9961)).context .paid).state = .holding
      ∧ ((after (.hold 5 3 number 41 uncontested) (s 9960)).context .paid).state = .staging
      ∧ ((after (.hold 5 3 number 41 (contestedAt 8)) (s 9960)).context .paid).state = .refusedShown := by decide +kernel

theorem test_meets_RingAndTearDeadlinesExpire :
    let isolated := fun (t : Word) => ({ base with ring := { base.ring with state := .isolated, censusStart := some t } } : State)
    let peer := fun (t : Word) => ({ base with sightings := [{ (entryOf (.peer 8 t)) with displaced := some (8, t) }] } : State)
    let torn := fun (t : Word) => ({ base with now := 130000, tears := [tearEntry (.torn t 9)] } : State)
    (after .censusDue (isolated 8000)).ring.queue = [.census 5 0] ∧ (after .censusDue (isolated 8001)).ring.queue = []
      ∧ ((peer 5000).sightings.map (·.number)).Nodup
      ∧ ((after (.peerHoldExpiry number) (peer 5000)).sightings.map (·.hold)) = [.noHold]
      ∧ (after (.peerHoldExpiry number) (peer 5001)).sightings = (peer 5001).sightings
      ∧ ((after (.displacedHoldExpiry number) (peer 5000)).sightings.map (·.displaced)) = [none]
      ∧ ((torn 10000).tears.map (·.number)).Nodup ∧ (torn 10000).setup.tearWindow * 1000 ≤ ((torn 10000).now - 10000).toNat
      ∧ (after (.tearWindowExpiry number) (torn 10000)).tears = []
      ∧ (after (.tearWindowExpiry number) (torn 10001)).tears = (torn 10001).tears
      ∧ (after (.tearWindowExpiry number) { base with tears := [tearEntry .pending] }).tears = [tearEntry .pending] := by
  decide +kernel

/-! ### Witnesses: the aisle -/

/-- A run begins from each end; 29 ms accept nothing; a closing leaf reopens. -/
theorem test_meets_RunsAreFollowedAndClassified_begin :
    let begun := fun (b : Beam) => (after (.beamDebounceExpiry b) (beams [] b base)).aisle.run.map (·.direction)
    let closing := withLeaf .closing (beams [] .beam1 base)
    (beams [] .beam1 base).power = .running ∧ ((beams [] .beam1 base).aisle.beams.get .beam1).pendingSince = some 9970
      ∧ (base.now - 9970).toNat = 30 ∧ (beams [] .beam1 base).aisle.clear = true
      ∧ [Beam.beam1, .beam2, .beam3, .beam4].map begun = [some .entry, some .unknown, some .unknown, some .exit]
      ∧ (after (.beamDebounceExpiry .beam1) { beams [] .beam1 base with now := 9999 }).aisle.run = none
      ∧ (after (.beamDebounceExpiry .beam1) closing).aisle.leaf = .opening := by decide +kernel

/-- The first crossing of an exit run by a granted passenger, one with no grant, one under the opposite lock, a tailgater (7.9), a
beam that is no crossing, an UNKNOWN run, and a crossing in EMERGENCY. -/
theorem test_meets_RunsAreFollowedAndClassified_cross :
    let s := fun (r : Run) (q : List QueueEntry) (l : Lock) =>
      ({ withRun (some r) (withExit q (beams [.beam3] .beam2 base)) with
        aisle := { (withRun (some r) (withExit q (beams [.beam3] .beam2 base))).aisle with lock := l } } : State)
    let kinds := fun (u : State) => (after (.beamDebounceExpiry .beam2) u).journal.records.map fun r => (r.kind, r.fields.reference)
    let second := { run .exit with crossings := 1, lastConsumed := some 6001 }
    (s (run .exit) [] .exit).power = .running ∧ ((s (run .exit) [] .exit).aisle.beams.get .beam2).pendingSince = some 9970
      ∧ ((s (run .exit) [] .exit).aisle.beams.get .beam2).blocked = false ∧ (s (run .exit) [] .exit).aisle.clear = false
      ∧ (s (run .exit) [] .exit).aisle.run = some (run .exit)
      ∧ kinds (s (run .exit) [granted 7 false] .exit) = [(.passage .used, some 7)]
      ∧ kinds (s (run .exit) [] .exit) = [(.passage .intrusion, none)]
      ∧ kinds (s (run .exit) [] .entry) = [(.passage .contraflow, none)]
      ∧ kinds (s second [] .exit) = [(.passage .tailgate, some 6001)]
      ∧ kinds (s { second with cleared3 := false } [] .exit) = []
      ∧ kinds (s (run .unknown) [granted 7 false] .exit) = [(.passage .intrusion, none)]
      ∧ kinds (withService .emergency (s (run .exit) [granted 7 false] .exit)) = [] := by decide +kernel

theorem test_crosses_at_the_second_beam :
    Claims.crosses (Claims.obstructed (beams [.beam3] .beam2 base) .beam2 9970) (run .exit) .beam2 :=
  .inr (.inl ⟨rfl, .inl ⟨rfl, ⟨by decide, rfl⟩, .inl rfl⟩⟩)

theorem test_same_body_does_not_cross :
    ¬ Claims.crosses (Claims.obstructed (beams [.beam3] .beam2 base) .beam2 9970)
        { run .exit with crossings := 1, cleared3 := false } .beam2 := by
  simp [Claims.crosses, run]

theorem test_accepted_at_30_ms : Claims.accepted (beams [.beam3] .beam2 base) .beam2 9970 := by
  unfold Claims.accepted
  decide +kernel

/-- A run's end, with a deferred grant, with an alarm and without a crossing; a beam that leaves another blocked; a stuck beam. -/
theorem test_meets_RunsAreFollowedAndClassified_end :
    let s := fun (set : List Beam) (r : Run) (q : List QueueEntry) => withRun (some r) (withExit q (beams set .beam2 base))
    let ended := fun (set : List Beam) (r : Run) (q : List QueueEntry) => after (.beamDebounceExpiry .beam2) (s set r q)
    ((s [.beam2] (run .exit) []).aisle.beams.get .beam2).blocked = true
      ∧ ((s [.beam2] (run .exit) []).aisle.beams.get .beam2).stuck = false
      ∧ (ended [.beam2] (run .exit) [granted 7 true, granted 8 false]).aisle.queues.exit = [granted 8 false]
      ∧ (ended [.beam2] (run .exit) [granted 7 true]).journal.records.map (·.kind) = [.passage .expired]
      ∧ (ended [.beam2] (run .exit) []).aisle.counters.exit.withdrawn = 1
      ∧ (ended [.beam2] { run .exit with alarmed := true, crossings := 1 } []).aisle.passageAlarm = .since 9970
      ∧ (ended [.beam2, .beam4] (run .exit) []).aisle.run = some (run .exit)
      ∧ (ended [.beam2] (run .unknown) [granted 7 true]).aisle.queues.exit = [granted 7 true] := by decide +kernel

theorem test_meets_InputsAreDebouncedAndBeamsStick :
    let s := fun (t : Word) => ({ beams [.beam2] .beam1 base with now := t } : State)
    ((s 60000).aisle.beams.get .beam2).blocked = true ∧ ((s 60000).aisle.beams.get .beam2).stuck = false
      ∧ 60000 ≤ ((s 60000).now - ((s 60000).aisle.beams.get .beam2).blockedSince).toNat ∧ (s 60000).service.faultSlot = none
      ∧ ((after (.beamStuck .beam2) (s 60000)).aisle.beams.get .beam2).stuck = true
      ∧ ((after (.beamStuck .beam2) (s 59999)).aisle.beams.get .beam2).stuck = false
      ∧ (s 60000).aisle.run = none ∧ (withRun (some (run .exit)) (s 60000)).aisle.run = some (run .exit)
      ∧ (after (.beamStuck .beam2) (withRun (some (run .exit)) (s 60000))).aisle.counters.exit.withdrawn = 1
      ∧ (after (.beamStuck .beam2) (withLeaf .opened (withRun (some (run .exit)) (s 60000)))).aisle.closeStart = some 60000
      ∧ (after (.beamStuck .beam2) (withService .lockdown (withRun (some (run .exit)) (s 60000)))).service.flags.lockdown = true
      ∧ (after (.beamStuck .beam2) { withRun (some (run .exit)) (beams [.beam2, .beam3] .beam1 base) with now := 60000 }).aisle.run
        = some { run .exit with cleared2 := true }
      ∧ ((after (.beamInputChange .beam1 true) base).aisle.beams.get .beam1).pendingSince = some 10000
      ∧ ((after (.beamInputChange .beam1 true) { base with power := .off }).aisle.beams.get .beam1).pendingSince = none := by
  decide +kernel

/-- Each leaf state that a limit, the travel timer or the close delay moves, at its deadline and 1 ms before it. -/
theorem test_meets_LimitsAndTimersMoveTheLeaf :
    let s := fun (l : LeafState) (o c : LineInput) (t : Word) => ({ base with
      aisle := { base.aisle with leaf := l, openLimit := o, closedLimit := c, travelStart := some t, closeStart := some t } } : State)
    let rest : LineInput := { level := false, accepted := false, pendingSince := none }
    let rising := fun (t : Word) => ({ level := true, accepted := false, pendingSince := some t } : LineInput)
    let falling : LineInput := { level := false, accepted := true, pendingSince := some 9970 }
    let leaf := fun (i : Instr) (u : State) => (after i u).aisle.leaf
    base.power = .running ∧ leaf (.limitDebounceExpiry .openLimit) (s .opening (rising 9970) rest 0) = .opened
      ∧ leaf (.limitDebounceExpiry .openLimit) (s .opening (rising 9971) rest 0) = .opening
      ∧ leaf (.limitDebounceExpiry .openLimit) (s .jammed (rising 9970) rest 0) = .opened
      ∧ (after (.limitDebounceExpiry .openLimit) (s .opened falling rest 0)).aisle.openLimit.accepted = false
      ∧ leaf (.limitDebounceExpiry .closedLimit) (s .closing rest (rising 9970) 0) = .closed
      ∧ leaf (.limitDebounceExpiry .closedLimit) (withExit [granted 7 false] (s .closing rest (rising 9970) 0)) = .opening
      ∧ (after (.limitDebounceExpiry .closedLimit) (s .closed rest falling 0)).service.flags.fault = true
      ∧ (after (.limitDebounceExpiry .closedLimit) (s .opened rest falling 0)).service.flags.fault = false
      ∧ leaf .travelTimeout (s .opening rest rest 8500) = .jammed ∧ leaf .travelTimeout (s .opening rest rest 8501) = .opening
      ∧ leaf .closeDelayExpiry (s .opened rest rest 9200) = .closing ∧ leaf .closeDelayExpiry (s .opened rest rest 9201) = .opened
      ∧ leaf .closeDelayExpiry (s .opened rest { rest with accepted := true } 9200) = .closed := by decide +kernel

theorem test_meets_GrantsAlarmsAndTonesEnd :
    let q := [{ (granted 6 false) with state := .reserved }, granted 7 false]
    let s := withExit q base
    let going := withRun (some (run .exit)) s
    let alarm := fun (t : Word) => ({ base with aisle := { base.aisle with
      passageAlarm := .since t, watchAlarm := some t, tones := { street := some (.accept, t), paid := some (.refuse, t) } } } : State)
    s.aisle.queues.get .exit = [{ (granted 6 false) with state := .reserved }] ++ granted 7 false :: []
      ∧ (granted 7 false).state = .granted 7 0 10000 false ∧ 10000 ≤ (s.now - 0).toNat
      ∧ ({ (granted 6 false) with state := .reserved } : QueueEntry).sequence ≠ some 7
      ∧ (after (.grantExpiry .exit 7) s).aisle.queues.exit.length = 1
      ∧ (after (.grantExpiry .exit 7) (withLeaf .opened s)).aisle.closeStart = some 10000
      ∧ (after (.grantExpiry .exit 9) s).aisle = s.aisle ∧ (after (.grantExpiry .entry 7) s).aisle = s.aisle
      ∧ (after (.grantExpiry .exit 7) (withExit [granted 7 true] base)).aisle.queues.exit = [granted 7 true]
      ∧ (after (.grantExpiry .exit 7) going).aisle.queues.exit = [{ (granted 6 false) with state := .reserved }, granted 7 true]
      ∧ (after (.grantExpiry .exit 7) { s with now := 9999 }).aisle.queues.exit = q
      ∧ (after .passageAlarmEnd (alarm 7000)).aisle.passageAlarm = .silent
      ∧ (after .passageAlarmEnd (alarm 7001)).aisle.passageAlarm = .since 7001
      ∧ (after .watchAlarmEnd (alarm 7000)).aisle.watchAlarm = none ∧ (after .watchAlarmEnd (alarm 7001)).aisle.watchAlarm = some 7001
      ∧ (after (.shortToneEnd .street) (alarm 9880)).aisle.tones.street = none
      ∧ (after (.shortToneEnd .street) (alarm 9881)).aisle.tones.street = some (.accept, 9881)
      ∧ (after (.shortToneEnd .paid) (alarm 9640)).aisle.tones.paid = none
      ∧ (after (.shortToneEnd .paid) (alarm 9641)).aisle.tones.paid = some (.refuse, 9641) := by decide +kernel

theorem test_meets_FaultsAndTheEmergencyInputStopService :
    let s := fun (accepted : Bool) (t : Word) => ({ base with service := { base.service with
      emergency := { level := !accepted, accepted := accepted, pendingSince := some t } } } : State)
    let faulty := base.raiseFault .leafTimeout
    (after .emergencyDebounceExpiry (s true 9970)).service.emergency.accepted = false
      ∧ (after .emergencyDebounceExpiry (s false 9971)).service.emergency.accepted = false
      ∧ 30 ≤ ((s false 9970).now - 9970).toNat ∧ (s false 9970).service.state ≠ .emergency ∧ (s false 9970).service.state ≠ .starting
      ∧ (after .emergencyDebounceExpiry (withService .starting (s false 9970))).service.emergency.accepted = true
      ∧ base.service.faultSlot = none ∧ faulty.service.faultSlot ≠ none ∧ faulty.service.state ≠ .lockdown
      ∧ faulty.service.flags.fault = true
      ∧ ((withService .lockdown faulty).raiseFault .leafForced).service.flags.lockdown = true
      ∧ ((withService .starting faulty).raiseFault .leafForced).service = (withService .starting faulty).service := by
  decide +kernel

/-- EMERGENCY with a grant in each queue and a tap in READING: its records in their order, whichever free order is taken. -/
theorem test_meets_EmergencyCancelsGrants :
    let s : State := { tap .fetch (context .reading) with
      aisle := { base.aisle with queues := { entry := [{ (granted 5 false) with face := .street }], exit := [granted 7 true] } } }
    (s.enterFree .emergency).journal.records.map (fun r => (r.sequence, r.kind, r.face, r.fields.reference))
      = [(1, .passage .cancelled, .street, some 5), (2, .passage .cancelled, .paid, some 7), (3, .transaction .refused, .paid, none)] := by
  dsimp only
  unfold State.enterFree
  dsimp only
  split <;> decide +kernel

/-- What EMERGENCY and LOCKDOWN make of a context in each of its states. -/
theorem test_meets_ContextsActByTheirState :
    let s := fun (st : CtxState) => tap .fetch (context st)
    let state := fun (r : Reason) (st : CtxState) =>
      let u := (s st).abortContext .paid r
      ((u.context .paid).state, u.journal.records.map (·.fields.reason))
    [CtxState.idle, .naming, .reading, .proving, .holding, .staging, .settling, .confirming, .removalWait, .refusedShown].map
        (state .emergency)
      = [(.idle, []), (.refusedShown, []), (.refusedShown, [some .emergency]), (.refusedShown, [some .emergency]),
          (.refusedShown, [some .emergency]), (.refusedShown, [some .emergency]), (.settling, []), (.confirming, []),
          (.removalWait, []), (.refusedShown, [])]
      ∧ (((s .settling).abortContext .paid .emergency).context .paid).reservation = .removed
      ∧ ((s .settling).abortContext .paid .emergency).aisle.queues.exit = []
      ∧ ((s .settling).abortContext .paid .emergency).aisle.lock = .unlocked
      ∧ (state .outOfService .reading).2 = [some .outOfService] ∧ (s .naming).faces.paid.state = .serving := by decide +kernel

theorem test_meets_MinutesAndRolloversAdvanceTheClock :
    let s := fun (day minute : Half) (ms : Nat) => ({ base with
      fare := { base.fare with released := [(112, 9000), (112, 9001)] }
      service := { base.service with clock := { base.service.clock with day := day, minute := minute, ms := ms } } } : State)
    let clock := fun (u : State) => let k := (after .minuteTick u).service.clock
      (k.isSet, k.day, k.minute, k.ms)
    clock (s 9000 1438 59999) = (true, 9000, 1438, 59999) ∧ clock (s 9000 1438 60000) = (true, 9000, 1439, 0)
      ∧ clock (s 9000 1439 60000) = (true, 9001, 0, 0) ∧ clock (s 65535 1439 60000) = (false, 0, 0, 0)
      ∧ (after .minuteTick (s 9000 1439 60000)).fare.released.length = 2
      ∧ (after .minuteTick (s 9001 1439 60000)).fare.released = [(112, 9001)] := by decide +kernel

/-! ### Witnesses: fares and the invariants -/

/-- The stages of the exit fare the example takes; a pass; a station of no zone; the entry tests at their bounds. -/
theorem test_meets_FaresFollowTheirStages :
    let u := exampleFares
    let k := clockAt 312
    let pass : Pass := { zoneLow := 3, zoneHigh := 7, lastDay := 9000 }
    let enter := fun (c : CardImage) => match entryFare u (clockAt 600) c with
      | .ok x => some (x.fare.toNat, x.balanceAfter.toInt, (x.entry.map (·.transferMark)).getD false)
      | .error _ => none
    let journey : Journey := { station := 407, day := 9000, minute := 580, fare := 190 }
    let bought := { card with entry := some { station := 112, gate := 2, day := 9000, minute := 585, transferMark := false }, history := [journey] }
    [{ card with entry := none }, { card with pass := some pass }, { card with pass := some { pass with lastDay := 8999 } }].map
        (fareOf · k) = [some (400, 750, none), some (0, 1150, none), some (240, 910, some (9000, 1000))]
      ∧ u.stations[112].loaded = true ∧ u.stations[407].loaded = true ∧ u.band 112 407 = 4 ∧ u.stations[5].loaded = false ∧ u.band 5 407 = 15
      ∧ [bought, { bought with balance := 600 }, { bought with balance := 599 },
          { bought with balance := 599, pass := some pass }, { bought with balance := 399, pass := some pass }].map enter
        = [some (400, 750, true), some (400, 200, true), none, some (400, 199, true), none] := by decide +kernel

theorem test_meets_ChargesKeepFloorAndCap :
    -99999 ≤ card.balance.toInt ∧ card.balance.toInt ≤ 999999
      ∧ (match fareRequest exampleFares (clockAt 312) .paid card with
        | .ok x => decide (x.fare = 240)
        | .error _ => false) = true := by decide +kernel

/-- The committed exit with a reply on the link: a state that meets every invariant and is not the reset state. -/
def inFlight : State := { committed .settle .settling with pending := [.settled .paid 42] }

theorem test_meets_JournalIsNeverOverfilled : inFlight.JournalSafe := by
  refine ⟨?_, ⟨?_, ?_⟩, ⟨?_, ?_, ?_⟩, ⟨?_, ?_, ?_⟩⟩
  · unfold State.Margin; decide +kernel
  · decide +kernel
  · decide +kernel
  · decide +kernel
  · decide +kernel
  · intro e h; cases h
  · decide +kernel
  · decide +kernel
  · intro e h; cases h; rfl

theorem test_meets_TablesStayInTheirBounds : Claims.TablesBounded { inFlight with hotlist := listed.hotlist } := by
  refine ⟨?_, ?_, ⟨?_, ?_⟩, ?_, ?_⟩
  · unfold State.SightingsBounded; decide +kernel
  · unfold State.HotlistOrdered; decide +kernel
  · decide +kernel
  · intro n
    have h : ({ inFlight with hotlist := listed.hotlist } : State).hotlist = listed.hotlist := rfl
    rw [h]
    simp [listed, hotEntry, eq_comm]
  · unfold State.RingQueueBounded; decide +kernel
  · unfold State.ReleasedBounded; decide +kernel

theorem test_meets_AisleAndServiceStayInAgreement : Claims.AisleFits inFlight := by
  refine ⟨?_, ?_, ?_, ?_, ?_, ?_⟩
  · unfold State.QueuesBounded; decide +kernel
  · intro _ d h; cases d <;> first | rfl | exact absurd rfl h
  · unfold State.LockFitsMode; decide +kernel
  · unfold State.LeafFitsService; decide +kernel
  · unfold State.ClosingClear; decide +kernel
  · unfold State.LockdownHoldsFault; decide +kernel

theorem test_meets_ValuesStayInTheirRanges : Claims.ValuesInRange inFlight := by
  unfold Claims.ValuesInRange State.SequencesNonzero State.OverrunBounded State.MissesBounded State.ClockInDay State.UnsetClockZero
    State.FixedPolicies
  decide +kernel

theorem test_in_flight_steps : step inFlight = .next (after (.settled .paid 42) { inFlight with pending := [] }) := rfl

/-! ### Witnesses: bytes and the whole part -/

theorem test_meets_FramesAreReadAsTheirCommands : (List.replicate 1024 (0 : Byte)).length ≤ 1024
    ∧ (32 < (0x21 : Byte).toNat ∧ requestCommand 0x21 [] = .unknownRequest 0x21) ∧ requestCommand 0 [] = .unknownRequest 0 := by
  decide +kernel

/-- A frame with one bit of its kind turned, lengths 0 and 1 026, a failed stop bit, a late byte that starts a frame, and noise. -/
theorem test_meets_DamagedFramesAreFound :
    let good := frameBytes 0x1E []
    let read := fun (l : List LineByte) => linkCommands .hunting l
    let start := LineByte.plain 0xA5
    (0 : Half) ≠ crc16 [0, 1, 0x1E] ∧ Claims.unfinished [] ∧ Claims.unfinished [0, 1, 0x1E, 0] ∧ ¬ Claims.unfinished [0, 1, 0x1E, 0, 0]
      ∧ ((good.set 3 0x1F).map LineByte.plain).length = 6
      ∧ read ((good.set 3 0x1F).map .plain) = [.frameStart, .checkMismatch 0x1F]
      ∧ read ([0xA5, 0, 0].map .plain) = [.frameStart, .framingError]
      ∧ read ([0xA5, 4, 2].map .plain) = [.frameStart, .framingError] ∧ read ([0xA5, 4, 1].map .plain) = [.frameStart]
      ∧ read [start, { start with stopGood := false }, start] = [.frameStart, .framingError, .frameStart]
      ∧ read [start, { start with late := true }] = [.frameStart, .frameGapTimeout, .frameStart]
      ∧ read [{ start with stopGood := false }, .plain 0x5A] = [] := by
  unfold Claims.unfinished
  decide +kernel

/-- A CENSUS with a turned bit, an unknown kind, and a RELEASE and an ALERT with a byte that has no code, each before a good message. -/
theorem test_meets_BadRingMessagesAreFound :
    let census := ringBytes (.census 5 0)
    let sent := fun (body : List Byte) => 0x5A :: body ++ halfBytes (crc16 body)
    let release : List Byte := [1, 5, 0] ++ longBytes 9 ++ [3] ++ List.replicate 13 0
    let alert : List Byte := [2, 5, 0] ++ longBytes 9 ++ [7, 0]
    release.length = 25 ∧ byteAt release 11 = 3 ∧ alert.length = 13 ∧ byteAt alert 11 = 7 ∧ (0 : Half) ≠ crc16 [3, 5, 0]
      ∧ ringCommands (census.set 2 7 ++ census) = [.badRingMessage, .census 5 0]
      ∧ ringCommands ([0x5A, 4] ++ census) = [.badRingMessage, .census 5 0]
      ∧ ringCommands (sent release ++ census) = [.badRingMessage, .census 5 0]
      ∧ ringCommands (sent alert ++ census) = [.badRingMessage, .census 5 0] := by decide +kernel

theorem test_meets_CardImagesAreReadAsStaged :
    let j : Journey := { station := 407, day := 9000, minute := 1439, fare := 65535 }
    ({ card with history := [j, j, j] } : CardImage).history.length ≤ 3
      ∧ CardImage.ofBytes ({ card with history := [j, j, j] } : CardImage).toBytes = some { card with history := [j, j, j] }
      ∧ imageNumber card.toBytes = number ∧ imageCounter card.toBytes = 41 ∧ imageChain card.toBytes = 1000 := by
  decide +kernel

/-- A command that changes the service state, and one that begins a STAGE. -/
theorem test_meets_ServiceStateChangesOnlyAsListed :
    exec (.setService [2]) base = .next (after (.setService [2]) base)
      ∧ (after (.setService [2]) base).service.state ≠ base.service.state := ⟨rfl, by decide +kernel⟩

def jamming : State :=
  let s := base.raiseFault .leafTimeout
  { s with aisle := { s.aisle with leaf := .opening, travelStart := some 8500 } }

/-- The travel timer's fault, with the slot full, locks the part down, whichever free order the aborts take. -/
theorem test_meets_ServiceStateChanges_lockdown :
    jamming.service.faultSlot ≠ none ∧ jamming.service.state = .inService ∧ (jamming.aisle.leaf = .opening)
      ∧ exec .travelTimeout jamming = .next (after .travelTimeout jamming)
      ∧ (after .travelTimeout jamming).service.state = .lockdown := by
  refine ⟨by decide +kernel, by decide +kernel, rfl, rfl, ?_⟩
  show ((jamming.setAisle jamming.aisle.jam).lockDown _).service.state = _
  unfold State.lockDown State.enterFree
  dsimp only
  split <;> decide +kernel

def held : State := { tap .fetch { context .holding with holdSent := true } with
  ring := { base.ring with holdOrder := [.paid] }
  faces := { base.faces with paid := { face .serving with pollStart := none } } }

theorem test_meets_StagesBeginOnlyInService :
    exec (.hold 5 3 number 41 uncontested) held = .next (after (.hold 5 3 number 41 uncontested) held)
      ∧ ((after (.hold 5 3 number 41 uncontested) held).face .paid).exchange
        = some { command := .stage ((Claims.rewritten held card 910).withFare
            { fare := 240, balanceAfter := 910, dayRecord := some (9000, 1000), entry := none
              journey := some { station := 407, day := 9000, minute := 312, fare := 240 }, entryStation := some 112 }).toBytes 42
                 sentAt := 10000, resent := false }
      ∧ (held.face .paid).exchange = none := ⟨rfl, by decide +kernel, rfl⟩

theorem test_meets_RecordsLeaveOnlyWhenFreedOrLost :
    exec (.powerOn true) inFlight = .next (after (.powerOn true) inFlight) ∧ inFlight.storeKept = true := ⟨rfl, rfl⟩

end Sys2Proof.Tests
end

section
/-! SUPPORT. The proof answer (R20, R31): the card reply that ends an open exchange, the comparison with h4, and where each of its two
outcomes leads: the HOLD or its bypass (R33), the STAGE point on the block path (R46), evidence FORGED (R28). -/

namespace Sys2Proof.Machine

/-! ### A card reply that its open exchange expects (R8, R10) -/

theorem whenRunning_of_running {s : State} (act : State → State) (hp : s.power = .running) :
    whenRunning s act = .next (act s) := by
  simp [whenRunning, hp]

theorem State.responded_of_serving {s : State} {f : Face} (hs : (s.face f).state = .serving) :
    s.responded f = s.setFace f (s.face f).responded := by
  simp [State.responded, hs]

theorem State.closeExchange_responded_of_serving {s : State} {f : Face} (hs : (s.face f).state = .serving) :
    (s.responded f).closeExchange f = Claims.heard s f := by
  simp [State.responded_of_serving hs, State.closeExchange, State.setFace, State.face, FaceUnit.responded, Claims.heard]

theorem State.exchanged_responded_of_serving {s : State} {f : Face} (hs : (s.face f).state = .serving) :
    (s.responded f).exchanged f = s.exchanged f := by
  simp [State.responded_of_serving hs, State.exchanged, FaceUnit.responded]

theorem State.cardReply_of_expected {s : State} {f : Face} {e : Exchange} {expected : CardCommand → Bool} (act : State → State)
    (hs : (s.face f).state = .serving) (he : (s.face f).exchange = some e) (hx : expected e.command = true) :
    s.cardReply f expected act = act (Claims.heard s f) := by
  have hopen : (s.responded f).exchanged f = some e.command := by
    rw [State.exchanged_responded_of_serving hs, State.exchanged, he, Option.map_some]
  simp [State.cardReply, hopen, hx, State.closeExchange_responded_of_serving hs]

/-- What a reply finds beside its face is what stood there before it. -/
@[simp] theorem Claims.heard_context (s : State) (f g : Face) : (Claims.heard s f).context g = s.context g := rfl

@[simp] theorem Claims.heard_service (s : State) (f : Face) : (Claims.heard s f).service = s.service := rfl

/-! ### The comparison (R20, R31) -/

/-- The expected proof of a context that has its name, image, key and challenge. -/
theorem Context.expectedProof_eq {c : Context} {a : NameAnswer} {img : CardImage} {k v : Word} (hname : c.name = some a)
    (himg : c.image = some img) (hkey : c.key = some k) (hch : c.challenge = some v) :
    c.expectedProof = Machine.expectedProof k a.number v img.counter := by
  simp [Context.expectedProof, Context.number, Context.fetchedCounter, hname, himg, hkey, hch]

theorem exec_proofAnswer_of_waits {s : State} {f : Face} {v : Word} (proof : Word)
    (hw : Claims.waits s f (· = .prove v) .proving) :
    exec (.proofAnswer f proof) s = .next
      (if proof = (s.context f).expectedProof then (Claims.heard s f).proofMatched f else (Claims.heard s f).proofFailed f) := by
  obtain ⟨hp, hs, ⟨e, he, hcmd⟩, -⟩ := hw
  change execProofAnswer f proof s = _
  rw [execProofAnswer, whenRunning_of_running _ hp, State.cardReply_of_expected _ hs he (by rw [hcmd]), Claims.heard_context]

/-! ### The STAGE point of the block path (R37, R46) -/

theorem State.stagePoint_of_inService {s : State} (f : Face) (w : CardImage) (hin : s.service.state = .inService) :
    s.stagePoint f w = Claims.staged s f (s.context f) w := by
  rw [State.stagePoint, if_pos hin]
  rfl

/-- Out of IN_SERVICE the STAGE point refuses, on the block path for its EVIDENCE. -/
theorem State.stagePoint_of_blockPath_of_not_inService {s : State} {f : Face} (w : CardImage)
    (hb : (s.context f).blockPath = true) (hout : s.service.state ≠ .inService) :
    s.stagePoint f w = s.endRefused f .evidence := by
  simp [State.stagePoint, hout, State.endFailed, hb]

theorem State.blockImage_eq_rewritten (s : State) (img : CardImage) :
    s.blockImage img = { Claims.rewritten s img img.balance with status := .blocked } := rfl

theorem State.blockStage_of_image {s : State} {f : Face} {img : CardImage} (himg : (s.context f).image = some img) :
    s.blockStage f = s.stagePoint f { Claims.rewritten s img img.balance with status := .blocked } := by
  simp only [State.blockStage, himg, State.blockImage_eq_rewritten]

/-! ### A proof that matches (R31, R33) -/

/-- On the block path a matching proof leads to the STAGE point with the block image. -/
theorem State.proofMatched_of_blockPath {s : State} {f : Face} {img : CardImage} (hb : (s.context f).blockPath = true)
    (himg : (s.context f).image = some img) :
    s.proofMatched f = s.stagePoint f { Claims.rewritten s img img.balance with status := .blocked } := by
  rw [State.proofMatched, if_pos hb, State.blockStage_of_image himg]

/-- Off the block path, with nothing found, a matching proof leads to the request for a HOLD. -/
theorem State.proofMatched_of_noFindings {s : State} {f : Face} {img : CardImage} (hb : (s.context f).blockPath = false)
    (himg : (s.context f).image = some img) (hnone : s.sightingFindings f img = []) :
    s.proofMatched f = s.sendHold f img.counter := by
  simp [State.proofMatched, hb, himg, State.checkSightings, hnone, State.findAll]

theorem State.ringRoom_iff (s : State) : s.ringRoom = true ↔ s.ring.queue.length < 32 := decide_eq_true_iff

theorem State.sendHold_of_room {s : State} (f : Face) (counter : Half) (hup : s.ring.state = .up)
    (hroom : s.ring.queue.length < 32) : s.sendHold f counter = Claims.holding s f (s.context f) counter := by
  have hroom := s.ringRoom_iff.mpr hroom
  simp [State.sendHold, State.send, hup, hroom, Claims.holding, State.setRing, State.setContext, uncontested, markByte]

theorem State.sendHold_of_bypass {s : State} (f : Face) (counter : Half)
    (h : s.ring.state = .isolated ∨ 32 ≤ s.ring.queue.length) :
    s.sendHold f counter = (s.setContext f { s.context f with bypassed := true }).deciding f := by
  have hno : ¬ (s.ring.state = .up ∧ s.ringRoom = true) := by
    rw [State.ringRoom_iff]
    rintro ⟨hup, hroom⟩
    rcases h with hiso | hfull
    · simp [hup] at hiso
    · omega
  rw [State.sendHold, if_neg hno]

/-! ### A proof that does not match (R28, R31) -/

theorem State.findEvidence_of_refuse {s : State} (f : Face) {k : EvidenceKind} (hk : s.check.policies.get k = .refuse) :
    s.findEvidence f k = (.refused, (s.raise .clone).setContext f { s.context f with refusing := some k }) := by
  simp [State.findEvidence, hk]

theorem State.proofFailed_of_blockPath {s : State} {f : Face} (hb : (s.context f).blockPath = true) :
    s.proofFailed f = (s.raise .clone).endRefused f .evidence := by
  simp [State.proofFailed, hb]

theorem State.proofFailed_of_refuse {s : State} {f : Face} (hb : (s.context f).blockPath = false)
    (hk : s.check.policies.forged = .refuse) :
    s.proofFailed f
      = ((s.raise .clone).setContext f { s.context f with refusing := some .forged }).endRefused f .evidence := by
  simp [State.proofFailed, hb, State.findEvidence_of_refuse f (k := .forged) hk]

/-- Settles O32: the reply that PROVING awaits runs the comparison with h4, and each branch of it is one of the cases above. -/
theorem proofAnswerIsCompared : Obligations.ProofAnswerIsCompared := by
  intro s f a img k v proof c hw hname himg hkey hch mix h4 h raised takes
  have hexp : c.expectedProof = h4 := Context.expectedProof_eq hname himg hkey hch
  have matched (t : State) (hm : proof = h4) (ht : h.proofMatched f = t) : takes t := by
    rw [← ht]
    exact (exec_proofAnswer_of_waits proof hw).trans (congrArg _ (if_pos (hm.trans hexp.symm)))
  have failed (t : State) (hm : proof ≠ h4) (ht : h.proofFailed f = t) : takes t := by
    rw [← ht]
    exact (exec_proofAnswer_of_waits proof hw).trans (congrArg _ (if_neg fun he => hm (he.trans hexp)))
  refine ⟨fun hm hb hnone hup hroom => ?held, fun hm hb hnone hfull => ?bypassed, fun hm hb hin => ?staged,
    fun hm hb hclosed => ?closed, fun hm hb hk => ?forged, fun hm hb => ?forgedOnBlockPath⟩
  case held =>
    exact matched _ hm
      ((State.proofMatched_of_noFindings (s := h) hb himg hnone).trans (State.sendHold_of_room (s := h) f _ hup hroom))
  case bypassed =>
    exact matched _ hm
      ((State.proofMatched_of_noFindings (s := h) hb himg hnone).trans (State.sendHold_of_bypass (s := h) f _ hfull))
  case staged =>
    exact matched _ hm
      ((State.proofMatched_of_blockPath (s := h) hb himg).trans (State.stagePoint_of_inService (s := h) f _ hin))
  case closed =>
    have hout : h.service.state ≠ .inService := by simp [h, hclosed]
    exact matched _ hm
      ((State.proofMatched_of_blockPath (s := h) hb himg).trans (State.stagePoint_of_blockPath_of_not_inService _ hb hout))
  case forged => exact failed _ hm (State.proofFailed_of_refuse (s := h) hb hk)
  case forgedOnBlockPath => exact failed _ hm (State.proofFailed_of_blockPath (s := h) hb)

end Sys2Proof.Machine
end

section
/-! SUPPORT. The match of the watch unit (sections 6.3 and 6.4): the reading of a bound, a unit's own result, the matched units as
a byte, and the effective match through the groups in use. -/

namespace Sys2Proof.Machine

/-! ### A unit's own result (R133) -/

theorem WatchField.reads_eq (f : WatchField) (b : BitVec 64) :
    f.reads b = if f = .balanceAfter then b.toInt else (b.toNat : Int) := by
  cases f <;> rfl

theorem KindFilter.admits_iff (k : KindFilter) (f : Face) :
    k.admits f = true ↔ (k = .entry → f = .street) ∧ (k = .exit → f = .paid) := by
  cases k <;> cases f <;> decide

theorem KindFilter.admits_eq_false {k : KindFilter} {f : Face} (h : (k = .entry ∧ f = .paid) ∨ (k = .exit ∧ f = .street)) :
    k.admits f = false := by
  obtain ⟨rfl, rfl⟩ | ⟨rfl, rfl⟩ := h <;> rfl

theorem WatchUnit.result_of_not_admits {w : WatchUnit} {v : WatchValues} (h : w.kind.admits v.face = false) :
    w.result v = false := by
  rw [WatchUnit.result, h, Bool.false_and]

theorem WatchUnit.result_of_value_none {w : WatchUnit} {v : WatchValues} (h : v.value w.field = none) :
    w.result v = false := by
  rw [WatchUnit.result, h, Bool.and_false]

theorem WatchValues.value_entryStation_none {v : WatchValues} (h : v.entryStation = none) : v.value .entryStation = none := by
  rw [WatchValues.value, h, Option.map_none]

/-- A value that is compared lies in the range under INSIDE, and below or above it under OUTSIDE. -/
theorem WatchUnit.result_iff_of_value {w : WatchUnit} {v : WatchValues} {x : Int} (hk : w.kind.admits v.face = true)
    (hx : v.value w.field = some x) :
    w.result v = true ↔
      if w.sense = .inside then w.field.reads w.low ≤ x ∧ x ≤ w.field.reads w.high
      else x < w.field.reads w.low ∨ w.field.reads w.high < x := by
  rw [WatchUnit.result, hk, hx, Bool.true_and]
  cases w.sense with
  | inside => simp
  | outside => simp

theorem WatchUnit.enabled_iff (w : WatchUnit) : w.enabled = true ↔ w.field.reads w.low ≤ w.field.reads w.high := by
  rw [WatchUnit.enabled, decide_eq_true_iff]

/-! ### The matched units as a byte (R133) -/

/-- A list summed with its first element as the lowest bit: bit n stands for the element at n. -/
theorem testBit_foldr_lowestFirst {α : Type} (p : α → Bool) (l : List α) (n : Nat) :
    (l.foldr (fun a m => (if p a then 1 else 0) + 2 * m) 0).testBit n = l[n]?.any p := by
  induction l generalizing n with
  | nil => simp
  | cons a l ih =>
    rw [List.foldr_cons]
    cases n with
    | zero => cases h : p a <;> simp [h, Nat.testBit_zero]
    | succ n =>
      have hhalf (m : Nat) : ((if p a then 1 else 0) + 2 * m) / 2 = m := by split <;> omega
      rw [Nat.testBit_succ, hhalf, ih, List.getElem?_cons_succ]

theorem getLsbD_matchedUnits (units : List WatchUnit) (v : WatchValues) {n : Nat} (h : n < 8) :
    (matchedUnits units v).getLsbD n = units[n]?.any fun u => u.enabled && u.result v := by
  rw [matchedUnits, natByte, BitVec.getLsbD_ofNat, testBit_foldr_lowestFirst, decide_eq_true h, Bool.true_and]

/-! ### The groups (R134) -/

theorem groupInUse_iff (units : List WatchUnit) (g : Byte) :
    groupInUse units g = true ↔ ∃ u ∈ units.filter WatchUnit.enabled, u.group = g := by
  simp [groupInUse, List.mem_filter, and_assoc]

theorem groupResult_iff (units : List WatchUnit) (v : WatchValues) (g : Byte) :
    groupResult units v g = true ↔ ∃ u ∈ units.filter WatchUnit.enabled, u.group = g ∧ u.result v = true := by
  simp [groupResult, List.mem_filter, and_assoc]

/-- The groups that `effectiveMatch` asks: those of the four that are in use. -/
def groupsInUse (units : List WatchUnit) : List Byte := [(0 : Byte), 1, 2, 3].filter (groupInUse units)

theorem effectiveMatch_of_or {w : Watch} (v : WatchValues) (h : w.combine = .or) :
    effectiveMatch w v = (groupsInUse w.units.toList).any (groupResult w.units.toList v) := by
  rw [effectiveMatch, h]
  rfl

theorem effectiveMatch_of_and {w : Watch} (v : WatchValues) (h : w.combine = .and) :
    effectiveMatch w v
      = (decide (groupsInUse w.units.toList ≠ []) && (groupsInUse w.units.toList).all (groupResult w.units.toList v)) := by
  rw [effectiveMatch, h]
  rfl

theorem mem_fourGroups_of_le {g : Byte} (h : g.toNat ≤ 3) : g ∈ [(0 : Byte), 1, 2, 3] := by
  simp only [List.mem_cons, List.not_mem_nil, or_false]
  bv_omega

section
variable {units : List WatchUnit} (hgroups : ∀ u ∈ units, u.group.toNat ≤ 3)
include hgroups

/-- With every unit in one of the four groups, the groups in use are the groups of the enabled units. -/
theorem mem_groupsInUse_iff {g : Byte} : g ∈ groupsInUse units ↔ ∃ u ∈ units.filter WatchUnit.enabled, u.group = g := by
  rw [groupsInUse, List.mem_filter, groupInUse_iff, and_iff_right_iff_imp]
  rintro ⟨u, hu, rfl⟩
  exact mem_fourGroups_of_le (hgroups u (List.mem_of_mem_filter hu))

theorem groupsInUse_ne_nil_iff : groupsInUse units ≠ [] ↔ units.filter WatchUnit.enabled ≠ [] := by
  rw [not_iff_not, List.eq_nil_iff_forall_not_mem, List.eq_nil_iff_forall_not_mem]
  simp only [mem_groupsInUse_iff hgroups]
  constructor
  · exact fun h u hu => h u.group ⟨u, hu, rfl⟩
  · rintro h g ⟨u, hu, -⟩
    exact h u hu

theorem any_groupsInUse_iff (v : WatchValues) :
    (groupsInUse units).any (groupResult units v) = true ↔ ∃ u ∈ units.filter WatchUnit.enabled, u.result v = true := by
  simp only [List.any_eq_true, mem_groupsInUse_iff hgroups, groupResult_iff]
  constructor
  · rintro ⟨g, -, u, hu, -, hr⟩
    exact ⟨u, hu, hr⟩
  · rintro ⟨u, hu, hr⟩
    exact ⟨u.group, ⟨u, hu, rfl⟩, u, hu, rfl, hr⟩

theorem all_groupsInUse_iff (v : WatchValues) :
    (groupsInUse units).all (groupResult units v) = true ↔
      ∀ u ∈ units.filter WatchUnit.enabled, ∃ x ∈ units.filter WatchUnit.enabled, x.group = u.group ∧ x.result v = true := by
  simp only [List.all_eq_true, mem_groupsInUse_iff hgroups, groupResult_iff]
  constructor
  · exact fun h u hu => h u.group ⟨u, hu, rfl⟩
  · rintro h g ⟨u, hu, rfl⟩
    exact h u hu

end

theorem watchUnitComparesItsField : Claims.WatchUnitComparesItsField := by
  refine ⟨fun w v => ?unit, fun units v n h => ?matched⟩
  case unit =>
    simp only [← WatchField.reads_eq]
    refine ⟨fun hk => WatchUnit.result_of_not_admits (KindFilter.admits_eq_false hk), fun hf hs => ?noStation,
      fun x hentry hexit hx => WatchUnit.result_iff_of_value ((KindFilter.admits_iff _ _).mpr ⟨hentry, hexit⟩) hx,
      w.enabled_iff⟩
    case noStation =>
      exact WatchUnit.result_of_value_none (by rw [hf, WatchValues.value_entryStation_none hs])
  case matched => rw [getLsbD_matchedUnits _ v h, Vector.getElem?_toList, Vector.getElem?_eq_getElem h, Option.any_some]

theorem watchUnitsCombineByGroups : Claims.WatchUnitsCombineByGroups := by
  intro w v hgroups enabled
  refine ⟨fun hor => ?or, fun hand => ?and⟩
  case or => rw [effectiveMatch_of_or v hor, any_groupsInUse_iff hgroups]
  case and =>
    rw [effectiveMatch_of_and v hand, Bool.and_eq_true, decide_eq_true_iff, groupsInUse_ne_nil_iff hgroups,
      all_groupsInUse_iff hgroups]

/-- Settles O18: a unit's result by the cases of its kind, field and sense, and the effective match through the groups in use. -/
theorem watchUnitsAreComparedAndCombined : Obligations.WatchUnitsAreComparedAndCombined :=
  ⟨watchUnitComparesItsField, watchUnitsCombineByGroups⟩

end Sys2Proof.Machine
end

section
/-! SUPPORT. The service clock and attention (sections 8.4 and 8.5): a request that meets a free receive buffer, the reading of SET
CLOCK's body, and the attention flags by number, with their mask and line. -/

namespace Sys2Proof.Machine

/-! ### A request that meets a free receive buffer (R200, R202) -/

/-- The collector hunts again: so the block that answers a request finds the part (R198, R200). -/
def State.hunting (s : State) : State := s.setLink { s.link with collector := .hunting }

theorem State.takeFrame_of_free {s : State} (act : State → State × Reply) (hfree : s.link.busy = false) :
    s.takeFrame act = (act s.hunting).1.setLink { (act s.hunting).1.link with busy := true, reply := some (act s.hunting).2 } := by
  rw [State.takeFrame, hfree]
  rfl

/-- A part that listens answers a request of the right length, and the reply stands in the state `u` that the answer leaves. -/
theorem whenRunning_request_of_listening {s u : State} {kind : Byte} {length : Nat} {body : List Byte} {answer : State → Answer}
    {r : Result} {fields : List Byte} (hs : s.listening) (hlen : body.length = length)
    (hans : answer s.hunting = { result := r, fields := fields, after := u.hunting }) :
    whenRunning s (fun s => s.request kind length body answer) = .next (u.replying kind r fields) := by
  obtain ⟨hp, hfree⟩ := hs
  rw [whenRunning_of_running _ hp, State.request, State.takeRequest, State.takeFrame_of_free _ hfree, decide_eq_true hlen,
    if_pos rfl, hans]
  rfl

/-! ### Mark bytes and the body of SET CLOCK (R176, R210) -/

theorem readMark_of_mark {b : Byte} (h : b = 0 ∨ b = 1) : readMark b = some (decide (b = 1)) := by
  obtain rfl | rfl := h <;> rfl

theorem readMark_of_not_mark {b : Byte} (h : ¬ (b = 0 ∨ b = 1)) : readMark b = none := by
  obtain ⟨hclear, hset⟩ := not_or.mp h
  rw [readMark, if_neg hclear, if_neg hset]

/-- The minutes of a SET CLOCK body are within the day: the wall-clock minute and a rollover minute that is carried. -/
def clockMinutesFit (b : List Byte) : Prop :=
  (halfAt b 2).toNat < 1440 ∧ (byteAt b 5 = 1 → (halfAt b 6).toNat < 1440)

theorem readClock_of_marks {b : List Byte} (hpeak : byteAt b 4 = 0 ∨ byteAt b 4 = 1) (hcarried : byteAt b 5 = 0 ∨ byteAt b 5 = 1) :
    (clockMinutesFit b → readClock b = some
      { day := halfAt b 0, minute := halfAt b 2, peakDay := decide (byteAt b 4 = 1)
        rollover := if byteAt b 5 = 1 then some (halfAt b 6) else none })
    ∧ (¬ clockMinutesFit b → readClock b = none) := by
  simp only [readClock, readMark_of_mark hpeak, readMark_of_mark hcarried, decide_eq_true_eq]
  exact ⟨fun h => if_pos h, fun h => if_neg h⟩

theorem readClock_of_not_mark {b : List Byte} (h : ¬ ((byteAt b 4 = 0 ∨ byteAt b 4 = 1) ∧ (byteAt b 5 = 0 ∨ byteAt b 5 = 1))) :
    readClock b = none := by
  rw [readClock]
  by_cases hpeak : byteAt b 4 = 0 ∨ byteAt b 4 = 1
  · rw [readMark_of_not_mark fun hcarried => h ⟨hpeak, hcarried⟩]
    cases readMark (byteAt b 4) <;> rfl
  · rw [readMark_of_not_mark hpeak]

/-- A rollover minute that is not carried leaves the stored one. -/
theorem ClockRequest.apply_of_carried {r : ClockRequest} {p : Prop} [Decidable p] {x : Half} (k : Clock)
    (h : r.rollover = if p then some x else none) :
    r.apply k =
      { isSet := true, day := r.day, ms := 0, peakDay := r.peakDay, rollover := if p then x else k.rollover
        minute := BitVec.ofNat 16 (serviceMinute r.minute.toNat (if p then x else k.rollover).toNat) } := by
  have hget : r.rollover.getD k.rollover = if p then x else k.rollover := by
    rw [h]
    split <;> rfl
  rw [ClockRequest.apply, hget]

theorem exec_setClock_of_read {s : State} {body : List Byte} {r : ClockRequest} (hs : s.listening) (hlen : body.length = 8)
    (hr : readClock body = some r) :
    let u := s.setService { s.service with clock := r.apply s.service.clock }
    exec (.setClock body) s = .next (u.replying 0x02 .done u.clockFields) :=
  whenRunning_request_of_listening hs hlen (by rw [hr]; rfl)

theorem exec_setClock_of_refused {s : State} {body : List Byte} (hs : s.listening) (hlen : body.length = 8)
    (hr : readClock body = none) :
    exec (.setClock body) s = .next (s.replying 0x02 .outOfRange s.clockFields) :=
  whenRunning_request_of_listening hs hlen (by rw [hr]; rfl)

theorem State.clockFields_eq (s : State) :
    s.clockFields = halfBytes s.service.clock.day ++ halfBytes s.service.clock.minute ++ [markByte s.service.clock.peakDay]
      ++ halfBytes s.service.clock.rollover := by
  rw [List.append_assoc _ [_]]
  rfl

/-- Settles O7: the mark bytes and the minutes decide whether the body is read, and a body that is read sets the clock alone. -/
theorem setClockStoresServiceTime : Obligations.SetClockStoresServiceTime := by
  intro s body hs hlen wall accepted rollover minute shown k
  refine ⟨fun ⟨hpeak, hcarried, hwall, hroll⟩ => ?set, fun hrefused => ?refused⟩
  case set =>
    have hread := (readClock_of_marks hpeak hcarried).1 ⟨hwall, hroll⟩
    rw [exec_setClock_of_read hs hlen hread, ClockRequest.apply_of_carried _ rfl, State.clockFields_eq]
    rfl
  case refused =>
    have hread : readClock body = none := by
      by_cases hmarks : (byteAt body 4 = 0 ∨ byteAt body 4 = 1) ∧ (byteAt body 5 = 0 ∨ byteAt body 5 = 1)
      · obtain ⟨hpeak, hcarried⟩ := hmarks
        exact (readClock_of_marks hpeak hcarried).2 fun hfit => hrefused ⟨hpeak, hcarried, hfit⟩
      · exact readClock_of_not_mark hmarks
    rw [exec_setClock_of_refused hs hlen hread, State.clockFields_eq]

/-! ### The flags by number (R180, R210) -/

theorem mem_flagList (g : Flag) : g ∈ flagList := by cases g <;> decide

/-- Bit n of a flag set's field stands for the n-th flag, and a bit past the last flag is clear. -/
theorem FlagSet.getLsbD_toBits (x : FlagSet) (n : Nat) : x.toBits.getLsbD n = (flagList.map x.get).getD n false := by
  have hany : flagList[n]?.any x.get = (flagList.map x.get).getD n false := by
    rw [List.getD_eq_getElem?_getD, List.getElem?_map]
    cases flagList[n]? <;> rfl
  rw [FlagSet.toBits, BitVec.getLsbD_ofNat, testBit_foldr_lowestFirst, hany]
  by_cases hn : n < 16
  · rw [decide_eq_true hn, Bool.true_and]
  · have hlast : (flagList.map x.get).length ≤ n := by
      rw [List.length_map]
      exact le_trans (by decide : flagList.length ≤ 16) (not_lt.mp hn)
    rw [List.getD_eq_default _ _ hlast, Bool.and_false]

theorem FlagSet.map_get_ofBits (b : Half) : flagList.map (FlagSet.ofBits b).get = (List.range 9).map b.getLsbD := rfl

theorem FlagSet.getLsbD_toBits_ofBits (b : Half) (n : Nat) :
    (FlagSet.ofBits b).toBits.getLsbD n = (decide (n < 9) && b.getLsbD n) := by
  rw [FlagSet.getLsbD_toBits, FlagSet.map_get_ofBits, List.getD_eq_getElem?_getD, List.getElem?_map]
  by_cases hn : n < 9
  · rw [List.getElem?_range hn, decide_eq_true hn]
    rfl
  · rw [List.getElem?_eq_none (by rwa [List.length_range, ← not_lt]), decide_eq_false hn]
    rfl

/-! ### The mask, the line and the raising of a flag (R181) -/

theorem FlagSet.line_iff (flags mask : FlagSet) : flags.line mask = true ↔ ∃ g, flags.get g = true ∧ mask.get g = true := by
  simp only [FlagSet.line, List.any_eq_true, Bool.and_eq_true, mem_flagList, true_and]

theorem State.attn_of_running {s : State} (hp : s.power = .running) : s.attn = s.attentionLine := by
  rw [State.attn, decide_eq_true hp, Bool.true_and]

theorem FlagSet.get_raise_self (x : FlagSet) (g : Flag) : (x.raise g).get g = true := by cases g <;> rfl

theorem FlagSet.get_raise_of_ne (x : FlagSet) {g h : Flag} (hne : h ≠ g) : (x.raise g).get h = x.get h := by
  cases g <;> cases h <;> trivial

theorem FlagSet.get_raise (x : FlagSet) (g h : Flag) : (x.raise g).get h = (x.get h || decide (h = g)) := by
  by_cases hg : h = g
  · rw [hg, FlagSet.get_raise_self, decide_eq_true rfl, Bool.or_true]
  · rw [FlagSet.get_raise_of_ne x hg, decide_eq_false hg, Bool.or_false]

/-! ### The two requests (R181, R182) -/

theorem exec_attention_of_listening {s : State} (hs : s.listening) :
    exec (.attention []) s = .next
      ((s.setService { s.service with flags := FlagSet.none }).replying 0x17 .done (halfBytes s.service.flags.toBits)) :=
  whenRunning_request_of_listening hs rfl rfl

theorem exec_setAttentionMask_of_listening {s : State} {body : List Byte} (hs : s.listening) (hlen : body.length = 2) :
    let u := s.setService { s.service with mask := FlagSet.ofBits (halfAt body 0) }
    exec (.setAttentionMask body) s
      = .next (u.replying 0x18 .done (halfBytes u.service.mask.toBits ++ [markByte u.attentionLine])) :=
  whenRunning_request_of_listening hs hlen rfl

/-- Settles O9: the two requests, the line and ATTN, the flags by bit, and the raising of a flag. -/
theorem attentionFlagsMaskAndLine : Obligations.AttentionFlagsMaskAndLine :=
  ⟨fun _ hs => exec_attention_of_listening hs,
    fun _ _ hs hlen => exec_setAttentionMask_of_listening hs hlen,
    fun s => s.service.flags.line_iff s.service.mask,
    fun _ hp => State.attn_of_running hp,
    FlagSet.getLsbD_toBits_ofBits,
    FlagSet.getLsbD_toBits,
    fun s g h => s.service.flags.get_raise g h⟩

end Sys2Proof.Machine
end

section
/-! SUPPORT. What every operation leaves within its bounds: the tables, the queues and the values of fixed range, block by block. -/

namespace Sys2Proof.Machine

-- One declaration at a time: each waiting elaboration thread counts against the memory limit of the one text.
set_option Elab.async false

/-! ### The sightings table (R81, R83) -/

/-- At most 256 entries, no card number twice. -/
def SightingsFit (l : List SightingEntry) : Prop := l.length ≤ sightingsSize ∧ (l.map (·.number)).Nodup

theorem findSighting_number {l : List SightingEntry} {n : CardNumber} {e : SightingEntry} (h : findSighting l n = some e) :
    e.number = n := by simpa using List.find?_some h

theorem mem_of_findSighting {l : List SightingEntry} {n : CardNumber} {e : SightingEntry} (h : findSighting l n = some e) :
    e ∈ l := List.mem_of_find?_eq_some h

theorem findSighting_eq_none {l : List SightingEntry} {n : CardNumber} (h : findSighting l n = none) :
    ∀ x ∈ l, x.number ≠ n := by simpa [findSighting] using h

theorem SightingsFit.filter {l : List SightingEntry} (h : SightingsFit l) (p : SightingEntry → Bool) :
    SightingsFit (l.filter p) :=
  ⟨(List.length_filter_le _ _).trans h.1, h.2.sublist (List.filter_sublist.map _)⟩

theorem touchSighting_nodup {l : List SightingEntry} (h : (l.map (·.number)).Nodup) (e : SightingEntry) :
    ((touchSighting l e).map (·.number)).Nodup := by
  rw [touchSighting, List.map_append, List.nodup_append]
  refine ⟨h.sublist (List.filter_sublist.map _), by simp, ?_⟩
  simp only [List.mem_map, List.mem_filter, decide_eq_true_eq, List.map_cons, List.map_nil, List.mem_singleton]
  rintro _ ⟨x, ⟨-, hx⟩, rfl⟩ _ rfl
  exact hx

/-- Updating an entry of a number that the table holds makes it no longer. -/
theorem touchSighting_fit_of_mem {l : List SightingEntry} (h : SightingsFit l) {e x : SightingEntry} (hx : x ∈ l)
    (hn : e.number = x.number) : SightingsFit (touchSighting l e) := by
  refine ⟨?_, touchSighting_nodup h.2 e⟩
  have hlt : (l.filter fun y => decide (y.number ≠ e.number)).length < l.length :=
    List.length_filter_lt_length_iff_exists.mpr ⟨x, hx, by simp [hn]⟩
  have := h.1
  simp only [touchSighting, List.length_append, List.length_singleton]
  omega

theorem touchSighting_fit_of_room {l : List SightingEntry} (h : SightingsFit l) (hroom : l.length < sightingsSize)
    (e : SightingEntry) : SightingsFit (touchSighting l e) := by
  refine ⟨?_, touchSighting_nodup h.2 e⟩
  have := List.length_filter_le (fun y : SightingEntry => decide (y.number ≠ e.number)) l
  simp only [touchSighting, List.length_append, List.length_singleton]
  omega

theorem sightingRoom_fit {l m : List SightingEntry} (h : SightingsFit l) (hm : sightingRoom l = some m) :
    SightingsFit m ∧ m.length < sightingsSize := by
  unfold sightingRoom at hm
  split at hm
  · cases hm
    exact ⟨h, ‹_›⟩
  · split at hm
    · rename_i v hv
      cases hm
      have hlt : (l.filter fun x => decide (x.number ≠ v.number)).length < l.length :=
        List.length_filter_lt_length_iff_exists.mpr ⟨v, List.mem_of_find?_eq_some hv, by simp⟩
      exact ⟨h.filter _, hlt.trans_le h.1⟩
    · cases hm

/-- What is put in the place that was found or made for a number fits the table. -/
theorem touchSighting_findOrCreate_fit {l m : List SightingEntry} {n : CardNumber} {e x : SightingEntry} (h : SightingsFit l)
    (hf : findOrCreate l n = some (e, m)) (hn : x.number = e.number) : SightingsFit (touchSighting m x) := by
  unfold findOrCreate at hf
  split at hf
  · rename_i y hy
    cases hf
    exact touchSighting_fit_of_mem h (mem_of_findSighting hy) hn
  · obtain ⟨room, hroom, hr⟩ := Option.map_eq_some_iff.mp hf
    cases hr
    obtain ⟨hfit, hlt⟩ := sightingRoom_fit h hroom
    exact touchSighting_fit_of_room hfit hlt x

theorem touchSighting_findSighting_fit {l : List SightingEntry} {n : CardNumber} {e x : SightingEntry} (h : SightingsFit l)
    (hf : findSighting l n = some e) (hn : x.number = e.number) : SightingsFit (touchSighting l x) :=
  touchSighting_fit_of_mem h (mem_of_findSighting hf) hn

theorem replaceSighting_fit {l : List SightingEntry} (h : SightingsFit l) (e : SightingEntry) :
    SightingsFit (replaceSighting l e) := by
  have hmap : (replaceSighting l e).map (·.number) = l.map (·.number) := by
    rw [replaceSighting, List.map_map]
    refine List.map_congr_left fun x _ => ?_
    simp only [Function.comp]
    split <;> simp_all
  refine ⟨?_, hmap ▸ h.2⟩
  rw [replaceSighting, List.length_map]
  exact h.1

/-! ### The hotlist (R114) -/

/-- At most 2 048 numbers in rising order, the LOCAL order naming exactly the LOCAL ones, none twice. -/
def HotlistFit (h : Hotlist) : Prop :=
  (h.entries.length ≤ hotlistSize ∧ h.entries.Pairwise fun a b => a.number.toNat < b.number.toNat)
    ∧ h.localOrder.Nodup ∧ ∀ n, n ∈ h.localOrder ↔ ∃ e ∈ h.entries, e.number = n ∧ e.origin = .localAdd

theorem Hotlist.listed_iff (h : Hotlist) (n : CardNumber) : h.listed n = true ↔ ∃ e ∈ h.entries, e.number = n := by
  simp [Hotlist.listed, Hotlist.find]

theorem mem_insertHot (e x : HotEntry) (l : List HotEntry) : x ∈ insertHot e l ↔ x = e ∨ x ∈ l := by
  induction l with
  | nil => simp [insertHot]
  | cons y ys ih =>
    unfold insertHot
    split
    · simp
    · simp only [List.mem_cons, ih]
      tauto

theorem length_insertHot (e : HotEntry) (l : List HotEntry) : (insertHot e l).length = l.length + 1 := by
  induction l with
  | nil => rfl
  | cons y ys ih =>
    unfold insertHot
    split
    · simp
    · simp [ih]

theorem insertHot_pairwise {e : HotEntry} {l : List HotEntry} (h : l.Pairwise fun a b => a.number.toNat < b.number.toNat)
    (hn : ∀ x ∈ l, x.number ≠ e.number) : (insertHot e l).Pairwise fun a b => a.number.toNat < b.number.toNat := by
  induction l with
  | nil => simp [insertHot]
  | cons y ys ih =>
    obtain ⟨hy, hys⟩ := List.pairwise_cons.mp h
    have hne : y.number.toNat ≠ e.number.toNat := fun he => hn y (by simp) (BitVec.eq_of_toNat_eq he)
    unfold insertHot
    split
    case isTrue hle =>
      refine List.pairwise_cons.mpr ⟨fun x hx => ?_, h⟩
      rcases List.mem_cons.mp hx with rfl | hx
      · omega
      · have := hy x hx
        omega
    case isFalse hgt =>
      refine List.pairwise_cons.mpr ⟨fun x hx => ?_, ih hys fun x hx => hn x (List.mem_cons_of_mem _ hx)⟩
      rcases (mem_insertHot e x ys).mp hx with rfl | hx
      · omega
      · exact hy x hx

theorem HotlistFit.remove {h : Hotlist} (hf : HotlistFit h) (n : CardNumber) : HotlistFit (h.remove n) := by
  obtain ⟨⟨hlen, hsort⟩, hnodup, hexact⟩ := hf
  refine ⟨⟨(List.length_filter_le _ _).trans hlen, hsort.sublist List.filter_sublist⟩, hnodup.filter _, fun m => ?_⟩
  simp only [Hotlist.remove, List.mem_filter, hexact, decide_eq_true_eq]
  constructor
  · rintro ⟨⟨e, he, rfl, ho⟩, hne⟩
    exact ⟨e, ⟨he, hne⟩, rfl, ho⟩
  · rintro ⟨e, ⟨he, hne⟩, rfl, ho⟩
    exact ⟨⟨e, he, rfl, ho⟩, hne⟩

theorem HotlistFit.addLocal {h : Hotlist} (hf : HotlistFit h) {n : CardNumber} (b : Bool)
    (hn : ∀ x ∈ h.entries, x.number ≠ n) (hroom : h.entries.length < hotlistSize) : HotlistFit (h.addLocal n b) := by
  obtain ⟨⟨hlen, hsort⟩, hnodup, hexact⟩ := hf
  refine ⟨⟨by rw [Hotlist.addLocal, length_insertHot]; omega, insertHot_pairwise hsort hn⟩, ?_, fun m => ?_⟩
  · rw [Hotlist.addLocal, List.nodup_append]
    refine ⟨hnodup, by simp, ?_⟩
    intro a ha b hb
    obtain ⟨e, he, rfl, -⟩ := (hexact a).mp ha
    rw [List.mem_singleton.mp hb]
    exact hn e he
  · simp only [Hotlist.addLocal, List.mem_append, List.mem_singleton, hexact, mem_insertHot]
    constructor
    · rintro (⟨e, he, hm⟩ | rfl)
      · exact ⟨e, .inr he, hm⟩
      · exact ⟨_, .inl rfl, rfl, rfl⟩
    · rintro ⟨e, rfl | he, rfl, ho⟩
      · exact .inr rfl
      · exact .inl ⟨e, he, rfl, ho⟩

theorem HotlistFit.addHost {h : Hotlist} (hf : HotlistFit h) {n : CardNumber}
    (hn : ∀ x ∈ h.entries, x.number ≠ n) (hroom : h.entries.length < hotlistSize) : HotlistFit (h.addHost n) := by
  obtain ⟨⟨hlen, hsort⟩, hnodup, hexact⟩ := hf
  refine ⟨⟨by rw [Hotlist.addHost, length_insertHot]; omega, insertHot_pairwise hsort hn⟩, hnodup, fun m => ?_⟩
  simp only [Hotlist.addHost, hexact, mem_insertHot]
  constructor
  · rintro ⟨e, he, hm⟩
    exact ⟨e, .inr he, hm⟩
  · rintro ⟨e, rfl | he, hm, ho⟩
    · cases ho
    · exact ⟨e, he, hm, ho⟩

/-- A change of entries that keeps their numbers keeps their count and their order. -/
theorem hotEntries_map_fit {l : List HotEntry} {g : HotEntry → HotEntry} (hg : ∀ e, (g e).number = e.number)
    (h : l.length ≤ hotlistSize ∧ l.Pairwise fun a b => a.number.toNat < b.number.toNat) :
    (l.map g).length ≤ hotlistSize ∧ (l.map g).Pairwise fun a b => a.number.toNat < b.number.toNat := by
  refine ⟨by simpa using h.1, List.pairwise_map.mpr ?_⟩
  simpa only [hg] using h.2

theorem HotlistFit.mark {h : Hotlist} (hf : HotlistFit h) (n : CardNumber) (b : Bool) : HotlistFit (h.mark n b) := by
  obtain ⟨hsort, hnodup, hexact⟩ := hf
  have hnum (e : HotEntry) :
      (if e.number = n ∧ e.origin = .localAdd then { e with ownBlock := b } else e).number = e.number := by split <;> rfl
  have horigin (e : HotEntry) :
      (if e.number = n ∧ e.origin = .localAdd then { e with ownBlock := b } else e).origin = e.origin := by split <;> rfl
  refine ⟨hotEntries_map_fit hnum hsort, hnodup, fun m => (hexact m).trans ?_⟩
  simp only [Hotlist.mark, List.mem_map, exists_exists_and_eq_and, hnum, horigin]

theorem HotlistFit.makeHost {h : Hotlist} (hf : HotlistFit h) (n : CardNumber) : HotlistFit (h.makeHost n) := by
  obtain ⟨hsort, hnodup, hexact⟩ := hf
  have hnum (e : HotEntry) :
      (if e.number = n then { e with origin := .host, ownBlock := false } else e).number = e.number := by split <;> rfl
  refine ⟨hotEntries_map_fit hnum hsort, hnodup.filter _, fun m => ?_⟩
  simp only [Hotlist.makeHost, List.mem_filter, decide_eq_true_eq, List.mem_map, exists_exists_and_eq_and, hnum, hexact]
  constructor
  · rintro ⟨⟨e, he, rfl, ho⟩, hne⟩
    exact ⟨e, he, rfl, by rw [if_neg hne, ho]⟩
  · rintro ⟨e, he, rfl, ho⟩
    by_cases hne : e.number = n
    · rw [if_pos hne] at ho
      cases ho
    · rw [if_neg hne] at ho
      exact ⟨⟨e, he, rfl, ho⟩, hne⟩

theorem Hotlist.not_listed {h : Hotlist} {n : CardNumber} (hn : ¬ h.listed n = true) : ∀ x ∈ h.entries, x.number ≠ n :=
  fun x hx he => hn ((h.listed_iff n).mpr ⟨x, hx, he⟩)

theorem HotlistFit.localAdd {h : Hotlist} (hf : HotlistFit h) (n : CardNumber) (b : Bool) : HotlistFit (h.localAdd n b) := by
  unfold Hotlist.localAdd
  split
  case isTrue =>
    split
    · exact hf.mark n true
    · exact hf
  case isFalse hn =>
    have hn := Hotlist.not_listed hn
    split
    · exact hf.addLocal b hn ‹_›
    · split
      case h_1 v hv =>
        have hmem : ∃ e ∈ h.entries, e.number = v := by
          have hmarked := List.find?_some hv
          simp only [List.any_eq_true, decide_eq_true_eq] at hmarked
          obtain ⟨e, he, hm, -⟩ := hmarked
          exact ⟨e, he, hm⟩
        obtain ⟨e, he, rfl⟩ := hmem
        have hlt : (h.remove e.number).entries.length < h.entries.length :=
          List.length_filter_lt_length_iff_exists.mpr ⟨e, he, by simp⟩
        exact (hf.remove _).addLocal b (fun x hx => hn x (List.mem_of_mem_filter hx)) (hlt.trans_le hf.1.1)
      case h_2 => exact hf

theorem hotlistAdd_fit {h : Hotlist} (hf : HotlistFit h) (n : CardNumber) : HotlistFit (hotlistAdd h n).2 := by
  unfold hotlistAdd
  split
  · simp only
    split
    · exact hf
    · exact hf.makeHost n
  · rename_i hn
    split
    · refine hf.addHost (Hotlist.not_listed ?_) ‹_›
      simp [Hotlist.listed, hn]
    · exact hf

/-! ### The released station-days (R63) -/

/-- At most 16 pairs, none twice. -/
def ReleasedFit (l : List (Half × Half)) : Prop := l.length ≤ 16 ∧ l.Nodup

theorem ReleasedFit.filter {l : List (Half × Half)} (h : ReleasedFit l) (p : Half × Half → Bool) : ReleasedFit (l.filter p) :=
  ⟨(List.length_filter_le _ _).trans h.1, h.2.filter _⟩

theorem releaseDays_fit {l : List (Half × Half)} (h : ReleasedFit l) (a : ReleaseAction) (pair : Half × Half) :
    ReleasedFit (releaseDays a pair l).2 := by
  cases a with
  | add =>
    simp only [releaseDays]
    split
    · exact h
    · split
      · exact h
      · split
        · exact h
        · rename_i hnew hroom
          simp only [releasedSize, List.contains_eq_mem, decide_eq_true_eq, not_le] at hnew hroom
          refine ⟨by simpa using hroom, List.nodup_append.mpr ⟨h.2, by simp, ?_⟩⟩
          intro a ha b hb he
          rw [List.mem_singleton.mp hb] at he
          exact hnew (he ▸ ha)
  | remove =>
    simp only [releaseDays]
    split
    · exact h.filter _
    · exact h
  | clear => exact ⟨by simp [releaseDays], by simp [releaseDays]⟩

/-! ### The journal, the link, the faces, the clock, the policies -/

/-- Sequence 0 is given to no record and is not the next (R183). -/
def JournalFit (j : Journal) : Prop := j.next ≠ 0 ∧ ∀ r ∈ j.records, r.sequence ≠ 0

theorem nextSequence_ne_zero (n : Word) : nextSequence n ≠ 0 := by
  unfold nextSequence
  split
  · decide
  · bv_omega

/-- The overrun count is at most 255 (R200). -/
def LinkFit (l : Link) : Prop := l.overrun ≤ 255

/-- Each miss count is at most 3 (R8). -/
def MissesFit (p : PerFace FaceUnit) : Prop := p.street.missCount ≤ 3 ∧ p.paid.missCount ≤ 3

theorem MissesFit.get {p : PerFace FaceUnit} (h : MissesFit p) (f : Face) : (p.get f).missCount ≤ 3 := by
  cases f
  · exact h.1
  · exact h.2

theorem MissesFit.set {p : PerFace FaceUnit} (h : MissesFit p) {f : Face} {u : FaceUnit} (hu : u.missCount ≤ 3) :
    MissesFit (p.set f u) := by
  cases f
  · exact ⟨hu, h.2⟩
  · exact ⟨h.1, hu⟩

/-- The clock's minutes are within a day, and an unset clock reads 0 (R175). -/
def ClockFit (k : Clock) : Prop :=
  (k.minute.toNat < 1440 ∧ k.rollover.toNat < 1440) ∧ (k.isSet = false → k.day = 0 ∧ k.minute = 0 ∧ k.peakDay = false)

/-- The two policies that Table 15 fixes. -/
def PoliciesFit (p : Policies) : Prop := p.blocked = .refuse ∧ p.forged = .refuse

/-! ### The aisle (R150, R156, R160, R161) -/

/-- Queues of at most 3, the lock of every direction with an entry queued in a bidirectional aisle, a one-way lock that holds its
direction. -/
def Aisle.Ordered (a : Aisle) : Prop :=
  (a.queues.entry.length ≤ queueSize ∧ a.queues.exit.length ≤ queueSize)
    ∧ (a.mode = .bidirectional → ∀ d, a.queues.get d ≠ [] → a.lock = lockOf d)
    ∧ (a.mode = .entryOnly → a.lock = .entry) ∧ (a.mode = .exitOnly → a.lock = .exit)

/-- The close delay and a CLOSING leaf only over a clear aisle, the close delay in OPEN with no grant queued. -/
def Aisle.CloseSafe (a : Aisle) : Prop :=
  (a.closeStart.isSome = true → a.leaf = .opened ∧ a.anyGranted = false ∧ a.clear = true)
    ∧ (a.leaf = .closing → a.clear = true)

theorem Aisle.Ordered.length_le {a : Aisle} (h : a.Ordered) (d : Direction) : (a.queues.get d).length ≤ queueSize := by
  cases d
  · exact h.1.1
  · exact h.1.2

/-- Queues that are no longer, under the same lock and mode, stay in order. -/
theorem Aisle.Ordered.shrink {a b : Aisle} (h : a.Ordered) (hmode : b.mode = a.mode) (hlock : b.lock = a.lock)
    (hq : ∀ d, (b.queues.get d).length ≤ (a.queues.get d).length) : b.Ordered := by
  refine ⟨⟨(hq .entry).trans h.1.1, (hq .exit).trans h.1.2⟩, fun hm d hd => ?_, ?_⟩
  · rw [hlock]
    refine h.2.1 (hmode ▸ hm) d fun hnil => hd ?_
    have := hq d
    rw [hnil] at this
    exact List.length_eq_zero_iff.mp (Nat.le_zero.mp this)
  · rw [hmode, hlock]
    exact h.2.2

theorem PerDirection.length_set_le {α : Type} {p : PerDirection (List α)} {d : Direction} {l : List α}
    (h : l.length ≤ (p.get d).length) (e : Direction) : ((p.set d l).get e).length ≤ (p.get e).length := by
  by_cases hd : e = d
  · rw [hd, PerDirection.get_set]
    exact h
  · rw [PerDirection.get_set_ne _ _ hd]

theorem Aisle.Ordered.checkLock {a : Aisle} (h : a.Ordered) : a.checkLock.Ordered := by
  unfold Aisle.checkLock
  split
  case isTrue hfree =>
    obtain ⟨hm, hentry, hexit, -⟩ := hfree
    refine ⟨h.1, fun _ d hd => ?_, fun he => by simp [hm] at he, fun he => by simp [hm] at he⟩
    cases d
    · exact absurd hentry hd
    · exact absurd hexit hd
  case isFalse => exact h

theorem length_updateFirst {α : Type} (p : α → Bool) (x : α → α) (l : List α) : (updateFirst p x l).length = l.length := by
  induction l with
  | nil => rfl
  | cons e es ih =>
    unfold updateFirst
    split <;> simp [ih]

/-- A fresh place taken with the lock (R27): the aisle does not refuse it. -/
theorem Aisle.Ordered.reserve {a : Aisle} (h : a.Ordered) {d : Direction} (hr : a.refuses d = none) (e : QueueEntry) :
    Aisle.Ordered { a with
      queues := a.queues.set d (a.queues.get d ++ [e]), lock := if a.lock = .unlocked then lockOf d else a.lock } := by
  have hbusy : ¬ (a.mode = .bidirectional ∧ a.lock ≠ .unlocked ∧ a.lock ≠ lockOf d) := fun hb => by
    simp only [Aisle.refuses, hb, and_self, if_true, not_false_eq_true, ne_eq] at hr
    split at hr <;> cases hr
  have hroom : (a.queues.get d).length + 1 ≤ queueSize := by
    by_contra hfull
    have hfull : queueSize ≤ (a.queues.get d).length := by omega
    simp only [Aisle.refuses, hfull, if_true] at hr
    split at hr
    · cases hr
    · simp at hr
  obtain ⟨⟨hentry, hexit⟩, hdir, hone, hone'⟩ := h
  refine ⟨?_, fun hm g hg => ?_, fun hm => ?_, fun hm => ?_⟩
  · cases d
    · exact ⟨by simpa [PerDirection.set, PerDirection.get] using hroom, hexit⟩
    · exact ⟨hentry, by simpa [PerDirection.set, PerDirection.get] using hroom⟩
  · by_cases hgd : g = d
    · subst hgd
      split
      · rfl
      · rename_i hlocked
        by_contra hne
        exact hbusy ⟨hm, hlocked, hne⟩
    · rw [PerDirection.get_set_ne _ _ hgd] at hg
      have hlock := hdir hm g hg
      have : a.lock ≠ .unlocked := by
        rw [hlock]
        cases g <;> decide
      rw [if_neg this, hlock]
  · simp [hone hm]
  · simp [hone' hm]

theorem Aisle.anyGranted_iff (a : Aisle) : a.anyGranted = true ↔ ∃ d, ∃ e ∈ a.queues.get d, e.isGranted = true := by
  simp only [Aisle.anyGranted, List.any_append, Bool.or_eq_true, List.any_eq_true]
  constructor
  · rintro (h | h)
    · exact ⟨.entry, h⟩
    · exact ⟨.exit, h⟩
  · rintro ⟨d, h⟩
    cases d
    · exact .inl h
    · exact .inr h

/-- The same leaf over the same beams, with no grant more. -/
theorem Aisle.CloseSafe.mono {a b : Aisle} (h : a.CloseSafe) (hclose : b.closeStart = a.closeStart) (hleaf : b.leaf = a.leaf)
    (hclear : a.clear = true → b.clear = true) (hgrant : b.anyGranted = true → a.anyGranted = true) : b.CloseSafe := by
  refine ⟨fun hs => ?_, fun hl => hclear (h.2 (hleaf ▸ hl))⟩
  obtain ⟨ho, hg, hc⟩ := h.1 (hclose ▸ hs)
  refine ⟨hleaf.trans ho, ?_, hclear hc⟩
  by_contra hb
  simp [hgrant (by simpa using hb)] at hg

theorem Aisle.refreshClose_closeSafe {a : Aisle} (t : Word) (h : a.leaf = .closing → a.clear = true) :
    (a.refreshClose t).CloseSafe := by
  unfold Aisle.refreshClose
  split
  · rename_i hc
    exact ⟨fun _ => hc, fun _ => hc.2.2⟩
  · exact ⟨fun hs => by simp at hs, h⟩

theorem Aisle.reachOpen_closeSafe (a : Aisle) (now : Word) : (a.reachOpen now).CloseSafe :=
  Aisle.refreshClose_closeSafe now fun h => by simp at h

theorem Aisle.startOpening_closeSafe (a : Aisle) (now : Word) : (a.startOpening now).CloseSafe := by
  unfold Aisle.startOpening
  split
  · exact a.reachOpen_closeSafe now
  · exact ⟨fun h => by simp at h, fun h => by simp at h⟩

theorem Aisle.reachClosed_closeSafe (a : Aisle) (now : Word) : (a.reachClosed now).CloseSafe := by
  unfold Aisle.reachClosed
  simp only
  split
  · exact Aisle.startOpening_closeSafe _ now
  · exact ⟨fun h => by simp at h, fun h => by simp at h⟩

theorem Aisle.startClosing_closeSafe {a : Aisle} (now : Word) (h : a.clear = true) : (a.startClosing now).CloseSafe := by
  unfold Aisle.startClosing
  split
  · exact a.reachClosed_closeSafe now
  · exact ⟨fun hs => by simp at hs, fun _ => h⟩

theorem Aisle.setFree_closeSafe (a : Aisle) : a.setFree.CloseSafe :=
  ⟨fun h => by simp [Aisle.setFree] at h, fun h => by simp [Aisle.setFree] at h⟩

theorem Aisle.jam_closeSafe (a : Aisle) : a.jam.CloseSafe :=
  ⟨fun h => by simp [Aisle.jam] at h, fun h => by simp [Aisle.jam] at h⟩

theorem Aisle.leaveFree_closeSafe (a : Aisle) (now : Word) : (a.leaveFree now).CloseSafe := by
  unfold Aisle.leaveFree
  split
  · exact Aisle.startClosing_closeSafe now ‹_›
  · exact a.startOpening_closeSafe now

/-! ### What the moves of the leaf leave of the aisle -/

@[simp] theorem Aisle.refreshClose_keeps (a : Aisle) (t : Word) :
    (a.refreshClose t).queues = a.queues ∧ (a.refreshClose t).mode = a.mode ∧ (a.refreshClose t).lock = a.lock ∧
    (a.refreshClose t).beams = a.beams ∧ (a.refreshClose t).leaf = a.leaf := by
  unfold Aisle.refreshClose
  split <;> simp

@[simp] theorem Aisle.reachOpen_keeps (a : Aisle) (t : Word) :
    (a.reachOpen t).queues = a.queues ∧ (a.reachOpen t).mode = a.mode ∧ (a.reachOpen t).lock = a.lock ∧
    (a.reachOpen t).beams = a.beams ∧ (a.reachOpen t).leaf = .opened := by
  simp [Aisle.reachOpen]

@[simp] theorem Aisle.startOpening_keeps (a : Aisle) (t : Word) :
    (a.startOpening t).queues = a.queues ∧ (a.startOpening t).mode = a.mode ∧ (a.startOpening t).lock = a.lock ∧
    (a.startOpening t).beams = a.beams ∧ (a.startOpening t).leaf ≠ .free ∧ (a.startOpening t).leaf ≠ .closing := by
  unfold Aisle.startOpening
  split <;> simp

@[simp] theorem Aisle.reachClosed_keeps (a : Aisle) (t : Word) :
    (a.reachClosed t).queues = a.queues ∧ (a.reachClosed t).mode = a.mode ∧ (a.reachClosed t).lock = a.lock ∧
    (a.reachClosed t).beams = a.beams ∧ (a.reachClosed t).leaf ≠ .free := by
  unfold Aisle.reachClosed
  simp only
  split <;> simp

@[simp] theorem Aisle.startClosing_keeps (a : Aisle) (t : Word) :
    (a.startClosing t).queues = a.queues ∧ (a.startClosing t).mode = a.mode ∧ (a.startClosing t).lock = a.lock ∧
    (a.startClosing t).beams = a.beams ∧ (a.startClosing t).leaf ≠ .free := by
  unfold Aisle.startClosing
  split <;> simp

@[simp] theorem Aisle.leaveFree_keeps (a : Aisle) (t : Word) :
    (a.leaveFree t).queues = a.queues ∧ (a.leaveFree t).mode = a.mode ∧ (a.leaveFree t).lock = a.lock ∧
    (a.leaveFree t).beams = a.beams ∧ (a.leaveFree t).leaf ≠ .free := by
  unfold Aisle.leaveFree
  split <;> simp

@[simp] theorem Aisle.checkLock_keeps (a : Aisle) :
    a.checkLock.queues = a.queues ∧ a.checkLock.mode = a.mode ∧ a.checkLock.beams = a.beams ∧ a.checkLock.leaf = a.leaf ∧
    a.checkLock.closeStart = a.closeStart := by
  unfold Aisle.checkLock
  split <;> simp

theorem Aisle.clear_iff (a : Aisle) : a.clear = true ↔ ∀ b, (a.beams.get b).countsBlocked = false := by
  simp only [Aisle.clear, Bool.not_eq_true', Bool.or_eq_false_iff]
  constructor
  · rintro ⟨⟨⟨h1, h2⟩, h3⟩, h4⟩ b
    cases b <;> assumption
  · exact fun h => ⟨⟨⟨h .beam1, h .beam2⟩, h .beam3⟩, h .beam4⟩

/-- While a beam counts as blocked, no close delay runs and the leaf is not CLOSING, so that the leaf may be left as it is. -/
theorem Aisle.CloseSafe.of_blocked {a b : Aisle} (h : a.CloseSafe) {x : Beam} (hx : (a.beams.get x).countsBlocked = true)
    (hclose : b.closeStart = a.closeStart) (hleaf : b.leaf = a.leaf) : b.CloseSafe := by
  have hnot : ¬ a.clear = true := fun hc => by simp [(a.clear_iff.mp hc) x] at hx
  exact ⟨fun hs => absurd (h.1 (hclose ▸ hs)).2.2 hnot, fun hl => absurd (h.2 (hleaf ▸ hl)) hnot⟩

theorem Aisle.clear_of_beams {a b : Aisle} (h : b.beams = a.beams) : b.clear = a.clear := by rw [Aisle.clear, Aisle.clear, h]

theorem Aisle.anyGranted_of_queues {a b : Aisle} (h : b.queues = a.queues) : b.anyGranted = a.anyGranted := by
  rw [Aisle.anyGranted, Aisle.anyGranted, h]

/-- The order of the queues is read off the queues, the mode and the lock. -/
theorem Aisle.Ordered.of_eq {a b : Aisle} (h : a.Ordered) (hq : b.queues = a.queues) (hmode : b.mode = a.mode)
    (hlock : b.lock = a.lock) : b.Ordered := h.shrink hmode hlock fun d => by rw [hq]

end Sys2Proof.Machine
end

section
/-! SUPPORT. What an operation does to everything the invariants read: `Fits` keeps the bounds, `Kept` also lets the journal only grow,
and `Calm` also leaves the service state, the faults and the leaf's being FREE as they were. One lemma for each operation. -/

namespace Sys2Proof.Machine

-- One declaration at a time: each waiting elaboration thread counts against the memory limit of the one text.
set_option Elab.async false

/-- The queue of commands stands, and what was within its bounds still is. -/
structure Fits (s t : State) : Prop where
  pending : t.pending = s.pending := by simp
  link : LinkFit s.link → LinkFit t.link := by simp
  misses : MissesFit s.faces → MissesFit t.faces := by simp
  released : ReleasedFit s.fare.released → ReleasedFit t.fare.released := by simp
  policies : PoliciesFit s.check.policies → PoliciesFit t.check.policies := by simp
  sightings : SightingsFit s.sightings → SightingsFit t.sightings := by simp
  hotlist : HotlistFit s.hotlist → HotlistFit t.hotlist := by simp
  sequences : JournalFit s.journal → JournalFit t.journal := by simp
  ring : s.ring.queue.length ≤ ringQueueSize → t.ring.queue.length ≤ ringQueueSize := by simp
  queues : s.aisle.Ordered → t.aisle.Ordered := by simp
  clock : ClockFit s.service.clock → ClockFit t.service.clock := by simp

/-- Also, the records held stay at the head of the journal. -/
structure Kept (s t : State) : Prop extends Fits s t where
  records : s.journal.records <+: t.journal.records := by simp

/-- Also, the service state stands, a fault held in LOCKDOWN too, a leaf that is FREE stays so and no other becomes FREE, and the close
delay and a CLOSING leaf keep their clear aisle. -/
structure Quiet (s t : State) : Prop extends Kept s t where
  state : t.service.state = s.service.state := by simp
  slot : s.service.state = .lockdown → s.service.faultSlot.isSome = true → t.service.faultSlot.isSome = true := by simp
  leafFree : t.aisle.leaf = .free ↔ s.aisle.leaf = .free := by simp
  closing : s.aisle.CloseSafe → t.aisle.CloseSafe := by simp

/-- Also, of the service unit only the attention flags change. -/
structure Calm (s t : State) : Prop extends Quiet s t where
  service : t.service = { s.service with flags := t.service.flags } := by simp

theorem Fits.refl (s : State) : Fits s s := {}
theorem Kept.refl (s : State) : Kept s s := {}
theorem Quiet.refl (s : State) : Quiet s s := {}
theorem Calm.refl (s : State) : Calm s s := {}

theorem Fits.trans {s t u : State} (h : Fits s t) (g : Fits t u) : Fits s u where
  pending := g.pending.trans h.pending
  link := g.link ∘ h.link
  misses := g.misses ∘ h.misses
  released := g.released ∘ h.released
  policies := g.policies ∘ h.policies
  sightings := g.sightings ∘ h.sightings
  hotlist := g.hotlist ∘ h.hotlist
  sequences := g.sequences ∘ h.sequences
  ring := g.ring ∘ h.ring
  queues := g.queues ∘ h.queues
  clock := g.clock ∘ h.clock

theorem Kept.trans {s t u : State} (h : Kept s t) (g : Kept t u) : Kept s u where
  toFits := h.toFits.trans g.toFits
  records := h.records.trans g.records

theorem Quiet.trans {s t u : State} (h : Quiet s t) (g : Quiet t u) : Quiet s u where
  toKept := h.toKept.trans g.toKept
  state := g.state.trans h.state
  slot hl hs := g.slot (h.state.trans hl) (h.slot hl hs)
  leafFree := g.leafFree.trans h.leafFree
  closing := g.closing ∘ h.closing

theorem Calm.trans {s t u : State} (h : Calm s t) (g : Calm t u) : Calm s u where
  toQuiet := h.toQuiet.trans g.toQuiet
  service := by rw [g.service, h.service]

/-- The last of two operations first: what it starts from is then known. -/
theorem Calm.after {s t u : State} (g : Calm t u) (h : Calm s t) : Calm s u := h.trans g

theorem Calm.foldl {α : Type} {g : State → α → State} (h : ∀ t x, Calm t (g t x)) (l : List α) (s : State) :
    Calm s (l.foldl g s) := by
  induction l generalizing s with
  | nil => exact Calm.refl s
  | cons x xs ih => exact (h s x).trans (ih _)

theorem Calm.faultSlot {s t : State} (h : Calm s t) : t.service.faultSlot = s.service.faultSlot := by rw [h.service]

/-! ### Flags, free values, contexts, faces -/

theorem State.raise_calm (s : State) (g : Flag) : Calm s (s.raise g) := {}
theorem State.drew_calm (s : State) (n : Nat) : Calm s (s.drew n) := {}
theorem State.setContext_calm (s : State) (f : Face) (c : Context) : Calm s (s.setContext f c) := {}

theorem State.setFace_calm (s : State) (f : Face) {u : FaceUnit}
    (h : (s.face f).missCount ≤ 3 → u.missCount ≤ 3 := by exact id) :
    Calm s (s.setFace f u) where
  misses hm := hm.set (h (hm.get f))

theorem State.noteHolders_calm (s : State) (n : CardNumber) (x : Note) : Calm s (s.noteHolders n x) := {}
theorem State.ask_calm (s : State) (f : Face) (c : CardCommand) : Calm s (s.ask f c) := s.setFace_calm f
theorem State.closeExchange_calm (s : State) (f : Face) : Calm s (s.closeExchange f) := s.setFace_calm f

theorem State.responded_calm (s : State) (f : Face) : Calm s (s.responded f) := by
  unfold State.responded
  split
  · exact Calm.refl s
  · exact s.setFace_calm f fun _ => by simp [FaceUnit.responded]

/-! ### The journal -/

theorem JournalFit.append {j : Journal} (h : JournalFit j) {r : Record} (hr : r.sequence = j.next) :
    JournalFit { records := j.records ++ [r], next := nextSequence j.next } := by
  refine ⟨nextSequence_ne_zero _, fun x hx => ?_⟩
  rcases List.mem_append.mp hx with hx | hx
  · exact h.2 x hx
  · rw [List.mem_singleton.mp hx, hr]
    exact h.1

theorem State.append_calm (s : State) (k : RecordKind) (x : Stamp) (f : Face) (y : RecordFields) :
    Calm s (s.append k x f y) := by
  unfold State.append
  simp only
  split
  · exact { sequences := fun h => h.append rfl, records := by simp }
  · exact { sequences := fun h => h.append rfl, records := by simp }

theorem State.appendSpare_calm (s : State) (k : RecordKind) (f : Face) (y : RecordFields) : Calm s (s.appendSpare k f y) := by
  unfold State.appendSpare
  split
  · exact s.append_calm _ _ _ _
  · exact Calm.refl s

/-! ### A change of the aisle alone -/

theorem State.setAisle_calm (s : State) {a : Aisle} (hq : s.aisle.Ordered → a.Ordered)
    (hl : a.leaf = .free ↔ s.aisle.leaf = .free) (hc : s.aisle.CloseSafe → a.CloseSafe) : Calm s (s.setAisle a) where
  queues := hq
  leafFree := hl
  closing := hc

/-- What touches neither queues nor lock, mode, beams, leaf or close delay. -/
theorem State.setAisle_calm_of_eq (s : State) {a : Aisle} (hq : a.queues = s.aisle.queues := by rfl)
    (hmode : a.mode = s.aisle.mode := by rfl) (hlock : a.lock = s.aisle.lock := by rfl)
    (hclear : a.clear = s.aisle.clear := by rfl) (hleaf : a.leaf = s.aisle.leaf := by rfl)
    (hclose : a.closeStart = s.aisle.closeStart := by rfl) : Calm s (s.setAisle a) :=
  s.setAisle_calm (fun h => h.of_eq hq hmode hlock) (by rw [hleaf]) fun h =>
    h.mono hclose hleaf (hclear.trans ·) (Aisle.anyGranted_of_queues hq).le

/-- One direction's queue becomes no longer, with no grant more. -/
theorem State.setQueue_calm (s : State) (d : Direction) {q : List QueueEntry} (r : Option Run)
    (hlen : q.length ≤ (s.aisle.queues.get d).length)
    (hg : ∀ e ∈ q, e.isGranted = true → ∃ x ∈ s.aisle.queues.get d, x.isGranted = true) :
    Calm s (s.setAisle { s.aisle with queues := s.aisle.queues.set d q, run := r }) := by
  refine s.setAisle_calm (fun h => h.shrink rfl rfl (PerDirection.length_set_le hlen)) Iff.rfl fun h =>
    h.mono rfl rfl id fun hb => ?_
  rw [Aisle.anyGranted_iff] at hb ⊢
  obtain ⟨g, e, he, hge⟩ := hb
  by_cases hgd : g = d
  · rw [hgd, PerDirection.get_set] at he
    exact ⟨d, hg e he hge⟩
  · rw [PerDirection.get_set_ne _ _ hgd] at he
    exact ⟨g, e, he, hge⟩

theorem State.setQueue_calm_of_sublist (s : State) (d : Direction) {q : List QueueEntry} (r : Option Run)
    (h : q.Sublist (s.aisle.queues.get d)) :
    Calm s (s.setAisle { s.aisle with queues := s.aisle.queues.set d q, run := r }) :=
  s.setQueue_calm d r h.length_le fun e he hg => ⟨e, h.subset he, hg⟩

theorem State.checkLock_calm (s : State) : Calm s s.checkLock :=
  s.setAisle_calm Aisle.Ordered.checkLock (by simp) fun h =>
    h.mono (by simp) (by simp) ((Aisle.clear_of_beams (by simp)).trans ·) (Aisle.anyGranted_of_queues (b := s.aisle.checkLock) (by simp)).le

theorem State.refreshClose_calm (s : State) (t : Word) : Calm s (s.setAisle (s.aisle.refreshClose t)) :=
  s.setAisle_calm (fun h => h.of_eq (by simp) (by simp) (by simp)) (by simp) fun h =>
    Aisle.refreshClose_closeSafe t h.2

theorem State.count_calm (s : State) (d : Direction) (g : PassageCounters → PassageCounters) : Calm s (s.count d g) :=
  s.setAisle_calm_of_eq

theorem State.askTone_calm (s : State) (f : Face) (t : ShortTone) : Calm s (s.askTone f t) := by
  unfold State.askTone
  split
  · exact Calm.refl s
  · exact s.setAisle_calm_of_eq

theorem State.startWatchAlarm_calm (s : State) : Calm s s.startWatchAlarm := s.setAisle_calm_of_eq

/-! ### Reservations and grants -/

theorem State.dropReserved_calm (s : State) (f : Face) : Calm s (s.dropReserved f) :=
  (s.setQueue_calm_of_sublist f.direction s.aisle.run List.eraseP_sublist).trans (State.checkLock_calm _)

theorem State.dropReservation_calm (s : State) (f : Face) : Calm s (s.dropReservation f) := by
  unfold State.dropReservation
  split
  · exact (s.dropReserved_calm f).trans (State.setContext_calm _ _ _)
  · exact Calm.refl s

theorem State.removeReservation_calm (s : State) (f : Face) : Calm s (s.removeReservation f) := by
  unfold State.removeReservation
  split
  · exact (s.dropReserved_calm f).trans (State.setContext_calm _ _ _)
  · exact Calm.refl s

theorem State.reserve_calm (s : State) (f : Face) (h : s.aisle.refuses f.direction = none) : Calm s (s.reserve f) := by
  refine Calm.trans (s.setAisle_calm (fun ho => ho.reserve h _) Iff.rfl fun hc => hc.mono rfl rfl id fun hb => ?_)
    (State.setContext_calm _ _ _)
  rw [Aisle.anyGranted_iff] at hb ⊢
  obtain ⟨g, e, he, hge⟩ := hb
  by_cases hgd : g = f.direction
  · subst hgd
    rw [PerDirection.get_set, List.mem_append, List.mem_singleton] at he
    rcases he with he | rfl
    · exact ⟨_, e, he, hge⟩
    · simp [QueueEntry.isGranted] at hge
  · rw [PerDirection.get_set_ne _ _ hgd] at he
    exact ⟨g, e, he, hge⟩

theorem State.grant_calm (s : State) (f : Face) (q : Word) : Calm s (s.grant f q) := by
  unfold State.grant
  split
  case isFalse => exact Calm.refl s
  case isTrue =>
    refine Calm.trans (s.setAisle_calm (fun h => ?ordered) ?free fun h => ?closing) (State.count_calm _ _ _)
    case ordered =>
      refine h.shrink ?_ ?_ fun d => ?_
      · split <;> simp
      · split <;> simp
      · split <;>
        · simp only [Aisle.startOpening_keeps, Aisle.refreshClose_keeps]
          exact PerDirection.length_set_le (le_of_eq (length_updateFirst _ _ _)) d
    case free =>
      split
      · rename_i hl
        have hl : s.aisle.leaf ≠ .free := by rcases hl with hl | hl <;> simp_all
        simp [hl]
      · simp
    case closing =>
      split
      · exact Aisle.startOpening_closeSafe _ _
      · exact Aisle.refreshClose_closeSafe _ h.2

theorem State.recordPassage_calm (s : State) (o : PassageOutcome) (e : QueueEntry) : Calm s (s.recordPassage o e) :=
  s.append_calm _ _ _ _

theorem State.cancelGrants_calm (s : State) : Calm s s.cancelGrants := by
  refine (Calm.foldl (fun t e => t.recordPassage_calm _ e) _ _).after
    (s.setAisle_calm (fun h => h.shrink rfl rfl fun d => ?_) Iff.rfl fun h => h.mono rfl rfl id fun hb => ?_)
  · cases d
    · exact List.length_filter_le _ _
    · exact List.length_filter_le _ _
  · obtain ⟨d, e, he, hg⟩ := (Aisle.anyGranted_iff _).mp hb
    cases d <;> simp [PerDirection.get, List.mem_filter, hg] at he

theorem State.recordExpired_calm (s : State) (d : Direction) (e : QueueEntry) : Calm s (s.recordExpired d e) :=
  (s.recordPassage_calm _ e).trans (State.count_calm _ _ _)

/-! ### Crossings and runs -/

theorem State.passageAlarm_calm (s : State) (r : Run) (o : PassageOutcome) : Calm s (s.passageAlarm r o) :=
  (State.appendSpare_calm _ _ _ _).after ((State.setAisle_calm_of_eq _).after
    ((State.raise_calm _ _).after (s.count_calm _ _)))

theorem State.consume_calm (s : State) (r : Run) (d : Direction) (e : QueueEntry) : Calm s (s.consume r d e) :=
  (State.checkLock_calm _).after ((State.count_calm _ _ _).after ((State.recordPassage_calm _ _ e).after
    (s.setQueue_calm_of_sublist d _ List.eraseP_sublist)))

theorem State.classify_calm (s : State) (r : Run) : Calm s (s.classify r) := by
  unfold State.classify
  split
  · split
    · exact s.passageAlarm_calm r _
    · split
      · exact s.consume_calm r _ _
      · exact s.passageAlarm_calm r _
    · split
      · exact s.consume_calm r _ _
      · exact s.passageAlarm_calm r _
  · exact Calm.refl s

theorem State.withdrawRun_calm (s : State) (r : Run) : Calm s (s.withdrawRun r) := by
  unfold State.withdrawRun
  split
  · exact s.count_calm _ _
  · exact Calm.refl s

theorem State.expireDeferred_calm (s : State) (d : Direction) : Calm s (s.expireDeferred d) :=
  (Calm.foldl (fun t e => t.recordExpired_calm d e) _ _).after (s.setQueue_calm_of_sublist d s.aisle.run List.filter_sublist)

theorem State.endRun_calm (s : State) (t : Word) : Calm s (s.endRun t) := by
  unfold State.endRun
  split
  · exact Calm.refl s
  · rename_i r _
    refine (State.refreshClose_calm _ t).after ((State.checkLock_calm _).after ((State.setAisle_calm_of_eq _).after ?_))
    have alarm : Calm s (if r.alarmed then
        (s.withdrawRun r).setAisle { (s.withdrawRun r).aisle with passageAlarm := .since t } else s.withdrawRun r) := by
      split
      · exact (State.setAisle_calm_of_eq _).after (s.withdrawRun_calm r)
      · exact s.withdrawRun_calm r
    split
    · exact (State.expireDeferred_calm _ _).after alarm
    · exact (State.expireDeferred_calm _ _).after alarm
    · exact alarm

theorem State.beamBlocked_calm (s : State) (b : Beam) (t : Word) : Calm s (s.beamBlocked b t) := by
  have placed (a : Aisle) (hq : a.queues = s.aisle.queues) (hmode : a.mode = s.aisle.mode) (hlock : a.lock = s.aisle.lock)
      (hleaf : a.leaf = s.aisle.leaf) (v : State) (hv : Calm (s.setAisle a) v) :
      Calm s (v.setAisle (if v.aisle.leaf = .closing then v.aisle.startOpening v.now else v.aisle.refreshClose v.now)) := by
    have hkept : Kept s v := Kept.trans { queues := fun h => h.of_eq hq hmode hlock } hv.toKept
    have hfree : v.aisle.leaf = .free ↔ s.aisle.leaf = .free := hv.leafFree.trans (by rw [State.setAisle_aisle, hleaf])
    have hlast : Kept v (v.setAisle (if v.aisle.leaf = .closing then v.aisle.startOpening v.now
        else v.aisle.refreshClose v.now)) :=
      { queues := fun h => by split <;> exact h.of_eq (by simp) (by simp) (by simp) }
    refine { toKept := hkept.trans hlast, state := hv.state, service := hv.service, leafFree := ?_, closing := fun _ => ?_
             slot := fun _ h => by rw [State.setAisle_service, hv.service]; exact h }
    · rw [← hfree, State.setAisle_aisle]
      split
      · rename_i hl
        simp [hl]
      · simp
    · rw [State.setAisle_aisle]
      split
      · exact Aisle.startOpening_closeSafe _ _
      · exact Aisle.refreshClose_closeSafe _ fun hl => absurd hl ‹_›
  unfold State.beamBlocked
  simp only
  generalize (if s.aisle.clear = true then _ else s.aisle.run : Option Run) = run
  cases run with
  | none => exact placed _ (by rfl) (by rfl) (by rfl) (by rfl) _ (Calm.refl _)
  | some r =>
    simp only
    split
    · exact placed _ (by rfl) (by rfl) (by rfl) (by rfl) _ (State.classify_calm _ _)
    · exact placed _ (by rfl) (by rfl) (by rfl) (by rfl) _ (Calm.refl _)

theorem State.beamCleared_calm (s : State) {b : Beam} (t : Word) (hb : (s.aisle.beams.get b).countsBlocked = true) :
    Calm s (s.beamCleared b t) := by
  have cleared (a : Aisle) (hq : a.queues = s.aisle.queues) (hmode : a.mode = s.aisle.mode) (hlock : a.lock = s.aisle.lock)
      (hleaf : a.leaf = s.aisle.leaf) (hclose : a.closeStart = s.aisle.closeStart) : Calm s (s.setAisle a) :=
    s.setAisle_calm (fun h => h.of_eq hq hmode hlock) (by rw [hleaf]) fun h => h.of_blocked hb hclose hleaf
  unfold State.beamCleared
  simp only
  split
  · exact (State.endRun_calm _ t).after (cleared _ (by rfl) (by rfl) (by rfl) (by rfl) (by rfl))
  · exact cleared _ (by rfl) (by rfl) (by rfl) (by rfl) (by rfl)

theorem PerBeam.get_set_eq {α : Type} (p : PerBeam α) (b c : Beam) (x : α) :
    (p.set b x).get c = if c = b then x else p.get c := by
  split
  · rename_i h
    rw [h, PerBeam.get_set]
  · exact PerBeam.get_set_ne p x ‹_›

theorem State.unstick_calm (s : State) (b : Beam) : Calm s (s.unstick b) :=
  s.setAisle_calm (fun h => h.of_eq rfl rfl rfl) Iff.rfl fun h => h.mono rfl rfl (fun hc => by
    rw [Aisle.clear_iff] at hc ⊢
    intro c
    rw [PerBeam.get_set_eq]
    split
    · simp [BeamInput.countsBlocked]
    · exact hc c) id

/-! ### Face and context -/

theorem State.cardRemoved_calm (s : State) (f : Face) : Calm s (s.cardRemoved f) := by
  unfold State.cardRemoved
  split
  · exact s.setContext_calm f _
  · exact Calm.refl s

theorem State.fieldOnRequest_calm (s : State) (f : Face) (b : Bool) : Calm s (s.fieldOnRequest f b) := by
  have settle := s.setFace_calm f (u := (s.face f).startSettling s.now) fun _ => by simp [FaceUnit.startSettling]
  unfold State.fieldOnRequest
  simp only
  split
  · exact settle
  · split
    · exact settle
    · exact Calm.refl s
  · exact s.setFace_calm f
  all_goals exact Calm.refl s

theorem State.turnOff_calm (s : State) (f : Face) : Calm s (s.setFace f (s.face f).turnOff) := s.setFace_calm f

theorem State.fieldOffRequest_calm (s : State) (f : Face) : Calm s (s.fieldOffRequest f) := by
  unfold State.fieldOffRequest
  simp only
  split
  · exact s.turnOff_calm f
  · exact s.turnOff_calm f
  · exact (s.turnOff_calm f).trans (State.cardRemoved_calm _ f)
  · exact s.setFace_calm f
  all_goals exact Calm.refl s

theorem State.leaveServing_calm (s : State) (f : Face) : Calm s (s.leaveServing f) := by
  unfold State.leaveServing
  simp only
  split
  · split
    · exact (s.turnOff_calm f).trans (State.cardRemoved_calm _ f)
    · split
      · exact s.setFace_calm f
      · exact s.setFace_calm f
  · exact s.closeExchange_calm f

theorem State.conclude_calm (s : State) (f : Face) (st : CtxState) (i : Indication) (t : Option ShortTone) :
    Calm s (s.conclude f st i t) := by
  unfold State.conclude
  simp only
  refine (State.leaveServing_calm _ f).after ?_
  split
  · exact (State.askTone_calm _ _ _).after (s.setContext_calm f _)
  · exact s.setContext_calm f _

theorem State.pollCollision_calm (s : State) (f : Face) : Calm s (s.pollCollision f) := by
  unfold State.pollCollision
  simp only
  split
  · exact (State.askTone_calm _ _ _).after (s.setFace_calm f)
  · exact s.setFace_calm f

theorem State.pollAnswered_calm (s : State) (f : Face) : Calm s (s.pollAnswered f) := by
  unfold State.pollAnswered
  simp only
  split
  · exact (State.ask_calm _ _ _).after ((State.setContext_calm _ _ _).after (s.setFace_calm f))
  · exact s.setFace_calm f

/-! ### The sightings -/

theorem State.setSightings_calm (s : State) {l : List SightingEntry} (h : SightingsFit s.sightings → SightingsFit l) :
    Calm s { s with sightings := l } where
  sightings := h

theorem State.setContext_setSightings_calm (s : State) (f : Face) (c : Context) {l : List SightingEntry}
    (h : SightingsFit s.sightings → SightingsFit l) : Calm s { s.setContext f c with sightings := l } where
  sightings := h

theorem State.setOwnHold_calm (s : State) (f : Face) : Calm s (s.setOwnHold f) := by
  unfold State.setOwnHold
  simp only
  split
  · exact s.setContext_calm f _
  · rename_i e l hfind
    have taken (c : Context) (x : SightingEntry) (hx : x.number = e.number) :
        Calm s { s.setContext f c with sightings := touchSighting l x } :=
      s.setContext_setSightings_calm f c fun h => touchSighting_findOrCreate_fit h hfind hx
    split
    · split
      · exact s.setContext_calm f _
      · exact (State.setContext_calm _ _ _).after (s.setContext_calm f _)
    · split
      · exact taken _ _ (by rfl)
      · exact taken _ _ (by rfl)
    · exact taken _ _ (by rfl)

theorem SightingEntry.endOwn_number (e : SightingEntry) (now : Word) : (e.endOwn now).number = e.number := by
  unfold SightingEntry.endOwn
  split
  · simp only
    split <;> rfl
  · rfl

theorem State.releaseOwnHold_calm (s : State) (f : Face) : Calm s (s.releaseOwnHold f) := by
  unfold State.releaseOwnHold
  simp only
  split
  · split
    · rename_i e hfind
      split
      · split
        · exact s.setContext_setSightings_calm f _ fun h => touchSighting_findSighting_fit h hfind (by rfl)
        · exact s.setContext_setSightings_calm f _ fun h => touchSighting_findSighting_fit h hfind (e.endOwn_number _)
      · exact s.setContext_calm f _
    · exact s.setContext_calm f _
  · exact s.setContext_calm f _

theorem State.recordSighting_calm (s : State) (n : CardNumber) (x : Sighting) : Calm s (s.recordSighting n x) := by
  unfold State.recordSighting
  split
  · rename_i e l hfind
    exact s.setSightings_calm fun h => touchSighting_findOrCreate_fit h hfind rfl
  · exact Calm.refl s

/-! ### The ring -/

theorem State.send_calm (s : State) (m : RingMessage) : Calm s (s.send m) := by
  unfold State.send
  split
  · rename_i hroom
    have hroom : s.ring.queue.length < ringQueueSize := by simpa [State.ringRoom] using hroom
    exact { ring := fun _ => by simpa using hroom }
  · exact Calm.refl s

/-- A change of the ring that leaves the queue as it was. -/
theorem State.setRing_calm (s : State) {r : Ring} (h : r.queue = s.ring.queue := by rfl) : Calm s (s.setRing r) where
  ring hq := by simpa [h] using hq

theorem State.sendCommitted_calm (s : State) (n : CardNumber) (x : Sighting) : Calm s (s.sendCommitted n x) := s.send_calm _

theorem State.sendDropped_calm (s : State) (f : Face) : Calm s (s.sendDropped f) := by
  unfold State.sendDropped
  split
  · exact s.send_calm _
  · exact Calm.refl s

theorem State.isolate_calm (s : State) : Calm s s.isolate := by
  unfold State.isolate
  split
  · exact (s.setRing_calm (r := { s.ring with state := .isolated, censusStart := some s.now }) rfl).trans (State.raise_calm _ _)
  · exact Calm.refl s

theorem State.sendCensus_calm (s : State) : Calm s s.sendCensus := (s.send_calm _).trans (State.setRing_calm _)

theorem State.censusHome_calm (s : State) (h : Byte) : Calm s (s.censusHome h) := by
  have home := s.setRing_calm (r := { s.ring with state := .up, size := h.toNat + 1, censusStart := none }) rfl
  unfold State.censusHome
  split
  · exact home.trans (State.raise_calm _ _)
  · exact home

/-! ### The hotlist and the watch unit -/

theorem State.localAdd_calm (s : State) (n : CardNumber) (b : Bool) : Calm s (s.localAdd n b) :=
  Calm.trans (t := { s with hotlist := s.hotlist.localAdd n b }) { hotlist := fun h => h.localAdd n b } (State.raise_calm _ _)

theorem State.endBlockMark_calm (s : State) (f : Face) : Calm s (s.endBlockMark f) := by
  unfold State.endBlockMark
  simp only
  split
  · exact { hotlist := fun h => h.mark _ _ }
  · exact Calm.refl s

theorem State.fillWatchSequence_calm (s : State) (f : Face) (q : Word) : Calm s (s.fillWatchSequence f q) := {}

theorem State.evaluateWatch_calm (s : State) (f : Face) (v : WatchValues) : Calm s (s.evaluateWatch f v).2 := by
  unfold State.evaluateWatch
  split
  · split
    · exact {}
    · have filled (w : Watch) (c : Context) : Calm s (({ s with watch := w }.raise .watch).setContext f c) := {}
      simp only
      split
      · exact filled _ _
      · exact filled _ _
      · exact (filled _ _).trans (State.startWatchAlarm_calm _)
  · exact Calm.refl s

end Sys2Proof.Machine
end

section
/-! SUPPORT. The tap transaction's operations are calm: whatever a tap does, the bounds stand, the journal only grows, and of the service
unit only the attention flags change. -/

namespace Sys2Proof.Machine

-- One declaration at a time: each waiting elaboration thread counts against the memory limit of the one text.
set_option Elab.async false

/-! ### Records and the ends of a transaction -/

theorem State.lateAlert_calm (s : State) (f : Face) (k : EvidenceKind) (q : Word) : Calm s (s.lateAlert f k q) :=
  (State.raise_calm _ _).after (s.appendSpare_calm _ _ _)

theorem State.closeRecord_calm (s : State) (f : Face) (o : TxOutcome) (x : RecordFields) (n : CtxState) :
    Calm s (s.closeRecord f o x n) := by
  have closed (c : Context) :
      Calm s (((s.append (.transaction o) s.stamp f x).fillWatchSequence f s.journal.next).setContext f c) :=
    (State.setContext_calm _ f c).after ((State.fillWatchSequence_calm _ f _).after (s.append_calm _ _ _ _))
  unfold State.closeRecord
  simp only
  split
  · exact (State.lateAlert_calm _ f _ _).after (closed _)
  · exact closed _

theorem State.cleanUp_calm (s : State) (f : Face) : Calm s (s.cleanUp f) :=
  (State.endBlockMark_calm _ f).after ((State.sendDropped_calm _ f).after ((State.releaseOwnHold_calm _ f).after
    (s.dropReservation_calm f)))

theorem State.endRefused_calm (s : State) (f : Face) (r : Reason) : Calm s (s.endRefused f r) := by
  unfold State.endRefused
  dsimp only
  exact (State.conclude_calm _ f _ _ _).after ((State.closeRecord_calm _ f _ _ _).after (s.cleanUp_calm f))

theorem State.endAbandoned_calm (s : State) (f : Face) : Calm s (s.endAbandoned f) := by
  unfold State.endAbandoned
  dsimp only
  exact (State.conclude_calm _ f _ _ _).after ((State.closeRecord_calm _ f _ _ _).after (s.cleanUp_calm f))

theorem State.refuseBefore_calm (s : State) (f : Face) : Calm s (s.refuseBefore f) := s.conclude_calm f _ _ _

theorem State.endFailed_calm (s : State) (f : Face) (r : Reason) : Calm s (s.endFailed f r) := s.endRefused_calm f _

theorem State.endLost_calm (s : State) (f : Face) : Calm s (s.endLost f) := by
  unfold State.endLost
  split
  · exact s.endRefused_calm f _
  · exact s.endAbandoned_calm f

/-! ### Evidence -/

theorem State.turnToBlock_calm (s : State) (f : Face) (k : EvidenceKind) : Calm s (s.turnToBlock f k).2 := by
  have alerted (n : CardNumber) (m : RingMessage) : Calm s ((s.localAdd n true).send m) :=
    (State.send_calm _ m).after (s.localAdd_calm n true)
  unfold State.turnToBlock
  simp only
  split
  · exact (State.setContext_calm _ f _).after (alerted _ _)
  · exact alerted _ _

theorem State.findEvidence_calm (s : State) (f : Face) (k : EvidenceKind) : Calm s (s.findEvidence f k).2 := by
  have found (c : Context) : Calm s ((s.raise .clone).setContext f c) := (State.setContext_calm _ f c).after (s.raise_calm _)
  unfold State.findEvidence
  simp only
  split
  · exact found _
  · exact found _
  · exact (State.turnToBlock_calm _ f k).after (found _)

theorem State.findAll_calm (s : State) (f : Face) (l : List EvidenceKind) : Calm s (s.findAll f l).2 := by
  induction l generalizing s with
  | nil => exact Calm.refl s
  | cons k ks ih =>
    have h := s.findEvidence_calm f k
    unfold State.findAll
    generalize s.findEvidence f k = x at h ⊢
    obtain ⟨v, t⟩ := x
    cases v with
    | carryOn => exact h.trans (ih t)
    | block => exact h
    | refused =>
      simp only
      split
      · exact h.trans (t.send_calm _)
      · exact h

/-! ### STAGE, DECIDING, the HOLD -/

theorem State.stagePoint_calm (s : State) (f : Face) (x : CardImage) : Calm s (s.stagePoint f x) := by
  unfold State.stagePoint
  split
  · exact (State.ask_calm _ f _).after (s.setContext_calm f _)
  · exact s.endFailed_calm f _

theorem State.blockStage_calm (s : State) (f : Face) : Calm s (s.blockStage f) := by
  unfold State.blockStage
  split
  · exact s.stagePoint_calm f _
  · exact s.endRefused_calm f _

theorem State.charge_calm (s : State) (f : Face) (c : CardImage) : Calm s (s.charge f c) := by
  unfold State.charge
  split
  · exact s.endRefused_calm f _
  · split
    · exact s.endRefused_calm f _
    · rename_i x _
      have h := (State.evaluateWatch_calm _ f (watchValues f c x)).after
        (s.setContext_calm f { s.context f with fare := some x })
      simp only
      generalize State.evaluateWatch _ f (watchValues f c x) = y at h ⊢
      obtain ⟨v, t⟩ := y
      cases v with
      | detain => exact h.trans (t.endRefused_calm f _)
      | proceed => exact h.trans (t.stagePoint_calm f _)

/-- What an evidence makes of DECIDING, whatever was found. -/
theorem State.deciding_calm (s : State) (f : Face) : Calm s (s.deciding f) := by
  unfold State.deciding
  simp only
  have h : Calm s (if (s.context f).claimed = true ∧ (s.context f).flagged.contains .concurrent = false then
      (s.setContext f { s.context f with state := .deciding, ringTimer := none, contested := false, notes := [] }).findEvidence
        f .concurrent
      else (.carryOn,
        s.setContext f { s.context f with state := .deciding, ringTimer := none, contested := false, notes := [] })).2 := by
    split
    · exact (State.findEvidence_calm _ f _).after (s.setContext_calm f _)
    · exact s.setContext_calm f _
  generalize (if (s.context f).claimed = true ∧ (s.context f).flagged.contains .concurrent = false then _ else _
    : Finding × State) = x at h ⊢
  obtain ⟨v, t⟩ := x
  cases v with
  | refused => exact h.trans (t.endRefused_calm f _)
  | block => exact h.trans (t.blockStage_calm f)
  | carryOn =>
    simp only
    split
    · exact h.trans (t.charge_calm f _)
    · exact h.trans (t.endRefused_calm f _)

theorem State.sendHold_calm (s : State) (f : Face) (h : Half) : Calm s (s.sendHold f h) := by
  unfold State.sendHold
  simp only
  split
  · exact (State.setContext_calm _ f _).after ((State.setRing_calm _).after (s.send_calm _))
  · exact (State.deciding_calm _ f).after (s.setContext_calm f _)

theorem State.checkSightings_calm (s : State) (f : Face) (c : CardImage) : Calm s (s.checkSightings f c) := by
  have h := s.findAll_calm f (s.sightingFindings f c)
  unfold State.checkSightings
  generalize s.findAll f (s.sightingFindings f c) = x at h ⊢
  obtain ⟨v, t⟩ := x
  cases v with
  | refused => exact h.trans (t.endRefused_calm f _)
  | block => exact h.trans (t.blockStage_calm f)
  | carryOn => exact h.trans (t.sendHold_calm f _)

theorem State.proofMatched_calm (s : State) (f : Face) : Calm s (s.proofMatched f) := by
  unfold State.proofMatched
  split
  · exact s.blockStage_calm f
  · split
    · exact s.checkSightings_calm f _
    · exact s.endRefused_calm f _

theorem State.proofFailed_calm (s : State) (f : Face) : Calm s (s.proofFailed f) := by
  unfold State.proofFailed
  split
  · exact (State.endRefused_calm _ f _).after (s.raise_calm _)
  · have h := s.findEvidence_calm f .forged
    generalize s.findEvidence f .forged = x at h ⊢
    obtain ⟨v, t⟩ := x
    cases v with
    | carryOn =>
      simp only
      split
      · exact h.trans (t.checkSightings_calm f _)
      · exact h.trans (t.endRefused_calm f _)
    | refused => exact h.trans (t.endRefused_calm f _)
    | block => exact h.trans (t.endRefused_calm f _)

/-! ### Admission -/

theorem State.nameEvidence_calm (s : State) (f : Face) (x : CardStatus) : Calm s (s.nameEvidence f x).2 := by
  have h : Calm s (if x = .blocked then s.findEvidence f .blocked else (.carryOn, s)).2 := by
    split
    · exact s.findEvidence_calm f _
    · exact Calm.refl s
  unfold State.nameEvidence
  generalize (if x = .blocked then s.findEvidence f .blocked else (.carryOn, s) : Finding × State) = y at h ⊢
  obtain ⟨v, t⟩ := y
  cases v with
  | carryOn =>
    simp only
    split
    · exact h.trans (t.findEvidence_calm f _)
    · exact h
  | refused => exact h
  | block => exact h

theorem State.startReading_calm (s : State) (f : Face) : Calm s (s.startReading f) :=
  (State.ask_calm _ f _).after (s.setContext_calm f _)

theorem State.nameChecks_calm (s : State) (f : Face) (a : NameAnswer) : Calm s (s.nameChecks f a) := by
  unfold State.nameChecks
  split
  · exact s.endRefused_calm f _
  · rename_i slot _
    split
    · exact s.endRefused_calm f _
    · exact s.endRefused_calm f _
    · have h := (State.nameEvidence_calm _ f a.status).after (s.setContext_calm f { s.context f with key := some slot.key })
      generalize State.nameEvidence _ f a.status = y at h ⊢
      obtain ⟨v, t⟩ := y
      cases v with
      | refused => exact h.trans (t.endRefused_calm f _)
      | carryOn => exact h.trans (t.startReading_calm f)
      | block => exact h.trans (t.startReading_calm f)

theorem State.admitCard_calm (s : State) (f : Face) (a : NameAnswer) : Calm s (s.admitCard f a) := by
  unfold State.admitCard
  simp only
  split
  · exact (State.endRefused_calm _ f _).after (s.setContext_calm f _)
  · rename_i h
    exact (State.nameChecks_calm _ f a).after ((State.reserve_calm _ f h).after (s.setContext_calm f _))

/-! ### The tear table, the commit, and what a write leaves -/

theorem State.setTears_calm (s : State) (l : List TearEntry) : Calm s { s with tears := l } := {}

theorem State.dropTear_calm (s : State) (n : CardNumber) : Calm s (s.dropTear n) := s.setTears_calm _

theorem State.resolveTear_calm (s : State) (o : TearOutcome) (e : TearEntry) (c : Option Half) : Calm s (s.resolveTear o e c) :=
  (State.append_calm _ _ _ _ _).after (s.dropTear_calm _)

theorem State.tearRoom_calm (s : State) : Calm s s.tearRoom := by
  unfold State.tearRoom
  split
  · exact Calm.refl s
  · split
    · exact (State.raise_calm _ _).after ((State.resolveTear_calm _ _ _ _).after (s.drew_calm 1))
    · exact Calm.refl s

theorem State.makePending_calm (s : State) (f : Face) {t : State} (h : s.makePending f = some t) : Calm s t := by
  unfold State.makePending at h
  simp only at h
  split at h
  · split at h
    · cases h
    · cases h
      exact (State.setTears_calm _ _).after (s.resolveTear_calm _ _ _)
  · cases h
    exact (State.setTears_calm _ _).after s.tearRoom_calm

theorem State.commit_calm (s : State) (f : Face) : Calm s (s.commit f) := by
  unfold State.commit
  split
  · rename_i t h
    exact (State.ask_calm _ f _).after ((State.setContext_calm _ f _).after (s.makePending_calm f h))
  · simp only
    split
    · exact s.endRefused_calm f _
    · exact (State.endRefused_calm _ f _).after ((State.setContext_calm _ f _).after (s.raise_calm _))

theorem State.readyToCommit_calm (s : State) (f : Face) : Calm s (s.readyToCommit f) := by
  have taken (c d : Context) : Calm s (((s.raise .clone).setContext f c).setContext f d) :=
    (State.setContext_calm _ f d).after ((State.setContext_calm _ f c).after (s.raise_calm _))
  unfold State.readyToCommit
  simp only
  split
  · split
    · exact (State.commit_calm _ f).after (taken _ _)
    · exact (State.endRefused_calm _ f _).after (taken _ _)
  · exact s.commit_calm f

theorem State.confirmFare_calm (s : State) (f : Face) (i : CardImage) : Calm s (s.confirmFare f i) := by
  unfold State.confirmFare
  dsimp only
  exact (State.conclude_calm _ f _ _ _).after ((State.sendCommitted_calm _ _ _).after ((State.releaseOwnHold_calm _ f).after
    ((State.recordSighting_calm _ _ _).after ((State.grant_calm _ f _).after ((State.closeRecord_calm _ f _ _ _).after
      (s.dropTear_calm _))))))

theorem State.confirmBlock_calm (s : State) (f : Face) (i : CardImage) : Calm s (s.confirmBlock f i) := by
  unfold State.confirmBlock
  dsimp only
  exact (State.conclude_calm _ f _ _ _).after ((State.sendDropped_calm _ f).after ((State.releaseOwnHold_calm _ f).after
    ((State.recordSighting_calm _ _ _).after ((State.dropReservation_calm _ f).after ((State.closeRecord_calm _ f _ _ _).after
      (s.dropTear_calm _))))))

theorem State.confirmWrite_calm (s : State) (f : Face) : Calm s (s.confirmWrite f) := by
  unfold State.confirmWrite
  split
  · split
    · exact s.confirmBlock_calm f _
    · exact s.confirmFare_calm f _
  · exact Calm.refl s

theorem State.notWritten_calm (s : State) (f : Face) : Calm s (s.notWritten f) :=
  (State.endFailed_calm _ f _).after (s.dropTear_calm _)

theorem State.tornWrite_calm (s : State) (f : Face) : Calm s (s.tornWrite f) := by
  have closed (l : List TearEntry) (o : TxOutcome) (x : RecordFields) :
      Calm s ({ s with tears := l }.closeRecord f o x .idle) := (State.closeRecord_calm _ f o x _).after (s.setTears_calm l)
  unfold State.tornWrite
  simp only
  refine (State.conclude_calm _ f _ _ _).after ((State.endBlockMark_calm _ f).after ((State.send_calm _ _).after
    ((State.releaseOwnHold_calm _ f).after ((State.dropReservation_calm _ f).after ?_))))
  split
  · exact closed _ _ _
  · exact closed _ _ _

theorem State.recoverSighting_calm (s : State) (e : TearEntry) (b : List Byte) : Calm s (s.recoverSighting e b) :=
  (State.sendCommitted_calm _ _ _).after (s.recordSighting_calm _ _)

theorem State.recoverHere_calm (s : State) (f : Face) (e : TearEntry) (b : List Byte) : Calm s (s.recoverHere f e b) := by
  unfold State.recoverHere
  dsimp only
  exact (State.conclude_calm _ f _ _ _).after ((State.recoverSighting_calm _ _ _).after ((State.grant_calm _ f _).after
    ((State.dropTear_calm _ _).after (s.closeRecord_calm f _ _ _))))

theorem State.recoverElsewhere_calm (s : State) (e : TearEntry) (b : List Byte) : Calm s (s.recoverElsewhere e b) :=
  (State.recoverSighting_calm _ _ _).after ((State.dropTear_calm _ _).after (s.append_calm _ _ _ _))

theorem State.resolveAtRead_calm (s : State) (f : Face) (b : List Byte) : Calm s (s.resolveAtRead f b).2 := by
  unfold State.resolveAtRead
  simp only
  split
  · exact Calm.refl s
  · split
    · exact Calm.refl s
    · split
      · exact s.resolveTear_calm _ _ _
      · split
        · split
          · exact s.recoverHere_calm f _ b
          · exact s.recoverElsewhere_calm _ b
        · exact s.resolveTear_calm _ _ _

theorem State.setChallenge_calm (s : State) (v : Word) : Calm s { s with check := { s.check with challenge := v } } where
  policies h := h

theorem State.startProving_calm (s : State) (f : Face) : Calm s (s.startProving f) := by
  unfold State.startProving
  dsimp only
  generalize nextChallenge s.check.challenge = v
  exact (State.ask_calm _ f _).after ((State.setContext_calm _ f _).after (s.setChallenge_calm v))

theorem State.readImage_calm (s : State) (f : Face) (b : List Byte) : Calm s (s.readImage f b) := by
  have h := s.resolveAtRead_calm f b
  unfold State.readImage
  generalize s.resolveAtRead f b = x at h ⊢
  obtain ⟨v, t⟩ := x
  cases v with
  | ended => exact h
  | continues =>
    simp only
    split
    · exact h
    · split
      · exact h.trans (t.endFailed_calm f _)
      · exact (State.startProving_calm _ f).after ((State.setOwnHold_calm _ f).after ((State.setContext_calm _ f _).after h))

theorem State.confirmRead_calm (s : State) (f : Face) (b : List Byte) : Calm s (s.confirmRead f b) := by
  unfold State.confirmRead
  simp only
  split
  · exact s.confirmWrite_calm f
  · split
    · exact s.notWritten_calm f
    · exact s.tornWrite_calm f

theorem State.cardLost_calm (s : State) (f : Face) : Calm s (s.cardLost f) := by
  unfold State.cardLost
  split
  · exact s.conclude_calm f _ _ _
  · exact s.endLost_calm f
  · exact s.endLost_calm f
  · exact s.endFailed_calm f _
  · exact s.tornWrite_calm f
  · exact s.closeExchange_calm f

theorem State.settleTimeout_calm (s : State) (f : Face) : Calm s (s.settleTimeout f) :=
  (State.ask_calm _ f _).after (s.setContext_calm f _)

/-! ### The contexts and faces at a change of service state -/

theorem State.abortContext_calm (s : State) (f : Face) (r : Reason) : Calm s (s.abortContext f r) := by
  unfold State.abortContext
  split
  iterate 3 exact Calm.refl s
  · exact s.refuseBefore_calm f
  iterate 6 exact s.endRefused_calm f r
  iterate 2 exact s.removeReservation_calm f

theorem State.abortContexts_calm (s : State) (r : Reason) : Calm s (s.abortContexts r) :=
  (State.abortContext_calm _ _ r).after (s.abortContext_calm _ r)

theorem State.handToContexts_calm (s : State) (n : ServiceState) : Calm s (s.handToContexts n) := by
  unfold State.handToContexts
  split
  · exact s.abortContexts_calm _
  · exact s.abortContexts_calm _
  · exact Calm.refl s

theorem State.fieldRequests_calm (s : State) (o n : ServiceState) : Calm s (s.fieldRequests o n) := by
  unfold State.fieldRequests
  split
  · exact Calm.refl s
  · split
    · exact (State.fieldOnRequest_calm _ _ _).after (s.fieldOnRequest_calm _ _)
    · exact (State.fieldOffRequest_calm _ _).after (s.fieldOffRequest_calm _)

/-! ### Tear windows and the tears at a reset -/

theorem State.expireTear_calm (s : State) (e : TearEntry) : Calm s (s.expireTear e) :=
  (State.raise_calm _ _).after (s.resolveTear_calm _ e _)

theorem State.expireTears_calm (s : State) : Calm s s.expireTears :=
  (Calm.foldl (fun t e => t.expireTear_calm e) _ _).after (s.drew_calm _)

theorem State.tearAtReset_calm (s : State) (e : TearEntry) : Calm s (s.tearAtReset e) :=
  (State.append_calm _ _ _ _ _).after (s.setTears_calm _)

theorem State.restTears_calm (s : State) : Calm s s.restTears :=
  (State.setTears_calm _ _).after (Calm.foldl (fun t e => t.tearAtReset_calm e) _ _)

end Sys2Proof.Machine
end

section
/-! SUPPORT. What one command does to everything the invariants read: commands that are quiet, those that move the service state, the
resets, and FREE JOURNAL. -/

namespace Sys2Proof.Machine

-- One declaration at a time: each waiting elaboration thread counts against the memory limit of the one text.
set_option Elab.async false

/-! ### Agreement of leaf, close delay and fault slot with the service state -/

/-- The leaf fits the service state, close delay and CLOSING leaf have their clear aisle, and LOCKDOWN holds its fault. -/
def State.Settled (s : State) : Prop := s.LeafFitsService ∧ s.aisle.CloseSafe ∧ s.LockdownHoldsFault

theorem Quiet.settled {s t : State} (h : Quiet s t) (hs : s.Settled) : t.Settled := by
  obtain ⟨hleaf, hclose, hslot⟩ := hs
  refine ⟨?_, h.closing hclose, fun hl => ?_⟩
  · rw [State.LeafFitsService, h.leafFree, h.state]
    exact hleaf
  · rw [h.state] at hl
    exact h.slot hl (hslot hl)

/-- The service state becomes `n`, and leaf, close delay and fault slot agree with it. -/
structure Moves (n : ServiceState) (s t : State) : Prop extends Kept s t where
  state : t.service.state = n
  settled : s.Settled → t.Settled

theorem Moves.quiet {n : ServiceState} {s t u : State} (h : Moves n s t) (g : Quiet t u) : Moves n s u where
  toKept := h.toKept.trans g.toKept
  state := g.state.trans h.state
  settled := g.settled ∘ h.settled

theorem Quiet.moves {n : ServiceState} {s t u : State} (h : Quiet s t) (g : Moves n t u) : Moves n s u where
  toKept := h.toKept.trans g.toKept
  state := g.state
  settled := g.settled ∘ h.settled

theorem Quiet.after {s t u : State} (g : Quiet t u) (h : Quiet s t) : Quiet s u := h.trans g

/-! ### EMERGENCY and LOCKDOWN (R163, R172, R178) -/

theorem State.setService_kept (s : State) {v : Service}
    (h : ClockFit s.service.clock → ClockFit v.clock := by exact id) : Kept s (s.setService v) where
  clock := h

theorem State.setAisle_kept (s : State) {a : Aisle} (h : s.aisle.Ordered → a.Ordered) : Kept s (s.setAisle a) where
  queues := h

theorem State.setServiceState_kept (s : State) (n : ServiceState) : Kept s (s.setServiceState n) where
  clock := id

/-- Whichever of contexts and faces comes first, it is calm. -/
theorem State.enterFree_eq (s : State) (n : ServiceState) :
    ∃ v, Calm (s.setServiceState n) v ∧ s.enterFree n = v.setAisle v.aisle.setFree := by
  have cancelled : Calm (s.setServiceState n) ((s.setServiceState n).cancelGrants.drew 1) :=
    (State.drew_calm _ 1).after (State.cancelGrants_calm _)
  refine ⟨_, ?_, rfl⟩
  split
  · exact (State.checkLock_calm _).after ((State.fieldRequests_calm _ _ n).after ((State.handToContexts_calm _ n).after cancelled))
  · exact (State.checkLock_calm _).after ((State.handToContexts_calm _ n).after ((State.fieldRequests_calm _ _ n).after cancelled))

theorem State.enterFree_kept (s : State) (n : ServiceState) : Kept s (s.enterFree n) := by
  obtain ⟨v, hv, he⟩ := s.enterFree_eq n
  rw [he]
  exact ((s.setServiceState_kept n).trans hv.toKept).trans (State.setAisle_kept _ fun h => h.of_eq rfl rfl rfl)

theorem State.enterFree_service (s : State) (n : ServiceState) :
    (s.enterFree n).service = { s.service with state := n, flags := (s.enterFree n).service.flags } := by
  obtain ⟨v, hv, he⟩ := s.enterFree_eq n
  rw [he, State.setAisle_service, hv.service]
  rfl

theorem State.enterFree_leaf (s : State) (n : ServiceState) : (s.enterFree n).aisle.leaf = .free := rfl

theorem State.enterFree_closeSafe (s : State) (n : ServiceState) : (s.enterFree n).aisle.CloseSafe :=
  Aisle.setFree_closeSafe _

theorem State.enterFree_moves_emergency (s : State) : Moves .emergency s (s.enterFree .emergency) where
  toKept := s.enterFree_kept _
  state := by rw [State.enterFree_service]
  settled _ := by
    refine ⟨?_, s.enterFree_closeSafe _, fun hl => ?_⟩
    · rw [State.LeafFitsService, State.enterFree_service, State.enterFree_leaf]
      simp
    · rw [State.enterFree_service] at hl
      cases hl

theorem State.lockDown_moves (s : State) (r : FaultRecord) (hs : s.service.faultSlot.isSome = true) :
    Moves .lockdown s (s.lockDown r) := by
  let v := s.setService { s.service with lockdownCause := some r }
  have hkept : Kept s v := s.setService_kept
  have hflags : Calm (v.enterFree .lockdown) (s.lockDown r) := (State.raise_calm _ _).after (State.raise_calm _ _)
  have hservice := v.enterFree_service .lockdown
  refine { toKept := (hkept.trans (v.enterFree_kept _)).trans hflags.toKept, state := ?_, settled := fun _ => ⟨?_, ?_, fun _ => ?_⟩ }
  · change (v.enterFree .lockdown).service.state = _
    rw [hservice]
  · change (v.enterFree .lockdown).aisle.leaf = .free ↔ (v.enterFree .lockdown).service.state = .emergency
      ∨ (v.enterFree .lockdown).service.state = .lockdown
    rw [hservice, State.enterFree_leaf]
    simp
  · exact v.enterFree_closeSafe _
  · change (v.enterFree .lockdown).service.faultSlot.isSome = true
    rw [hservice]
    exact hs

theorem State.fillFaultSlot_quiet (s : State) (r : FaultRecord) : Quiet s (s.fillFaultSlot r) where
  clock := id
  state := rfl
  slot _ _ := rfl

/-- A fault is kept or raises its flag, or it finds the slot full and locks the part down (R178). -/
theorem State.raiseFault_cases (s : State) (k : FaultKind) :
    Quiet s (s.raiseFault k)
      ∨ ((s.service.state = .inService ∨ s.service.state = .closed ∨ s.service.state = .emergency)
          ∧ s.service.faultSlot ≠ none ∧ Moves .lockdown s (s.raiseFault k)) := by
  have running (h : s.service.state = .inService ∨ s.service.state = .closed ∨ s.service.state = .emergency)
      (hr : s.raiseFault k = if s.service.faultSlot.isSome then s.lockDown (s.faultRecord k) else s.fillFaultSlot (s.faultRecord k)) :
      Quiet s (s.raiseFault k)
      ∨ ((s.service.state = .inService ∨ s.service.state = .closed ∨ s.service.state = .emergency)
          ∧ s.service.faultSlot ≠ none ∧ Moves .lockdown s (s.raiseFault k)) := by
    rw [hr]
    split
    · rename_i hs
      exact .inr ⟨h, fun hn => by simp [hn] at hs, s.lockDown_moves _ hs⟩
    · exact .inl (s.fillFaultSlot_quiet _)
  cases hs : s.service.state with
  | starting =>
    refine .inl ?_
    simp only [State.raiseFault, hs]
    split
    · exact (s.raise_calm _).toQuiet
    · exact s.fillFaultSlot_quiet _
  | inService => rw [hs] at running; exact running (.inl rfl) (by simp [State.raiseFault, hs])
  | closed => rw [hs] at running; exact running (.inr (.inl rfl)) (by simp [State.raiseFault, hs])
  | emergency => rw [hs] at running; exact running (.inr (.inr rfl)) (by simp [State.raiseFault, hs])
  | lockdown =>
    refine .inl ?_
    simp only [State.raiseFault, hs]
    exact (s.raise_calm _).toQuiet

/-! ### Service states with a driven leaf (R168, R169, R173) -/

/-- Between states that leave the leaf to its own moves, the leaf fits on. -/
theorem State.enterPlain_moves (s : State) {n : ServiceState}
    (hs : s.service.state = .starting ∨ s.service.state = .inService ∨ s.service.state = .closed)
    (hn : n = .inService ∨ n = .closed) : Moves n s (s.enterPlain n) := by
  have hreq := State.fieldRequests_calm (s.setServiceState n) s.service.state n
  refine Moves.quiet ?_ hreq.toQuiet
  refine { toKept := s.setServiceState_kept n, state := rfl, settled := fun ⟨hleaf, hclose, _⟩ => ⟨?_, hclose, fun hl => ?_⟩ }
  · have hdriven : ¬ s.aisle.leaf = .free := fun hf => by
      rcases hleaf.mp hf with h | h <;> simp [h] at hs
    change s.aisle.leaf = .free ↔ n = .emergency ∨ n = .lockdown
    rcases hn with rfl | rfl <;> simp [hdriven]
  · change n = .lockdown at hl
    subst hl
    simp at hn

theorem Aisle.Ordered.leaveFree {a : Aisle} (h : a.Ordered) (now : Word) : (a.leaveFree now).Ordered :=
  h.of_eq (by simp) (by simp) (by simp)

theorem State.resumeService_moves (s : State) : Moves .inService s s.resumeService := by
  let v := s.setService { s.service with faultSlot := none, lockdownCause := none, state := .inService }
  have hv : Kept s v := s.setService_kept
  have hfaces : Calm v ((v.fieldOnRequest .street true).fieldOnRequest .paid true) :=
    (State.fieldOnRequest_calm _ _ _).after (v.fieldOnRequest_calm _ _)
  refine { toKept := (hv.trans hfaces.toKept).trans
             (State.setAisle_kept _ fun h => h.leaveFree _), state := ?_
           settled := fun _ => ⟨?_, Aisle.leaveFree_closeSafe _ _, fun hl => ?_⟩ }
  · exact hfaces.state
  · change (Aisle.leaveFree _ _).leaf = .free ↔ ((v.fieldOnRequest .street true).fieldOnRequest .paid true).service.state = .emergency
      ∨ ((v.fieldOnRequest .street true).fieldOnRequest .paid true).service.state = .lockdown
    rw [hfaces.state]
    simp [v]
  · change ((v.fieldOnRequest .street true).fieldOnRequest .paid true).service.state = _ at hl
    rw [hfaces.state] at hl
    cases hl

/-! ### Resets (R193 to R196, R208) -/

theorem Aisle.afterReset_ordered (p : PerBeam Bool) (o c : Bool) : (Aisle.afterReset p o c).Ordered :=
  ⟨⟨Nat.zero_le _, Nat.zero_le _⟩, fun _ d hd => by cases d <;> exact absurd rfl hd, nofun, nofun⟩

theorem Aisle.afterReset_clear (p : PerBeam Bool) (o c : Bool) : (Aisle.afterReset p o c).clear = true := rfl

theorem Clock.afterReset_fit : ClockFit Clock.afterReset := ⟨⟨by decide, by decide⟩, fun _ => ⟨rfl, rfl, rfl⟩⟩

theorem State.afterReset_fits (s : State) (b : Bool) : Fits s (s.afterReset b) where
  pending := rfl
  link _ := Nat.zero_le _
  misses _ := ⟨Nat.zero_le _, Nat.zero_le _⟩
  released _ := ⟨Nat.zero_le _, List.nodup_nil⟩
  policies _ := ⟨rfl, rfl⟩
  sightings _ := ⟨Nat.zero_le _, List.nodup_nil⟩
  hotlist := id
  sequences := id
  ring _ := Nat.zero_le _
  queues _ := Aisle.afterReset_ordered _ _ _
  clock _ := Clock.afterReset_fit

/-- Right after a reset the part is STARTING, its leaf driven over a clear aisle. -/
theorem State.settled_of_afterReset {s t : State} {p : PerBeam Bool} {o c : Bool} (ha : t.aisle = Aisle.afterReset p o c)
    (hs : t.service.state = .starting) : s.Settled → t.Settled := fun _ => by
  refine ⟨?_, ⟨fun h => ?_, fun _ => ?_⟩, fun h => by rw [hs] at h; cases h⟩
  · rw [State.LeafFitsService, ha, hs]
    cases c <;> simp [Aisle.afterReset]
  · rw [ha] at h
    cases h
  · rw [ha, Aisle.afterReset_clear]

theorem State.restTears_aisle (s : State) : s.restTears.aisle = s.aisle := by
  change (List.foldl State.tearAtReset s _).aisle = s.aisle
  exact foldl_keeps State.aisle _ (fun t e => by simp [State.tearAtReset]) _ _

theorem State.linkReset_quietly (s : State) (b : Bool) :
    Fits s (s.afterReset b).restTears ∧ s.journal.records <+: (s.afterReset b).restTears.journal.records
      ∧ (s.Settled → (s.afterReset b).restTears.Settled) ∧ (s.afterReset b).restTears.service.state = .starting := by
  have hrest := (s.afterReset b).restTears_calm
  have hstate : (s.afterReset b).restTears.service.state = .starting := hrest.state
  exact ⟨(s.afterReset_fits b).trans hrest.toFits, hrest.records,
    State.settled_of_afterReset (State.restTears_aisle _) hstate, hstate⟩

theorem JournalFit.emptied : JournalFit { records := [], next := 1 } := ⟨by decide, fun _ h => by cases h⟩

theorem HotlistFit.emptied : HotlistFit { entries := [], localOrder := [] } :=
  ⟨⟨Nat.zero_le _, List.Pairwise.nil⟩, List.nodup_nil, fun _ => by simp⟩

theorem State.powerOnLost_fits (s : State) : Fits s s.powerOnLost := by
  refine (s.afterReset_fits false).trans ?_
  refine Fits.trans (t := { s.afterReset false with
    hotlist := { entries := [], localOrder := [] }, tears := [], journal := { records := [], next := 1 } }) ?_
    (State.fillFaultSlot_quiet _ _).toFits
  exact
    { hotlist := fun _ => HotlistFit.emptied
      sequences := fun _ => JournalFit.emptied }

end Sys2Proof.Machine
end

section
/-! SUPPORT. One command's effect, command by command, and the invariants of every step that follow from it. -/

namespace Sys2Proof.Machine

-- One declaration at a time: each waiting elaboration thread counts against the memory limit of the one text.
set_option Elab.async false

/-! ### What a command's effect is -/

/-- The changes of service state of R167, R177 and R178, by the command that makes them and the state it finds. -/
def Listed (c : Instr) (s : State) : ServiceState → Prop
  | .inService => (s.service.state = .starting ∧ c = .configDone []) ∨ (s.service.state = .closed ∧ c = .setService [1])
      ∨ ((s.service.state = .emergency ∨ s.service.state = .lockdown) ∧ c = .resume [])
  | .closed => s.service.state = .inService ∧ c = .setService [2]
  | .emergency => (s.service.state = .starting ∧ c = .configDone [])
      ∨ ((s.service.state = .inService ∨ s.service.state = .closed ∨ s.service.state = .lockdown)
        ∧ (c = .emergency [] ∨ c = .emergencyDebounceExpiry))
  | .lockdown => (s.service.state = .inService ∨ s.service.state = .closed ∨ s.service.state = .emergency)
      ∧ s.service.faultSlot ≠ none
      ∧ ((∃ f p, c = .wakeTimeout f ∧ (s.face f).poll = some p ∧ p.second = true
          ∧ 3 ≤ (if p.responded then (s.face f).missCount else (s.face f).missCount + 1))
        ∨ (c = .travelTimeout ∧ (s.aisle.leaf = .opening ∨ s.aisle.leaf = .closing))
        ∨ (c = .limitDebounceExpiry .closedLimit ∧ s.aisle.leaf = .closed ∧ s.aisle.closedLimit.accepted = true)
        ∨ ∃ b, c = .beamStuck b ∧ Claims.counts s.aisle b)
  | .starting => (∃ b, c = .powerOn b) ∨ (c = .replySent ∧ s.link.resetPending = true)

/-- What a command does to all that the invariants read. -/
structure Effect (c : Instr) (s t : State) : Prop extends Fits s t where
  settled : s.Settled → t.Settled
  records : (∃ body, c = .freeJournal body) ∨ (∃ b, c = .powerOn b ∧ ¬ (s.storeKept = true ∧ b = true))
    ∨ s.journal.records <+: t.journal.records
  state : t.service.state = s.service.state ∨ Listed c s t.service.state

theorem Quiet.effect {c : Instr} {s t : State} (h : Quiet s t) : Effect c s t where
  toFits := h.toFits
  settled := h.settled
  records := .inr (.inr h.records)
  state := .inl h.state

theorem Calm.effect {c : Instr} {s t : State} (h : Calm s t) : Effect c s t := h.toQuiet.effect

theorem Moves.effect {c : Instr} {s t : State} {n : ServiceState} (h : Moves n s t) (hc : Listed c s n) : Effect c s t where
  toFits := h.toFits
  settled := h.settled
  records := .inr (.inr h.records)
  state := .inr (h.state ▸ hc)

/-! ### Commands while the part runs, and requests -/

theorem Effect.whenRunning {c : Instr} {s t : State} {act : State → State} (h : whenRunning s act = .next t)
    (hact : Effect c s (act s)) : Effect c s t := by
  injection h with h
  rw [← h]
  split
  · exact hact
  · exact (Quiet.refl s).effect

theorem State.setLink_calm (s : State) {l : Link} (h : LinkFit s.link → LinkFit l) : Calm s (s.setLink l) where
  link := h

theorem State.hunting_calm (s : State) : Calm s s.hunting := s.setLink_calm id

/-- The end of an answer gives the link its reply: the bounds and the service unit are those of the answer. -/
theorem Effect.setLink {c : Instr} {s t : State} (h : Effect c s t) {l : Link} (hl : LinkFit t.link → LinkFit l) :
    Effect c s (t.setLink l) where
  toFits := h.toFits.trans (t.setLink_calm hl).toFits
  settled := h.settled
  records := h.records
  state := h.state

/-- A frame in a busy buffer, or a request of the wrong length, touches the link alone. -/
theorem Effect.takeFrame {c : Instr} {s : State} {act : State → State × Reply}
    (h : s.link.busy = false → Effect c s (act s.hunting).1) : Effect c s (s.takeFrame act) := by
  unfold State.takeFrame
  dsimp only
  split
  · exact ((s.hunting_calm.trans (s.hunting.setLink_calm fun _ => Nat.min_le_left _ _)).effect)
  · exact (h (by simpa using ‹¬ s.link.busy = true›)).setLink id

theorem Effect.takeRequest {c : Instr} {s : State} {kind : Byte} {fits : Bool} {answer : State → Answer}
    (h : fits = true → Effect c s (answer s.hunting).after) : Effect c s (s.takeRequest kind fits answer) :=
  Effect.takeFrame fun _ => by
    dsimp only
    split
    · exact h ‹_›
    · exact s.hunting_calm.effect

theorem Effect.request {c : Instr} {s : State} {kind : Byte} {length : Nat} {body : List Byte} {answer : State → Answer}
    (h : body.length = length → Effect c s (answer s.hunting).after) : Effect c s (s.request kind length body answer) :=
  Effect.takeRequest fun hfit => h (of_decide_eq_true hfit)

/-- A request whose answer is quiet. -/
theorem Effect.request_of_quiet {c : Instr} {s : State} {kind : Byte} {length : Nat} {body : List Byte} {answer : State → Answer}
    (h : Quiet s.hunting (answer s.hunting).after) : Effect c s (s.request kind length body answer) :=
  Effect.request fun _ => (s.hunting_calm.toQuiet.trans h).effect

theorem Effect.query {c : Instr} {s : State} {kind : Byte} {length : Nat} {body : List Byte} {fields : State → List Byte} :
    Effect c s (s.query kind length body fields) := Effect.request_of_quiet (Quiet.refl _)

/-! ### Requests (sections 3 to 11) -/

theorem setFare_quiet (s : State) {u : FareUnit} (h : ReleasedFit s.fare.released → ReleasedFit u.released := by exact id) :
    Quiet s (s.setFare u) where
  released := h

theorem setCheck_quiet (s : State) {u : CardCheck} (h : PoliciesFit s.check.policies → PoliciesFit u.policies := by exact id) :
    Quiet s (s.setCheck u) where
  policies := h

/-- The service unit changes in its clock, mask, inputs or an emptied fault slot out of LOCKDOWN. -/
theorem setService_quiet (s : State) {v : Service} (hstate : v.state = s.service.state := by rfl)
    (hslot : s.service.state = .lockdown → v.faultSlot = s.service.faultSlot := by exact fun _ => rfl)
    (hclock : ClockFit s.service.clock → ClockFit v.clock := by exact id) : Quiet s (s.setService v) where
  clock := hclock
  state := hstate
  slot hl hs := by rw [State.setService_service, hslot hl]; exact hs

theorem serviceMinute_lt {w r : Nat} (hw : w < 1440) (hr : r < 1440) : serviceMinute w r < 1440 := by
  unfold serviceMinute
  split <;> omega

theorem readClock_apply_fit {b : List Byte} {r : ClockRequest} (h : readClock b = some r) {k : Clock} (hk : ClockFit k) :
    ClockFit (r.apply k) := by
  unfold readClock at h
  split at h
  · rename_i peak present _ _
    split at h
    · rename_i hfit
      cases h
      obtain ⟨hwall, hroll⟩ := hfit
      have hr : ((if present then some (halfAt b 6) else none).getD k.rollover).toNat < 1440 := by
        cases present with
        | true => exact hroll rfl
        | false => exact hk.1.2
      refine ⟨⟨?_, hr⟩, fun h => by cases h⟩
      have := serviceMinute_lt hwall hr
      simp only [ClockRequest.apply, BitVec.toNat_ofNat]
      omega
    · cases h
  · cases h

theorem execSetClock_effect {c : Instr} {body : List Byte} {s t : State} (h : execSetClock body s = .next t) : Effect c s t :=
  Effect.whenRunning h <| Effect.request_of_quiet <| by
    split
    · rename_i r hr
      exact setService_quiet _ rfl (fun _ => rfl) (readClock_apply_fit hr)
    · exact Quiet.refl _

theorem BeamInput.setPolarity_countsBlocked (b : BeamInput) (p : Polarity) (now : Word) :
    (b.setPolarity p now).countsBlocked = b.countsBlocked := by
  unfold BeamInput.setPolarity
  split <;> rfl

theorem Aisle.accept_clear (a : Aisle) (r : AisleRequest) (now : Word) : (a.accept r now).clear = a.clear := by
  simp only [Aisle.clear, Aisle.accept, BeamInput.setPolarity_countsBlocked]

/-- A change of mode meets empty queues, and its lock fits it (R156, R205). -/
theorem Aisle.Ordered.accept {a : Aisle} (h : a.Ordered) (r : AisleRequest) (now : Word)
    (hmode : ¬ (r.mode ≠ a.mode ∧ ¬ (a.queues.entry = [] ∧ a.queues.exit = []))) : (a.accept r now).Ordered := by
  by_cases hm : r.mode = a.mode
  · exact h.of_eq rfl hm (if_pos hm)
  · obtain ⟨hentry, hexit⟩ := not_not.mp fun he => hmode ⟨hm, he⟩
    have hlock : (a.accept r now).lock = r.mode.lock := if_neg hm
    refine ⟨h.1, fun _ d hd => ?_, fun he => ?_, fun he => ?_⟩
    · cases d
      · exact absurd hentry hd
      · exact absurd hexit hd
    · change r.mode = _ at he
      rw [hlock, he]
      rfl
    · change r.mode = _ at he
      rw [hlock, he]
      rfl

theorem execSetAisle_effect {c : Instr} {body : List Byte} {s t : State} (h : execSetAisle body s = .next t) : Effect c s t :=
  Effect.whenRunning h <| Effect.request_of_quiet <| by
    split
    · exact Quiet.refl _
    · rename_i r _
      split
      · exact Quiet.refl _
      · rename_i hmode
        have stored (x : CardCheck) (y : Setup) (hx : x.policies = s.check.policies) :
            Quiet s.hunting { s.hunting with aisle := s.hunting.aisle.accept r s.hunting.now, check := x, setup := y } :=
          { policies := fun hp => hx ▸ hp
            queues := fun ho => ho.accept r _ hmode
            leafFree := Iff.rfl
            closing := fun hc => hc.mono rfl rfl (fun hc => (Aisle.accept_clear _ r _).trans hc) id }
        exact (State.expireTears_calm _).toQuiet.after (stored _ _ rfl)

theorem execLoadStations_effect {c : Instr} {body : List Byte} {s t : State} (h : execLoadStations body s = .next t) :
    Effect c s t :=
  Effect.whenRunning h <| Effect.takeRequest fun _ => by
    split
    · exact (s.hunting_calm.toQuiet.trans (setFare_quiet _)).effect
    · exact s.hunting_calm.effect

theorem execLoadBands_effect {c : Instr} {body : List Byte} {s t : State} (h : execLoadBands body s = .next t) : Effect c s t :=
  Effect.whenRunning h <| Effect.takeRequest fun _ => by
    dsimp only
    split
    · exact (s.hunting_calm.toQuiet.trans (setFare_quiet _)).effect
    · exact s.hunting_calm.effect

theorem execLoadFares_effect {c : Instr} {body : List Byte} {s t : State} (h : execLoadFares body s = .next t) : Effect c s t :=
  Effect.whenRunning h <| Effect.request_of_quiet <| by
    split
    · exact setFare_quiet _
    · exact Quiet.refl _

theorem execLoadClasses_effect {c : Instr} {body : List Byte} {s t : State} (h : execLoadClasses body s = .next t) :
    Effect c s t :=
  Effect.whenRunning h <| Effect.takeRequest fun _ => by
    split
    · exact (s.hunting_calm.toQuiet.trans (setFare_quiet _)).effect
    · exact (s.hunting_calm.trans (State.drew_calm _ _)).effect

theorem execLoadKey_effect {c : Instr} {body : List Byte} {s t : State} (h : execLoadKey body s = .next t) : Effect c s t :=
  Effect.whenRunning h <| Effect.request_of_quiet <| by
    dsimp only
    split
    · exact (State.drew_calm _ _).toQuiet
    · split
      · exact setCheck_quiet _
      · exact Quiet.refl _

theorem readPolicy_set_fit {b : List Byte} {k : EvidenceKind} {x : Policy} (h : readPolicy b = some (k, x)) {p : Policies}
    (hp : PoliciesFit p) : PoliciesFit (p.set k x) := by
  have haccepted : policyAccepted k x = true := by
    unfold readPolicy at h
    split at h
    · split at h
      · cases h
        assumption
      · cases h
    · cases h
  cases k with
  | blocked => cases x <;> first | exact ⟨rfl, hp.2⟩ | cases haccepted
  | forged => cases x <;> first | exact ⟨hp.1, rfl⟩ | cases haccepted
  | _ => exact hp

theorem execSetPolicy_effect {c : Instr} {body : List Byte} {s t : State} (h : execSetPolicy body s = .next t) : Effect c s t :=
  Effect.whenRunning h <| Effect.request_of_quiet <| by
    split
    · rename_i k p hread
      exact setCheck_quiet _ (readPolicy_set_fit hread)
    · split
      · exact Quiet.refl _
      · exact (State.drew_calm _ _).toQuiet

theorem execConfigDone_effect {body : List Byte} {s t : State} (h : execConfigDone body s = .next t) :
    Effect (.configDone body) s t :=
  Effect.whenRunning h <| Effect.request fun hlen => by
    rw [List.length_eq_zero_iff.mp hlen]
    split
    · rename_i hconf
      have hstart : s.service.state = .starting := by
        simp only [State.configured, Bool.and_eq_true, decide_eq_true_eq] at hconf
        exact hconf.1.1.1
      have ring (u : State) : Quiet u (u.setRing { u.ring with state := .isolated }).sendCensus :=
        ((State.sendCensus_calm _).after (u.setRing_calm)).toQuiet
      unfold State.leaveStarting
      dsimp only [stateAnswer]
      split
      · exact ((s.hunting_calm.toQuiet.moves s.hunting.enterFree_moves_emergency).quiet
          ((ring _).after (State.raise_calm _ _).toQuiet)).effect (.inl ⟨hstart, rfl⟩)
      · exact ((s.hunting_calm.toQuiet.moves (State.enterPlain_moves _ (.inl hstart) (.inl rfl))).quiet (ring _)).effect
          (.inl ⟨hstart, rfl⟩)
    · exact s.hunting_calm.effect

theorem body_of_length_one {body : List Byte} (h : body.length = 1) : body = [byteAt body 0] := by
  obtain ⟨b, rfl⟩ := List.length_eq_one_iff.mp h
  rfl

theorem decodeIn_serviceState {b : Byte} {n : ServiceState} (h : decodeIn serviceStateList b = some n) :
    b = codeIn serviceStateList n := by
  revert b n
  decide +kernel

theorem execSetService_effect {body : List Byte} {s t : State} (h : execSetService body s = .next t) :
    Effect (.setService body) s t :=
  Effect.whenRunning h <| Effect.request fun hlen => by
    split
    · rename_i n hn
      have hbody : body = [codeIn serviceStateList n] := by rw [← decodeIn_serviceState hn, ← body_of_length_one hlen]
      unfold State.setServiceTarget
      dsimp only [stateAnswer]
      split
      · rename_i hc
        obtain ⟨hs, rfl⟩ := hc
        exact (s.hunting_calm.toQuiet.moves (State.enterPlain_moves _ (.inr (.inl hs)) (.inr rfl))).effect ⟨hs, by rw [hbody]; rfl⟩
      · split
        · rename_i hc
          obtain ⟨hs, rfl⟩ := hc
          exact (s.hunting_calm.toQuiet.moves (State.enterPlain_moves _ (.inr (.inr hs)) (.inl rfl))).effect
            (.inr (.inl ⟨hs, by rw [hbody]; rfl⟩))
        · split <;> exact s.hunting_calm.effect
    · exact s.hunting_calm.effect

theorem execEmergency_effect {body : List Byte} {s t : State} (h : execEmergency body s = .next t) :
    Effect (.emergency body) s t :=
  Effect.whenRunning h <| Effect.request fun hlen => by
    rw [List.length_eq_zero_iff.mp hlen]
    have enters (hs : s.service.state = .inService ∨ s.service.state = .closed ∨ s.service.state = .lockdown) :
        Effect (.emergency []) s (s.hunting.enterFree .emergency) :=
      (s.hunting_calm.toQuiet.moves s.hunting.enterFree_moves_emergency).effect (.inr ⟨hs, .inl rfl⟩)
    split
    · exact enters (.inl ‹_›)
    · exact enters (.inr (.inl ‹_›))
    · exact enters (.inr (.inr ‹_›))
    · exact s.hunting_calm.effect
    · exact s.hunting_calm.effect

theorem execResume_effect {body : List Byte} {s t : State} (h : execResume body s = .next t) : Effect (.resume body) s t :=
  Effect.whenRunning h <| Effect.request fun hlen => by
    rw [List.length_eq_zero_iff.mp hlen]
    split
    · rename_i hr
      have hs : s.service.state = .emergency ∨ s.service.state = .lockdown := by
        simp only [State.mayResume, Bool.and_eq_true, Bool.or_eq_true, decide_eq_true_eq] at hr
        exact hr.1.imp And.left id
      exact (s.hunting_calm.toQuiet.moves s.hunting.resumeService_moves).effect (.inr (.inr ⟨hs, rfl⟩))
    · exact s.hunting_calm.effect

theorem execReleaseDays_effect {c : Instr} {body : List Byte} {s t : State} (h : execReleaseDays body s = .next t) :
    Effect c s t :=
  Effect.whenRunning h <| Effect.request_of_quiet <| by
    dsimp only
    split
    · exact setFare_quiet _ fun hr => releaseDays_fit hr _ _
    · exact (State.drew_calm _ _).toQuiet

theorem setHotlist_quiet (s : State) {l : Hotlist} (h : HotlistFit s.hotlist → HotlistFit l) : Quiet s (s.setHotlist l) where
  hotlist := h

theorem execHotlistAdd_effect {c : Instr} {body : List Byte} {s t : State} (h : execHotlistAdd body s = .next t) : Effect c s t :=
  Effect.whenRunning h <| Effect.request_of_quiet <| setHotlist_quiet _ fun hf => hotlistAdd_fit hf _

theorem execHotlistRemove_effect {c : Instr} {body : List Byte} {s t : State} (h : execHotlistRemove body s = .next t) :
    Effect c s t :=
  Effect.whenRunning h <| Effect.request_of_quiet <| by
    dsimp only
    split
    · exact setHotlist_quiet _ fun hf => hf.remove _
    · exact Quiet.refl _

theorem execHotlistRange_effect {c : Instr} {body : List Byte} {s t : State} (h : execHotlistRange body s = .next t) :
    Effect c s t :=
  Effect.whenRunning h <| Effect.request_of_quiet <| by
    dsimp only
    split
    · exact (State.drew_calm _ _).toQuiet
    · exact setCheck_quiet _

theorem execPushSighting_effect {c : Instr} {body : List Byte} {s t : State} (h : execPushSighting body s = .next t) :
    Effect c s t :=
  Effect.whenRunning h <| Effect.request_of_quiet <| by
    split
    · exact Quiet.refl _
    · split
      · exact Quiet.refl _
      · rename_i e l hfind
        split
        · refine Calm.toQuiet (State.setSightings_calm _ fun hf => ?_)
          exact touchSighting_findOrCreate_fit hf hfind rfl
        · exact Quiet.refl _

theorem setWatch_quiet (s : State) (w : Watch) : Quiet s (s.setWatch w) := {}

theorem State.program_quiet (s : State) (body : List Byte) : Quiet s (s.program body).after := by
  unfold State.program
  split
  · unfold State.programCommon
    split
    · exact setWatch_quiet _ _
    · exact Quiet.refl _
  · unfold State.programUnit
    dsimp only
    split
    · exact (State.drew_calm _ _).toQuiet
    · split
      · exact setWatch_quiet _ _
      · exact Quiet.refl _

theorem execClearFault_effect {c : Instr} {body : List Byte} {s t : State} (h : execClearFault body s = .next t) :
    Effect c s t :=
  Effect.whenRunning h <| Effect.request_of_quiet <| by
    split
    · exact Quiet.refl _
    · rename_i hl
      exact setService_quiet _ rfl fun h => absurd h hl

theorem JournalFit.free {j : Journal} (h : JournalFit j) (q : Word) : JournalFit (j.free q) :=
  ⟨h.1, fun r hr => h.2 r ((List.dropWhile_sublist _).subset hr)⟩

theorem execFreeJournal_effect {body : List Byte} {s t : State} (h : execFreeJournal body s = .next t) :
    Effect (.freeJournal body) s t :=
  Effect.whenRunning h <| Effect.request fun _ =>
    { toFits := s.hunting_calm.toFits.trans { sequences := fun hj => JournalFit.free hj _ }
      settled := id
      records := .inl ⟨body, rfl⟩
      state := .inl rfl }

theorem State.runDrew_calm (s : State) : Calm s s.runDrew := by
  unfold State.runDrew
  split
  · split
    · exact Calm.refl s
    · exact s.drew_calm 1
  · exact Calm.refl s

/-! ### The link unit and power -/

theorem State.linkReset_effect {c : Instr} {s : State} (b : Bool) (hc : (∃ b, c = .powerOn b) ∨ (c = .replySent ∧ s.link.resetPending = true)) :
    Effect c s (s.afterReset b).restTears := by
  obtain ⟨hfits, hrecords, hsettled, hstate⟩ := s.linkReset_quietly b
  exact { toFits := hfits, settled := hsettled, records := .inr (.inr hrecords), state := .inr (by rw [hstate]; exact hc) }

theorem execReplySent_effect {s t : State} (h : execReplySent s = .next t) : Effect .replySent s t :=
  Effect.whenRunning h <| by
    split
    · exact (Quiet.refl s).effect
    · split
      · exact s.linkReset_effect _ (.inr ⟨rfl, ‹_›⟩)
      · split
        · exact (s.setLink_calm fun _ => Nat.zero_le _).effect
        · refine Calm.effect (s.setLink_calm ?_)
          exact id

theorem execPowerOn_effect {b : Bool} {s t : State} (h : execPowerOn b s = .next t) : Effect (.powerOn b) s t := by
  have kept {u : State} (hu : Effect (.powerOn b) s u) : Effect (.powerOn b) s { u with storeKept := true } :=
    { toFits := hu.toFits.trans {}, settled := hu.settled, records := hu.records, state := hu.state }
  injection h with h
  rw [← h]
  refine kept ?_
  split
  · exact s.linkReset_effect true (.inl ⟨b, rfl⟩)
  · rename_i hlost
    exact
      { toFits := s.powerOnLost_fits, settled := State.settled_of_afterReset rfl rfl, records := .inr (.inl ⟨b, rfl, hlost⟩)
        state := .inr (.inl ⟨b, rfl⟩) }

/-! ### The reader faces -/

/-- A READER_FAULT, whatever the face's values were before it went off. -/
theorem State.setFace_readerFault_cases (s : State) (f : Face) (u : FaceUnit) :
    Quiet s ((s.setFace f u).readerFault f)
      ∨ ((s.service.state = .inService ∨ s.service.state = .closed ∨ s.service.state = .emergency)
          ∧ s.service.faultSlot ≠ none ∧ Moves .lockdown s ((s.setFace f u).readerFault f)) := by
  have hoff (v : FaceUnit) (hv : v.missCount = 3) : Quiet s ((s.setFace f u).setFace f v) :=
    { misses := fun h => by
        rw [State.setFace_faces, State.setFace_faces, PerFace.set_set]
        exact h.set hv.le }
  unfold State.readerFault
  dsimp only
  have hoff := hoff { ((s.setFace f u).face f).turnOff with state := .disabled, missCount := 3 } rfl
  rcases State.raiseFault_cases ((s.setFace f u).setFace f { ((s.setFace f u).face f).turnOff with
    state := .disabled, missCount := 3 }) (.readerFault f) with h | ⟨hs, hslot, h⟩
  · exact .inl ((State.cardRemoved_calm _ f).toQuiet.after (h.after hoff))
  · exact .inr ⟨hs, hslot, (hoff.moves h).quiet (State.cardRemoved_calm _ f).toQuiet⟩

theorem execWakeTimeout_effect {f : Face} {s t : State} (h : execWakeTimeout f s = .next t) : Effect (.wakeTimeout f) s t :=
  Effect.whenRunning h <| by
    split
    · exact (Quiet.refl s).effect
    · rename_i p hp
      split
      · exact (Quiet.refl s).effect
      · split
        · rename_i hsecond
          unfold State.pollUnanswered
          dsimp only
          generalize hmisses : (if p.responded = true then (s.face f).missCount else (s.face f).missCount + 1) = misses
          split
          · rename_i hdead
            rcases s.setFace_readerFault_cases f { s.face f with poll := none, missCount := misses } with h | ⟨hs, hslot, h⟩
            · exact h.effect
            · exact h.effect ⟨hs, hslot, .inl ⟨f, p, rfl, hp, hsecond, hmisses ▸ hdead⟩⟩
          · rename_i hfew
            have hle := (not_le.mp hfew).le
            split
            · split
              · exact ((State.cardRemoved_calm _ f).after (s.setFace_calm f fun _ => hle)).effect
              · exact (s.setFace_calm f fun _ => hle).effect
            · exact (s.setFace_calm f fun _ => hle).effect
        · exact (s.setFace_calm f).effect

theorem State.cardReply_calm (s : State) (f : Face) (expected : CardCommand → Bool) {act : State → State}
    (h : ∀ t, Calm t (act t)) : Calm s (s.cardReply f expected act) := by
  have heard := s.responded_calm f
  unfold State.cardReply
  dsimp only
  split
  · split
    · exact (h _).after ((State.closeExchange_calm _ f).after heard)
    · exact heard
  · exact heard

theorem execSettlingTimeExpiry_effect {c : Instr} {f : Face} {s t : State} (h : execSettlingTimeExpiry f s = .next t) :
    Effect c s t :=
  Effect.whenRunning h <| by
    dsimp only
    split
    · exact (s.setFace_calm f).effect
    · exact (Quiet.refl s).effect

theorem execPollDue_effect {c : Instr} {f : Face} {s t : State} (h : execPollDue f s = .next t) : Effect c s t :=
  Effect.whenRunning h <| by
    dsimp only
    split
    · exact (s.setFace_calm f).effect
    · exact (Quiet.refl s).effect

theorem execPresenceAnswer_effect {c : Instr} {f : Face} {s t : State} (h : execPresenceAnswer f s = .next t) : Effect c s t :=
  Effect.whenRunning h <| by
    dsimp only
    split
    · exact ((State.pollAnswered_calm _ f).after (s.responded_calm f)).effect
    · exact (s.responded_calm f).effect

theorem execCollisionReport_effect {c : Instr} {f : Face} {s t : State} (h : execCollisionReport f s = .next t) : Effect c s t :=
  Effect.whenRunning h <| by
    dsimp only
    split
    · exact ((State.pollCollision_calm _ f).after (s.responded_calm f)).effect
    · exact (s.responded_calm f).effect

theorem execCommandTimeout_effect {c : Instr} {f : Face} {s t : State} (h : execCommandTimeout f s = .next t) : Effect c s t :=
  Effect.whenRunning h <| by
    split
    · exact (Quiet.refl s).effect
    · split
      · exact (Quiet.refl s).effect
      · split
        · exact (s.setFace_calm f).effect
        · split
          · exact ((State.settleTimeout_calm _ f).after (s.closeExchange_calm f)).effect
          · exact ((State.cardLost_calm _ f).after (s.closeExchange_calm f)).effect

theorem execNameAnswer_effect {c : Instr} {f : Face} {n : CardNumber} {k g : Byte} {x : CardStatus} {s t : State}
    (h : execNameAnswer f n k g x s = .next t) : Effect c s t :=
  Effect.whenRunning h <| Calm.effect <| s.cardReply_calm f _ fun u => by
    dsimp only
    split
    · exact (State.refuseBefore_calm _ f).after (u.setContext_calm f _)
    · exact (State.admitCard_calm _ f _).after (u.setContext_calm f _)

theorem execCardImage_effect {c : Instr} {f : Face} {b : List Byte} {s t : State} (h : execCardImage f b s = .next t) :
    Effect c s t :=
  Effect.whenRunning h <| Calm.effect <| s.cardReply_calm f _ fun u => by
    split
    · exact u.readImage_calm f b
    · exact u.confirmRead_calm f b
    · exact Calm.refl u

theorem execProofAnswer_effect {c : Instr} {f : Face} {p : Word} {s t : State} (h : execProofAnswer f p s = .next t) :
    Effect c s t :=
  Effect.whenRunning h <| Calm.effect <| s.cardReply_calm f _ fun u => by
    split
    · exact u.proofMatched_calm f
    · exact u.proofFailed_calm f

theorem execSettled_effect {c : Instr} {f : Face} {n : Half} {s t : State} (h : execSettled f n s = .next t) : Effect c s t :=
  Effect.whenRunning h <| Calm.effect <| s.cardReply_calm f _ fun u => by
    split
    · exact u.confirmWrite_calm f
    · exact u.notWritten_calm f

/-! ### The ring -/

theorem State.ringArrival_calm (s : State) (o hop : Byte) (m : RingMessage) {home : State → State}
    {arrive : State → State × RingMessage} (hhome : Calm s (home s)) (harrive : Calm s (arrive s).1) :
    Calm s (s.ringArrival o hop m home arrive) := by
  unfold State.ringArrival
  split
  · split
    · exact Calm.refl s
    · exact s.send_calm m
  · split
    · exact hhome
    · split
      · exact Calm.refl s
      · exact harrive.trans (State.send_calm _ _)

theorem SightingEntry.takeHold_number {e x : SightingEntry} {o : Byte} {now : Word} (h : (e.takeHold o now).1 = some x) :
    x.number = e.number := by
  unfold SightingEntry.takeHold at h
  split at h
  · cases h
    rfl
  · split at h <;> cases h
    rfl
  · cases h
    rfl

theorem State.holdArrives_calm (s : State) (o : Byte) (n : CardNumber) (r : Half) : Calm s (s.holdArrives o n r).1 := by
  unfold State.holdArrives
  split
  · exact Calm.refl s
  · rename_i e l hfind
    dsimp only
    have taken : Calm s (match (e.takeHold o s.now).1 with
        | some x => { s with sightings := touchSighting l x }
        | none => s) := by
      split
      · rename_i x hx
        exact s.setSightings_calm fun h => touchSighting_findOrCreate_fit h hfind (SightingEntry.takeHold_number hx)
      · exact Calm.refl s
    split
    · exact (State.noteHolders_calm _ _ _).after taken
    · exact taken

theorem State.holdReturns_calm (s : State) (n : CardNumber) (x : HoldContest) : Calm s (s.holdReturns n x) := by
  unfold State.holdReturns
  split
  · exact Calm.refl s
  · exact (State.deciding_calm _ _).after (s.setContext_calm _ _)

theorem State.clearPeer_calm (s : State) (o : Byte) (n : CardNumber) : Calm s (s.clearPeer o n) := by
  unfold State.clearPeer
  split
  · exact Calm.refl s
  · rename_i e hfind
    dsimp only
    split
    · split
      · exact s.setSightings_calm fun h => touchSighting_findSighting_fit h hfind rfl
      · exact s.setSightings_calm fun h => replaceSighting_fit h _
    · exact s.setSightings_calm fun h => replaceSighting_fit h _

theorem Calm.ite {p : Prop} [Decidable p] {s t u : State} (h : Calm s t) (g : Calm s u) : Calm s (if p then t else u) := by
  split
  · exact h
  · exact g

theorem State.peerSighting_calm (s : State) (n : CardNumber) (x : Sighting) : Calm s (s.peerSighting n x) := by
  unfold State.peerSighting
  split
  · exact Calm.refl s
  · rename_i e l hfind
    refine Calm.ite ?_ (Calm.refl s)
    exact s.setSightings_calm fun h => touchSighting_findOrCreate_fit h hfind rfl

theorem State.releaseArrives_calm (s : State) (o : Byte) (n : CardNumber) (b : ReleaseBody) :
    Calm s (s.releaseArrives o n b) := by
  cases b with
  | committed => exact (State.noteHolders_calm _ _ _).after ((State.peerSighting_calm _ _ _).after (s.clearPeer_calm o n))
  | dropped => exact s.clearPeer_calm o n
  | uncertain => exact s.clearPeer_calm o n

theorem execHold_effect {c : Instr} {o hop : Byte} {n : CardNumber} {r : Half} {x : HoldContest} {s t : State}
    (h : execHold o hop n r x s = .next t) : Effect c s t :=
  Effect.whenRunning h <| Calm.effect <| s.ringArrival_calm o hop _ (s.holdReturns_calm n x) (s.holdArrives_calm o n r)

theorem execRelease_effect {c : Instr} {o hop : Byte} {n : CardNumber} {b : ReleaseBody} {s t : State}
    (h : execRelease o hop n b s = .next t) : Effect c s t :=
  Effect.whenRunning h <| Calm.effect <| s.ringArrival_calm o hop _ (Calm.refl s) (s.releaseArrives_calm o n b)

theorem execAlert_effect {c : Instr} {o hop : Byte} {n : CardNumber} {k : EvidenceKind} {b : Byte} {s t : State}
    (h : execAlert o hop n k b s = .next t) : Effect c s t :=
  Effect.whenRunning h <| Calm.effect <| s.ringArrival_calm o hop _ (Calm.refl s) <|
    (State.noteHolders_calm _ _ _).after <| by
      split
      · exact s.localAdd_calm n false
      · exact Calm.refl s

theorem execCensus_effect {c : Instr} {o hop : Byte} {s t : State} (h : execCensus o hop s = .next t) : Effect c s t :=
  Effect.whenRunning h <| Calm.effect <| s.ringArrival_calm o hop _ (s.censusHome_calm hop) (Calm.refl s)

theorem execRingOutSent_effect {c : Instr} {s t : State} (h : execRingOutSent s = .next t) : Effect c s t :=
  Effect.whenRunning h <| Calm.effect <|
    show Calm s (s.setRing { s.ring with queue := s.ring.queue.tail }) from
      { ring := fun hq => by simp only [State.setRing_ring, List.length_tail]; omega }

theorem execRingTimeout_effect {c : Instr} {f : Face} {s t : State} (h : execRingTimeout f s = .next t) : Effect c s t :=
  Effect.whenRunning h <| Calm.effect <| by
    split
    · exact (State.deciding_calm _ f).after ((State.setContext_calm _ f _).after s.isolate_calm)
    · exact Calm.refl s

theorem execCensusDue_effect {c : Instr} {s t : State} (h : execCensusDue s = .next t) : Effect c s t :=
  Effect.whenRunning h <| Calm.effect <| by
    split
    · exact s.sendCensus_calm
    · exact Calm.refl s

theorem execPeerHoldExpiry_effect {c : Instr} {n : CardNumber} {s t : State} (h : execPeerHoldExpiry n s = .next t) :
    Effect c s t :=
  Effect.whenRunning h <| Calm.effect <| by
    split
    · exact Calm.refl s
    · rename_i e hfind
      split
      · split
        · exact s.setSightings_calm fun h => touchSighting_findSighting_fit h hfind rfl
        · exact Calm.refl s
      · exact Calm.refl s

theorem execDisplacedHoldExpiry_effect {c : Instr} {n : CardNumber} {s t : State} (h : execDisplacedHoldExpiry n s = .next t) :
    Effect c s t :=
  Effect.whenRunning h <| Calm.effect <| by
    split
    · exact Calm.refl s
    · split
      · split
        · exact s.setSightings_calm fun h => replaceSighting_fit h _
        · exact Calm.refl s
      · exact Calm.refl s

theorem execTearWindowExpiry_effect {c : Instr} {n : CardNumber} {s t : State} (h : execTearWindowExpiry n s = .next t) :
    Effect c s t :=
  Effect.whenRunning h <| Calm.effect <| by
    split
    · split
      · exact s.expireTear_calm _
      · exact Calm.refl s
    · exact Calm.refl s

/-! ### The aisle -/

/-- What becomes of the input levels and pending changes of a beam. -/
theorem execBeamInputChange_effect {c : Instr} {b : Beam} {x : Bool} {s t : State} (h : execBeamInputChange b x s = .next t) :
    Effect c s t := by
  injection h with h
  rw [← h]
  refine Calm.effect (s.setAisle_calm ?_ ?_ ?_)
  · exact fun ho => ho.of_eq rfl rfl rfl
  · exact Iff.rfl
  refine fun hc => hc.mono rfl rfl (fun hclear => ?_) id
  rw [Aisle.clear_iff] at hclear ⊢
  intro g
  rw [PerBeam.get_set_eq]
  split
  · have hcounts : (if s.power = .running then ({ s.aisle.beams.get b with high := x } : BeamInput).read s.now
        else { s.aisle.beams.get b with high := x }).countsBlocked = (s.aisle.beams.get b).countsBlocked := by
      split <;> rfl
    rw [hcounts]
    exact hclear b
  · exact hclear g

theorem execBeamDebounceExpiry_effect {c : Instr} {b : Beam} {s t : State} (h : execBeamDebounceExpiry b s = .next t) :
    Effect c s t :=
  Effect.whenRunning h <| Calm.effect <| by
    split
    · split
      · unfold State.acceptBeam
        dsimp only
        split
        · exact s.beamBlocked_calm b _
        · split
          · exact s.unstick_calm b
          · rename_i hblocked hstuck
            exact s.beamCleared_calm _ (by simp [BeamInput.countsBlocked, hstuck, hblocked])
      · exact Calm.refl s
    · exact Calm.refl s

theorem execBeamStuck_effect {b : Beam} {s t : State} (h : execBeamStuck b s = .next t) : Effect (.beamStuck b) s t :=
  Effect.whenRunning h <| by
    dsimp only
    split
    · rename_i hb
      obtain ⟨hblocked, hstuck, -⟩ := hb
      have hcounts : (s.aisle.beams.get b).countsBlocked = true := by simp [BeamInput.countsBlocked, hblocked, hstuck]
      have marked (a : Aisle) (hq : a.queues = s.aisle.queues) (hmode : a.mode = s.aisle.mode) (hlock : a.lock = s.aisle.lock)
          (hleaf : a.leaf = s.aisle.leaf) (hclose : a.closeStart = s.aisle.closeStart) : Calm s (s.setAisle a) :=
        s.setAisle_calm (fun h => h.of_eq hq hmode hlock) (by rw [hleaf]) fun h => h.of_blocked hcounts hclose hleaf
      have ended (u : State) : Quiet u (if u.aisle.clear then u.endRun u.now else u) := by
        split
        · exact (u.endRun_calm _).toQuiet
        · exact Quiet.refl u
      have hmark := marked { s.aisle with
        beams := s.aisle.beams.set b { s.aisle.beams.get b with stuck := true }
        run := s.aisle.run.map fun r => r.beamCleared b } rfl rfl rfl rfl rfl
      unfold State.becomeStuck
      dsimp only
      rcases State.raiseFault_cases (s.setAisle { s.aisle with
        beams := s.aisle.beams.set b { s.aisle.beams.get b with stuck := true }
        run := s.aisle.run.map fun r => r.beamCleared b }) (.beamStuck b) with h | ⟨hs, hslot, h⟩
      · exact ((ended _).after (h.after hmark.toQuiet)).effect
      · exact ((hmark.toQuiet.moves h).quiet (ended _)).effect ⟨hs, hslot, .inr (.inr (.inr ⟨b, rfl, hblocked, hstuck⟩))⟩
    · exact (Quiet.refl s).effect

/-- An aisle with another value of a limit input. -/
theorem Aisle.setLimit_keeps (a : Aisle) (l : Limit) (u : LineInput) :
    (a.setLimit l u).queues = a.queues ∧ (a.setLimit l u).mode = a.mode ∧ (a.setLimit l u).lock = a.lock ∧
    (a.setLimit l u).beams = a.beams ∧ (a.setLimit l u).leaf = a.leaf ∧ (a.setLimit l u).closeStart = a.closeStart := by
  cases l <;> simp [Aisle.setLimit]

theorem State.setLimit_calm (s : State) (l : Limit) (u : LineInput) : Calm s (s.setAisle (s.aisle.setLimit l u)) := by
  obtain ⟨hq, hmode, hlock, hbeams, hleaf, hclose⟩ := s.aisle.setLimit_keeps l u
  exact s.setAisle_calm_of_eq hq hmode hlock (Aisle.clear_of_beams hbeams) hleaf hclose

theorem execLimitInputChange_effect {c : Instr} {l : Limit} {x : Bool} {s t : State} (h : execLimitInputChange l x s = .next t) :
    Effect c s t := by
  injection h with h
  rw [← h]
  exact (s.setLimit_calm l _).effect

theorem State.limitAsserted_calm (s : State) (l : Limit) : Calm s (s.setAisle (s.aisle.limitAsserted l s.now)) := by
  have opens (h : s.aisle.leaf = .opening ∨ s.aisle.leaf = .jammed) : Calm s (s.setAisle (s.aisle.reachOpen s.now)) :=
    s.setAisle_calm (fun ho => ho.of_eq (by simp) (by simp) (by simp)) (by rcases h with h | h <;> simp [h])
      fun _ => Aisle.reachOpen_closeSafe _ _
  have closes (h : s.aisle.leaf = .closing ∨ s.aisle.leaf = .jammed) : Calm s (s.setAisle (s.aisle.reachClosed s.now)) :=
    s.setAisle_calm (fun ho => ho.of_eq (by simp) (by simp) (by simp)) (by rcases h with h | h <;> simp [h])
      fun _ => Aisle.reachClosed_closeSafe _ _
  unfold Aisle.limitAsserted
  split
  · exact opens (.inl ‹_›)
  · exact opens (.inr ‹_›)
  · exact closes (.inl ‹_›)
  · exact closes (.inr ‹_›)
  · exact Calm.refl s

theorem execLimitDebounceExpiry_effect {l : Limit} {s t : State} (h : execLimitDebounceExpiry l s = .next t) :
    Effect (.limitDebounceExpiry l) s t :=
  Effect.whenRunning h <| by
    split
    · unfold State.acceptLimit
      dsimp only
      have hset := s.setLimit_calm l { s.aisle.limit l with accepted := !(s.aisle.limit l).accepted, pendingSince := none }
      split
      · exact (hset.trans (State.limitAsserted_calm _ l)).effect
      · rename_i hreleased
        split
        · rename_i hforced
          obtain ⟨rfl, hleaf⟩ := hforced
          rcases State.raiseFault_cases (s.setAisle (s.aisle.setLimit .closedLimit
            { s.aisle.limit .closedLimit with accepted := !(s.aisle.limit .closedLimit).accepted, pendingSince := none }))
            .leafForced with h | ⟨hs, hslot, h⟩
          · exact (h.after hset.toQuiet).effect
          · exact (hset.toQuiet.moves h).effect
              ⟨hs, hslot, .inr (.inr (.inl ⟨rfl, hleaf, by simpa [Aisle.limit] using hreleased⟩))⟩
        · exact hset.effect
    · exact (Quiet.refl s).effect

theorem execTravelTimeout_effect {s t : State} (h : execTravelTimeout s = .next t) : Effect .travelTimeout s t :=
  Effect.whenRunning h <| by
    split
    · rename_i hmoving
      have hjam : Calm s (s.setAisle s.aisle.jam) :=
        s.setAisle_calm (fun ho => ho.of_eq rfl rfl rfl) (by rcases hmoving.1 with h | h <;> simp [Aisle.jam, h])
          fun _ => Aisle.jam_closeSafe _
      rcases State.raiseFault_cases (s.setAisle s.aisle.jam) .leafTimeout with h | ⟨hs, hslot, h⟩
      · exact (h.after hjam.toQuiet).effect
      · exact (hjam.toQuiet.moves h).effect ⟨hs, hslot, .inr (.inl ⟨rfl, hmoving.1⟩)⟩
    · exact (Quiet.refl s).effect

theorem execCloseDelayExpiry_effect {c : Instr} {s t : State} (h : execCloseDelayExpiry s = .next t) : Effect c s t :=
  Effect.whenRunning h <| by
    split
    · rename_i hdue
      obtain ⟨hopen, hdue⟩ := hdue
      have hrunning : s.aisle.closeStart.isSome = true := by
        cases hc : s.aisle.closeStart with
        | none => rw [hc] at hdue; cases hdue
        | some t => rfl
      exact (s.setAisle_calm (fun ho => ho.of_eq (by simp) (by simp) (by simp)) (by simp [hopen])
        fun hc => Aisle.startClosing_closeSafe _ (hc.1 hrunning).2.2).effect
    · exact (Quiet.refl s).effect

theorem exists_granted_of_mem_updateFirst_defer {p : QueueEntry → Bool} {l : List QueueEntry} {e : QueueEntry}
    (he : e ∈ updateFirst p QueueEntry.defer l) (hg : e.isGranted = true) : ∃ x ∈ l, x.isGranted = true := by
  have hdefer (x : QueueEntry) : x.defer.isGranted = x.isGranted := by
    obtain ⟨f, n, st⟩ := x
    cases st <;> rfl
  induction l with
  | nil => cases he
  | cons y ys ih =>
    unfold updateFirst at he
    split at he
    · rcases List.mem_cons.mp he with rfl | he
      · exact ⟨y, by simp, hdefer y ▸ hg⟩
      · exact ⟨e, by simp [he], hg⟩
    · rcases List.mem_cons.mp he with rfl | he
      · exact ⟨e, by simp, hg⟩
      · obtain ⟨x, hx, hgx⟩ := ih he
        exact ⟨x, List.mem_cons_of_mem _ hx, hgx⟩

theorem State.expireGrant_calm (s : State) (d : Direction) (p : QueueEntry → Bool) (e : QueueEntry) :
    Calm s (s.expireGrant d p e) :=
  (State.refreshClose_calm _ _).after ((State.checkLock_calm _).after ((State.recordExpired_calm _ d e).after
    (s.setQueue_calm_of_sublist d s.aisle.run List.eraseP_sublist)))

theorem execGrantExpiry_effect {c : Instr} {d : Direction} {q : Word} {s t : State} (h : execGrantExpiry d q s = .next t) :
    Effect c s t :=
  Effect.whenRunning h <| Calm.effect <| by
    dsimp only
    split
    · exact Calm.refl s
    · split
      · exact s.setQueue_calm d s.aisle.run (length_updateFirst _ _ _).le fun e he hg =>
          exists_granted_of_mem_updateFirst_defer he hg
      · exact s.expireGrant_calm d _ _

theorem execPassageAlarmEnd_effect {c : Instr} {s t : State} (h : execPassageAlarmEnd s = .next t) : Effect c s t :=
  Effect.whenRunning h <| Calm.effect <| by
    split
    · split
      · exact s.setAisle_calm_of_eq
      · exact Calm.refl s
    · exact Calm.refl s

theorem execWatchAlarmEnd_effect {c : Instr} {s t : State} (h : execWatchAlarmEnd s = .next t) : Effect c s t :=
  Effect.whenRunning h <| Calm.effect <| by
    split
    · exact s.setAisle_calm_of_eq
    · exact Calm.refl s

theorem execShortToneEnd_effect {c : Instr} {f : Face} {s t : State} (h : execShortToneEnd f s = .next t) : Effect c s t :=
  Effect.whenRunning h <| Calm.effect <| by
    split
    · split
      · exact s.setAisle_calm_of_eq
      · exact Calm.refl s
    · exact Calm.refl s

/-! ### The emergency input and the clock -/

theorem execEmergencyInputChange_effect {c : Instr} {x : Bool} {s t : State} (h : execEmergencyInputChange x s = .next t) :
    Effect c s t := by
  injection h with h
  rw [← h]
  exact (setService_quiet s).effect

theorem execEmergencyDebounceExpiry_effect {s t : State} (h : execEmergencyDebounceExpiry s = .next t) :
    Effect .emergencyDebounceExpiry s t :=
  Effect.whenRunning h <| by
    dsimp only
    split
    · have accepted (v : LineInput) : Quiet s (s.setService { s.service with emergency := v }) := setService_quiet s
      split
      · exact (accepted _).effect
      · have enters (v : LineInput)
            (hs : s.service.state = .inService ∨ s.service.state = .closed ∨ s.service.state = .lockdown) :
            Effect .emergencyDebounceExpiry s
              (((s.setService { s.service with emergency := v }).enterFree .emergency).raise .service) :=
          (((accepted v).moves (State.enterFree_moves_emergency _)).quiet (State.raise_calm _ _).toQuiet).effect
            (.inr ⟨hs, .inr rfl⟩)
        unfold State.emergencyAsserted
        split
        · exact enters _ (.inl ‹_›)
        · exact enters _ (.inr (.inl ‹_›))
        · exact enters _ (.inr (.inr ‹_›))
        · exact (accepted _).effect
        · exact (accepted _).effect
    · exact (Quiet.refl s).effect

theorem State.rollover_quiet (s : State) {k : Clock} (hset : k.isSet = true) (hroll : k.rollover = s.service.clock.rollover) :
    Quiet s (s.rollover k) where
  released h := h.filter _
  sightings h := h.filter _
  clock hc := ⟨⟨Nat.zero_lt_succ _, by
    change k.rollover.toNat < 1440
    rw [hroll]
    exact hc.1.2⟩, fun h => by
    change k.isSet = false at h
    rw [hset] at h
    cases h⟩
  state := rfl
  slot _ := id

theorem State.advanceMinute_quiet (s : State) (hset : s.service.clock.isSet = true) : Quiet s s.advanceMinute := by
  unfold State.advanceMinute
  dsimp only
  split
  · rename_i hday
    refine setService_quiet s rfl (fun _ => rfl) fun hc => ⟨⟨?_, hc.1.2⟩, fun h => ?_⟩
    · simp only [BitVec.toNat_add]
      exact (Nat.mod_le _ _).trans_lt hday
    · change s.service.clock.isSet = false at h
      rw [hset] at h
      cases h
  · split
    · refine (State.raise_calm _ _).toQuiet.after (setService_quiet s rfl (fun _ => rfl) fun hc => ?_)
      exact ⟨⟨Clock.afterReset_fit.1.1, hc.1.2⟩, Clock.afterReset_fit.2⟩
    · exact s.rollover_quiet hset rfl

theorem execMinuteTick_effect {c : Instr} {s t : State} (h : execMinuteTick s = .next t) : Effect c s t :=
  Effect.whenRunning h <| by
    split
    · rename_i hfull
      exact (s.advanceMinute_quiet hfull.1).effect
    · exact (Quiet.refl s).effect

end Sys2Proof.Machine
end

section
/-! SUPPORT. The commands that touch no more than the link, a mask or what is shown, every command's effect, and the invariants of every
step that follow from it. -/

namespace Sys2Proof.Machine

-- One declaration at a time: each waiting elaboration thread counts against the memory limit of the one text.
set_option Elab.async false

/-! ### Requests that report or set what no bound reads -/

theorem execIdentify_effect {c : Instr} {body : List Byte} {s t : State} (h : execIdentify body s = .next t) : Effect c s t :=
  Effect.whenRunning h Effect.query

theorem execReadCounters_effect {c : Instr} {body : List Byte} {s t : State} (h : execReadCounters body s = .next t) : Effect c s t :=
  Effect.whenRunning h Effect.query

theorem execTearList_effect {c : Instr} {body : List Byte} {s t : State} (h : execTearList body s = .next t) : Effect c s t :=
  Effect.whenRunning h Effect.query

theorem execReadFault_effect {c : Instr} {body : List Byte} {s t : State} (h : execReadFault body s = .next t) : Effect c s t :=
  Effect.whenRunning h Effect.query

theorem execHotlistQuery_effect {c : Instr} {body : List Byte} {s t : State} (h : execHotlistQuery body s = .next t) : Effect c s t :=
  Effect.whenRunning h Effect.query

theorem execWatchStatus_effect {c : Instr} {body : List Byte} {s t : State} (h : execWatchStatus body s = .next t) : Effect c s t :=
  Effect.whenRunning h Effect.query

theorem execAisleStatus_effect {c : Instr} {body : List Byte} {s t : State} (h : execAisleStatus body s = .next t) : Effect c s t :=
  Effect.whenRunning h <| Effect.request_of_quiet <| (State.runDrew_calm _).toQuiet

theorem execClearWatch_effect {c : Instr} {body : List Byte} {s t : State} (h : execClearWatch body s = .next t) : Effect c s t :=
  Effect.whenRunning h <| Effect.request_of_quiet <| setWatch_quiet _ _

theorem execSetWatchUnit_effect {c : Instr} {body : List Byte} {s t : State} (h : execSetWatchUnit body s = .next t) : Effect c s t :=
  Effect.whenRunning h <| Effect.request_of_quiet <| State.program_quiet _ _

theorem execSetWatchCommon_effect {c : Instr} {body : List Byte} {s t : State} (h : execSetWatchCommon body s = .next t) : Effect c s t :=
  Effect.whenRunning h <| Effect.request_of_quiet <| State.program_quiet _ _

theorem execAttention_effect {c : Instr} {body : List Byte} {s t : State} (h : execAttention body s = .next t) : Effect c s t :=
  Effect.whenRunning h <| Effect.request_of_quiet <| setService_quiet _

theorem execSetAttentionMask_effect {c : Instr} {body : List Byte} {s t : State} (h : execSetAttentionMask body s = .next t) : Effect c s t :=
  Effect.whenRunning h <| Effect.request_of_quiet <| setService_quiet _

theorem execReadJournal_effect {c : Instr} {body : List Byte} {s t : State} (h : execReadJournal body s = .next t) : Effect c s t :=
  Effect.whenRunning h <| Effect.request_of_quiet <| by
    dsimp only
    split
    · exact Quiet.refl _
    · exact Quiet.refl _

theorem execReset_effect {c : Instr} {body : List Byte} {s t : State} (h : execReset body s = .next t) : Effect c s t :=
  Effect.whenRunning h <| Effect.request_of_quiet <| by
    refine Calm.toQuiet (State.setLink_calm _ ?_)
    exact id

/-! ### Frames, power and the faces -/

theorem execUnknownRequest_effect {c : Instr} {kind : Byte} {s t : State} (h : execUnknownRequest kind s = .next t) : Effect c s t :=
  Effect.whenRunning h <| Effect.takeFrame fun _ => s.hunting_calm.effect

theorem execCheckMismatch_effect {c : Instr} {kind : Byte} {s t : State} (h : execCheckMismatch kind s = .next t) : Effect c s t :=
  Effect.whenRunning h <| Effect.takeFrame fun _ => s.hunting_calm.effect

theorem execFramingError_effect {c : Instr} {s t : State} (h : execFramingError s = .next t) : Effect c s t :=
  Effect.whenRunning h <| Effect.takeFrame fun _ => s.hunting_calm.effect

theorem execFrameGapTimeout_effect {c : Instr} {s t : State} (h : execFrameGapTimeout s = .next t) : Effect c s t :=
  Effect.whenRunning h <| by
    split
    · exact Effect.takeFrame fun _ => s.hunting_calm.effect
    · exact (Quiet.refl s).effect

theorem execFrameOverrun_effect {c : Instr} {s t : State} (h : execFrameOverrun s = .next t) : Effect c s t :=
  Effect.whenRunning h <| by
    split
    · exact Effect.takeFrame fun _ => s.hunting_calm.effect
    · exact (Quiet.refl s).effect

theorem execFrameStart_effect {c : Instr} {s t : State} (h : execFrameStart s = .next t) : Effect c s t :=
  Effect.whenRunning h <| by
    refine Calm.effect (s.setLink_calm ?_)
    exact id

/-- The part stops, the link at its values after reset. -/
theorem State.stopped_calm (s : State) (p : Power) : Calm s { s with power := p, link := Link.afterReset } where
  link _ := Nat.zero_le _

theorem execHardwareResetAssert_effect {c : Instr} {s t : State} (h : execHardwareResetAssert s = .next t) : Effect c s t := by
  injection h with h
  rw [← h]
  split
  · exact (s.stopped_calm _).effect
  · exact (Quiet.refl s).effect

theorem execPowerLoss_effect {c : Instr} {s t : State} (h : execPowerLoss s = .next t) : Effect c s t := by
  injection h with h
  rw [← h]
  exact (s.stopped_calm _).effect

theorem execBackupSupplyFailure_effect {c : Instr} {s t : State} (h : execBackupSupplyFailure s = .next t) : Effect c s t := by
  injection h with h
  rw [← h]
  exact Quiet.effect {}

theorem execGarbledReply_effect {c : Instr} {f : Face} {s t : State} (h : execGarbledReply f s = .next t) : Effect c s t :=
  Effect.whenRunning h <| by
    dsimp only
    split
    · exact ((State.pollCollision_calm _ f).after (s.responded_calm f)).effect
    · exact (s.responded_calm f).effect

theorem execSilenceNotice_effect {c : Instr} {f : Face} {s t : State} (h : execSilenceNotice f s = .next t) : Effect c s t :=
  Effect.whenRunning h (s.responded_calm f).effect

theorem execReady_effect {c : Instr} {f : Face} {s t : State} (h : execReady f s = .next t) : Effect c s t :=
  Effect.whenRunning h (s.cardReply_calm f _ fun t => t.readyToCommit_calm f).effect

theorem execStale_effect {c : Instr} {f : Face} {s t : State} (h : execStale f s = .next t) : Effect c s t :=
  Effect.whenRunning h (s.cardReply_calm f _ fun t => t.endFailed_calm f _).effect

theorem execBadRingMessage_effect {c : Instr} {s t : State} (h : execBadRingMessage s = .next t) : Effect c s t :=
  Effect.whenRunning h (Quiet.refl s).effect

/-! ### Every command -/

theorem exec_effect {c : Instr} {s t : State} (h : exec c s = .next t) : Effect c s t := by
  cases c with
  | identify => exact execIdentify_effect h
  | setClock => exact execSetClock_effect h
  | setAisle => exact execSetAisle_effect h
  | loadStations => exact execLoadStations_effect h
  | loadBands => exact execLoadBands_effect h
  | loadFares => exact execLoadFares_effect h
  | loadClasses => exact execLoadClasses_effect h
  | loadKey => exact execLoadKey_effect h
  | setPolicy => exact execSetPolicy_effect h
  | configDone => exact execConfigDone_effect h
  | setService => exact execSetService_effect h
  | emergency => exact execEmergency_effect h
  | resume => exact execResume_effect h
  | releaseDays => exact execReleaseDays_effect h
  | hotlistAdd => exact execHotlistAdd_effect h
  | hotlistRemove => exact execHotlistRemove_effect h
  | hotlistRange => exact execHotlistRange_effect h
  | hotlistQuery => exact execHotlistQuery_effect h
  | pushSighting => exact execPushSighting_effect h
  | setWatchUnit => exact execSetWatchUnit_effect h
  | setWatchCommon => exact execSetWatchCommon_effect h
  | watchStatus => exact execWatchStatus_effect h
  | clearWatch => exact execClearWatch_effect h
  | attention => exact execAttention_effect h
  | setAttentionMask => exact execSetAttentionMask_effect h
  | readFault => exact execReadFault_effect h
  | clearFault => exact execClearFault_effect h
  | readJournal => exact execReadJournal_effect h
  | freeJournal => exact execFreeJournal_effect h
  | readCounters => exact execReadCounters_effect h
  | aisleStatus => exact execAisleStatus_effect h
  | tearList => exact execTearList_effect h
  | reset => exact execReset_effect h
  | unknownRequest => exact execUnknownRequest_effect h
  | checkMismatch => exact execCheckMismatch_effect h
  | framingError => exact execFramingError_effect h
  | frameGapTimeout => exact execFrameGapTimeout_effect h
  | frameOverrun => exact execFrameOverrun_effect h
  | replySent => exact execReplySent_effect h
  | powerOn => exact execPowerOn_effect h
  | hardwareResetAssert => exact execHardwareResetAssert_effect h
  | powerLoss => exact execPowerLoss_effect h
  | settlingTimeExpiry => exact execSettlingTimeExpiry_effect h
  | pollDue => exact execPollDue_effect h
  | wakeTimeout => exact execWakeTimeout_effect h
  | presenceAnswer => exact execPresenceAnswer_effect h
  | collisionReport => exact execCollisionReport_effect h
  | garbledReply => exact execGarbledReply_effect h
  | silenceNotice => exact execSilenceNotice_effect h
  | commandTimeout => exact execCommandTimeout_effect h
  | nameAnswer => exact execNameAnswer_effect h
  | cardImage => exact execCardImage_effect h
  | proofAnswer => exact execProofAnswer_effect h
  | ready => exact execReady_effect h
  | stale => exact execStale_effect h
  | settled => exact execSettled_effect h
  | hold => exact execHold_effect h
  | release => exact execRelease_effect h
  | alert => exact execAlert_effect h
  | census => exact execCensus_effect h
  | badRingMessage => exact execBadRingMessage_effect h
  | ringOutSent => exact execRingOutSent_effect h
  | ringTimeout => exact execRingTimeout_effect h
  | censusDue => exact execCensusDue_effect h
  | peerHoldExpiry => exact execPeerHoldExpiry_effect h
  | displacedHoldExpiry => exact execDisplacedHoldExpiry_effect h
  | tearWindowExpiry => exact execTearWindowExpiry_effect h
  | beamInputChange => exact execBeamInputChange_effect h
  | beamDebounceExpiry => exact execBeamDebounceExpiry_effect h
  | beamStuck => exact execBeamStuck_effect h
  | limitInputChange => exact execLimitInputChange_effect h
  | limitDebounceExpiry => exact execLimitDebounceExpiry_effect h
  | travelTimeout => exact execTravelTimeout_effect h
  | closeDelayExpiry => exact execCloseDelayExpiry_effect h
  | grantExpiry => exact execGrantExpiry_effect h
  | passageAlarmEnd => exact execPassageAlarmEnd_effect h
  | watchAlarmEnd => exact execWatchAlarmEnd_effect h
  | shortToneEnd => exact execShortToneEnd_effect h
  | emergencyInputChange => exact execEmergencyInputChange_effect h
  | emergencyDebounceExpiry => exact execEmergencyDebounceExpiry_effect h
  | minuteTick => exact execMinuteTick_effect h
  | backupSupplyFailure => exact execBackupSupplyFailure_effect h
  | frameStart => exact execFrameStart_effect h

/-- No command ends in a fault or a refusal. -/
theorem exec_next (c : Instr) (s : State) : ∃ t, exec c s = .next t := by
  cases c <;> exact ⟨_, rfl⟩

/-- Settles O2: each command's effect leaves the queue as it was. -/
theorem everyCommandAnswersANextState : Obligations.EveryCommandAnswersANextState := by
  intro c s
  obtain ⟨t, h⟩ := exec_next c s
  exact ⟨t, h, (exec_effect h).pending⟩

/-- Settles O58: the listed changes are part of each command's effect. -/
theorem serviceStateChangesOnlyAsListed : Obligations.ServiceStateChangesOnlyAsListed := by
  intro c s t h hne
  exact (exec_effect h).state.resolve_left hne

/-- Settles O60. -/
theorem recordsLeaveOnlyWhenFreedOrLost : Obligations.RecordsLeaveOnlyWhenFreedOrLost := by
  intro c s t h hfree hpower
  rcases (exec_effect h).records with ⟨body, hc⟩ | ⟨b, hc, hlost⟩ | ⟨new, hnew⟩
  · exact absurd hc (hfree body)
  · exact absurd (hpower b hc) hlost
  · exact ⟨new, hnew.symm⟩

/-! ### Every step -/

/-- A step is the effect of the command at the front of the queue, or a millisecond. -/
theorem step_cases {s t : State} (h : step s = .next t) :
    (∃ c rest, s.pending = c :: rest ∧ exec c { s with pending := rest } = .next t) ∨ t = s.millisecond := by
  unfold step at h
  split at h
  · exact .inl ⟨_, _, ‹_›, h⟩
  · injection h with h
    exact .inr h.symm

/-- A millisecond changes the clocks, the queue and the count of free choices alone. -/
theorem State.millisecond_eq (s : State) : ∃ pending freeCount now ms, s.millisecond = { s with
    pending := pending, freeCount := freeCount, now := now
    service := { s.service with clock := { s.service.clock with ms := ms } } } := by
  unfold State.millisecond
  split
  · exact ⟨_, _, _, _, rfl⟩
  · exact ⟨_, _, _, _, rfl⟩

/-- What reads no queue, holds through a millisecond and is kept by every command, every step keeps. -/
theorem step_preserves {P : State → Prop} (hqueue : ∀ (s : State) (rest : List Instr), P s → P { s with pending := rest })
    (hms : ∀ s : State, P s → P s.millisecond) (hexec : ∀ c s t, exec c s = .next t → P s → P t) :
    ∀ s t : State, P s → step s = .next t → P t := by
  intro s t hs h
  rcases step_cases h with ⟨c, rest, -, hc⟩ | rfl
  · exact hexec c _ t hc (hqueue s rest hs)
  · exact hms s hs

/-- Settles O51: no command takes a table or queue out of its bounds. -/
theorem tablesStayInTheirBounds : Obligations.TablesStayInTheirBounds := by
  refine step_preserves (fun _ _ => id) (fun s hs => ?_) ?_
  · obtain ⟨_, _, _, _, he⟩ := s.millisecond_eq
    rw [he]
    exact hs
  · rintro c s t h ⟨hsightings, hordered, hlocal, hring, hreleased⟩
    have e := exec_effect h
    obtain ⟨hordered, hlocal⟩ := e.hotlist ⟨hordered, hlocal⟩
    exact ⟨e.sightings hsightings, hordered, hlocal, e.ring hring, e.released hreleased⟩

/-- Settles O52: queues and lock keep their order, leaf, close delay and fault slot their agreement with the service state. -/
theorem aisleAndServiceStayInAgreement : Obligations.AisleAndServiceStayInAgreement := by
  refine step_preserves (fun _ _ => id) (fun s hs => ?_) ?_
  · obtain ⟨_, _, _, _, he⟩ := s.millisecond_eq
    rw [he]
    exact hs
  · rintro c s t h ⟨hqueues, hone, hlock, hleaf, hclosing, hfault⟩
    have e := exec_effect h
    obtain ⟨hqueues, hone, hlock⟩ := e.queues ⟨hqueues, hone, hlock⟩
    obtain ⟨hleaf, hclosing, hfault⟩ := e.settled ⟨hleaf, hclosing, hfault⟩
    exact ⟨hqueues, hone, hlock, hleaf, hclosing, hfault⟩

/-- Settles O53: no command takes a count, the clock or a fixed policy out of its range. -/
theorem valuesStayInTheirRanges : Obligations.ValuesStayInTheirRanges := by
  refine step_preserves (fun _ _ => id) (fun s hs => ?_) ?_
  · obtain ⟨_, _, _, _, he⟩ := s.millisecond_eq
    rw [he]
    exact hs
  · rintro c s t h ⟨hsequences, hoverrun, hmisses, hday, hunset, hpolicies⟩
    have e := exec_effect h
    obtain ⟨hday, hunset⟩ := e.clock ⟨hday, hunset⟩
    exact ⟨e.sequences hsequences, e.link hoverrun, e.misses hmisses, hday, hunset, e.policies hpolicies⟩

/-- Settles O1: `step` is defined so. -/
theorem stepRunsTheFrontCommand : Obligations.StepRunsTheFrontCommand := by
  intro s c rest h
  simp only [step, h]

/-- Settles O54: after reset every table and queue is empty, every count 0, and the leaf shut over a clear aisle. -/
theorem resetMeetsEveryInvariant : Obligations.ResetMeetsEveryInvariant := by
  have journal : State.reset.JournalSafe := by
    have face (f : Face) : State.reset.FaceAgrees f := by cases f <;> exact ⟨fun _ => ⟨rfl, rfl⟩, nofun, nofun⟩
    exact ⟨⟨Nat.zero_le _, by decide⟩, ⟨List.nodup_nil, nofun⟩, face _, face _⟩
  have tables : Claims.TablesBounded State.reset :=
    ⟨⟨Nat.zero_le _, List.nodup_nil⟩, HotlistFit.emptied.1, HotlistFit.emptied.2, Nat.zero_le _, Nat.zero_le _, List.nodup_nil⟩
  have aisle : Claims.AisleFits State.reset := by
    obtain ⟨hqueues, hone, hlock⟩ := Aisle.afterReset_ordered { beam1 := false, beam2 := false, beam3 := false, beam4 := false } false true
    exact ⟨hqueues, hone, hlock, ⟨nofun, nofun⟩, ⟨nofun, nofun⟩, nofun⟩
  have values : Claims.ValuesInRange State.reset :=
    ⟨JournalFit.emptied, Nat.zero_le _, ⟨Nat.zero_le _, Nat.zero_le _⟩, Clock.afterReset_fit.1, Clock.afterReset_fit.2, rfl, rfl⟩
  exact ⟨journal, tables, aisle, values⟩

end Sys2Proof.Machine
end

section
/-! SUPPORT. The journal's books: its load is the records held and the obligations together, and `Even` says that an operation leaves
faces, context states and tear table as they were and adds no load but a spare record's. -/

namespace Sys2Proof.Machine

-- One declaration at a time: each waiting elaboration thread counts against the memory limit of the one text.
set_option Elab.async false

/-! ### The load -/

/-- The records held and the obligations together: the margin holds while they fit in the journal (R187). -/
def State.load (s : State) : Nat := s.journal.records.length + s.obligations

theorem State.margin_iff (s : State) : s.Margin ↔ s.load ≤ journalSize := by
  unfold State.Margin State.load State.freeSlots
  omega

/-- The entries of both queues. -/
def Aisle.queued (a : Aisle) : Nat := a.queues.entry.length + a.queues.exit.length

/-- The part of the load that contexts and tear table have no share in. -/
def State.booked (s : State) : Nat := s.journal.records.length + s.aisle.queued

theorem State.load_eq (s : State) :
    s.load = s.booked + contextShare s.contexts.street + contextShare s.contexts.paid + tornCount s.tears := by
  simp only [State.load, State.obligations, State.booked, Aisle.queued]
  omega

/-- The load with the shares of a face's context and of the other's. -/
theorem State.load_eq_of_face (s : State) (f : Face) :
    s.load = s.booked + contextShare (s.context f) + contextShare (s.context f.other) + tornCount s.tears := by
  rw [State.load_eq]
  cases f
  · rfl
  · simp only [State.context, PerFace.get, Face.other]
    omega

/-- The entries of both queues once one of them is `l`. -/
theorem PerDirection.length_set {α : Type} (p : PerDirection (List α)) (d : Direction) (l : List α) :
    (p.set d l).entry.length + (p.set d l).exit.length + (p.get d).length = p.entry.length + p.exit.length + l.length := by
  cases d
  · simp only [PerDirection.set, PerDirection.get]
    omega
  · simp only [PerDirection.set, PerDirection.get]
    omega

/-! ### What leaves the books even -/

/-- Faces, context states and card numbers stand, and the tear table gains nothing. -/
structure Alike (s t : State) : Prop where
  faces : t.faces = s.faces
  state : ∀ g, (t.context g).state = (s.context g).state
  number : ∀ g, (t.context g).number = (s.context g).number
  tears : t.tears.Sublist s.tears

/-- Also, the load is no more, but for spare records within the journal. -/
structure Even (s t : State) : Prop extends Alike s t where
  load : t.load ≤ max s.load journalSize

theorem contextShare_of_state {c d : Context} (h : c.state = d.state) : contextShare c = contextShare d := by
  rw [contextShare, contextShare, h]

theorem Even.of_booked {s t : State} (hfaces : t.faces = s.faces := by simp)
    (hstate : ∀ g, (t.context g).state = (s.context g).state := by simp [State.context])
    (hnumber : ∀ g, (t.context g).number = (s.context g).number := by simp [State.context])
    (htears : t.tears.Sublist s.tears := by simp) (hbooked : t.booked ≤ s.booked := by simp [State.booked]) : Even s t := by
  refine ⟨⟨hfaces, hstate, hnumber, htears⟩, le_max_of_le_left ?_⟩
  have hstreet := contextShare_of_state (hstate .street)
  have hpaid := contextShare_of_state (hstate .paid)
  simp only [State.context, PerFace.get] at hstreet hpaid
  have htorn : tornCount t.tears ≤ tornCount s.tears := htears.countP_le
  rw [State.load_eq, State.load_eq, hstreet, hpaid]
  omega

/-- The books of the same contexts. -/
theorem Even.of_contexts {s t : State} (hcontexts : t.contexts = s.contexts := by simp) (hfaces : t.faces = s.faces := by simp)
    (htears : t.tears.Sublist s.tears := by simp) (hbooked : t.booked ≤ s.booked := by simp [State.booked]) : Even s t :=
  Even.of_booked hfaces (fun g => by rw [State.context, hcontexts]; rfl) (fun g => by rw [State.context, hcontexts]; rfl) htears
    hbooked

theorem Even.refl (s : State) : Even s s := Even.of_contexts

theorem Even.trans {s t u : State} (h : Even s t) (g : Even t u) : Even s u where
  faces := g.faces.trans h.faces
  state f := (g.state f).trans (h.state f)
  number f := (g.number f).trans (h.number f)
  tears := g.tears.trans h.tears
  load := g.load.trans (max_le h.load (le_max_right _ _))

theorem Even.after {s t u : State} (g : Even t u) (h : Even s t) : Even s u := h.trans g

theorem Alike.face {s t : State} (h : Alike s t) (f : Face) : t.face f = s.face f := by
  rw [State.face, h.faces]
  rfl

theorem Even.foldl {α : Type} {g : State → α → State} (h : ∀ t x, Even t (g t x)) (l : List α) (s : State) :
    Even s (l.foldl g s) := by
  induction l generalizing s with
  | nil => exact Even.refl s
  | cons x xs ih => exact (h s x).trans (ih _)

/-! ### The shared operations -/

theorem State.raise_even (s : State) (g : Flag) : Even s (s.raise g) := Even.of_contexts
theorem State.drew_even (s : State) (n : Nat) : Even s (s.drew n) := Even.of_contexts
theorem State.setLink_even (s : State) (l : Link) : Even s (s.setLink l) := Even.of_contexts
theorem State.setRing_even (s : State) (r : Ring) : Even s (s.setRing r) := Even.of_contexts
theorem State.setService_even (s : State) (v : Service) : Even s (s.setService v) := Even.of_contexts
theorem State.setFare_even (s : State) (u : FareUnit) : Even s (s.setFare u) := Even.of_contexts
theorem State.setCheck_even (s : State) (u : CardCheck) : Even s (s.setCheck u) := Even.of_contexts
theorem State.setHotlist_even (s : State) (h : Hotlist) : Even s (s.setHotlist h) := Even.of_contexts
theorem State.setWatch_even (s : State) (w : Watch) : Even s (s.setWatch w) := Even.of_contexts
theorem State.setSightings_even (s : State) (l : List SightingEntry) : Even s { s with sightings := l } := Even.of_contexts

/-- What touches of the aisle all but its queues. -/
theorem State.setAisle_even (s : State) {a : Aisle} (h : a.queued ≤ s.aisle.queued := by exact le_rfl) : Even s (s.setAisle a) :=
  Even.of_contexts (hbooked := by simpa [State.booked] using h)

/-- A context that keeps its state and its name answer. -/
theorem State.setContext_even (s : State) (f : Face) {c : Context} (hstate : c.state = (s.context f).state := by rfl)
    (hname : c.name = (s.context f).name := by rfl) : Even s (s.setContext f c) := by
  have hnumber : c.number = (s.context f).number := by rw [Context.number, hname]; rfl
  refine Even.of_booked (hstate := fun g => ?_) (hnumber := fun g => ?_)
  · rcases Face.eq_or_other f g with rfl | rfl
    · rw [State.setContext_context, hstate]
    · rw [State.setContext_context_other]
  · rcases Face.eq_or_other f g with rfl | rfl
    · rw [State.setContext_context, hnumber]
    · rw [State.setContext_context_other]

theorem State.askTone_even (s : State) (f : Face) (t : ShortTone) : Even s (s.askTone f t) := by
  unfold State.askTone
  split
  · exact Even.refl s
  · exact s.setAisle_even

theorem State.fillWatchSequence_even (s : State) (f : Face) (q : Word) : Even s (s.fillWatchSequence f q) := Even.of_contexts

theorem State.send_even (s : State) (m : RingMessage) : Even s (s.send m) := Even.of_contexts
theorem State.sendCommitted_even (s : State) (n : CardNumber) (x : Sighting) : Even s (s.sendCommitted n x) := Even.of_contexts
theorem State.sendDropped_even (s : State) (f : Face) : Even s (s.sendDropped f) := Even.of_contexts
theorem State.recordSighting_even (s : State) (n : CardNumber) (x : Sighting) : Even s (s.recordSighting n x) := Even.of_contexts
theorem State.localAdd_even (s : State) (n : CardNumber) (b : Bool) : Even s (s.localAdd n b) := Even.of_contexts
theorem State.endBlockMark_even (s : State) (f : Face) : Even s (s.endBlockMark f) := Even.of_contexts
theorem State.isolate_even (s : State) : Even s s.isolate := Even.of_contexts
theorem State.sendCensus_even (s : State) : Even s s.sendCensus := Even.of_contexts
theorem State.censusHome_even (s : State) (h : Byte) : Even s (s.censusHome h) := Even.of_contexts

/-! ### Notes and own holds -/

/-- A note, the contested mark or a late finding leaves state and name answer. -/
theorem Context.takeLate_keeps (c : Context) (k : EvidenceKind) :
    (c.takeLate k).state = c.state ∧ (c.takeLate k).name = c.name := by
  unfold Context.takeLate
  split <;> simp

theorem Context.receive_keeps (c : Context) (n : Note) : (c.receive n).state = c.state ∧ (c.receive n).name = c.name :=
  Context.takeLate_keeps _ _

theorem Context.markContested_keeps (c : Context) : c.markContested.state = c.state ∧ c.markContested.name = c.name :=
  Context.takeLate_keeps _ _

theorem State.noteHolders_even (s : State) (n : CardNumber) (x : Note) : Even s (s.noteHolders n x) := by
  have given (c : Context) : (if c.holds n = true then c.receive x else c).state = c.state
      ∧ (if c.holds n = true then c.receive x else c).name = c.name := by
    split
    · exact c.receive_keeps x
    · exact ⟨rfl, rfl⟩
  refine Even.of_booked (hstate := fun g => ?_) (hnumber := fun g => ?_)
  · cases g <;> exact (given _).1
  · rw [Context.number, Context.number]
    cases g <;> exact congrArg (fun x => (x.map (·.number)).getD 0) (given _).2

theorem State.setOwnHold_even (s : State) (f : Face) : Even s (s.setOwnHold f) := by
  have taken (c : Context) (l : List SightingEntry) (hs : c.state = (s.context f).state) (hn : c.name = (s.context f).name) :
      Even s { s.setContext f c with sightings := l } := (State.setSightings_even _ l).after (s.setContext_even f hs hn)
  unfold State.setOwnHold
  simp only
  split
  · exact s.setContext_even f
  · split
    · split
      · exact s.setContext_even f
      · refine Even.after (State.setContext_even _ _ ?_ ?_) (s.setContext_even f ?_ ?_)
        · rw [(Context.markContested_keeps _).1, State.setContext_context_other]
        · rw [(Context.markContested_keeps _).2, State.setContext_context_other]
        · exact (Context.markContested_keeps _).1
        · exact (Context.markContested_keeps _).2
    · split
      · exact taken _ _ rfl rfl
      · exact taken _ _ (Context.receive_keeps _ _).1 (Context.receive_keeps _ _).2
    · exact taken _ _ rfl rfl

theorem State.releaseOwnHold_even (s : State) (f : Face) : Even s (s.releaseOwnHold f) := by
  have released (l : List SightingEntry) :
      Even s { s.setContext f { s.context f with ownHold := false, holdsEntry := false } with sightings := l } :=
    (State.setSightings_even _ l).after (s.setContext_even f)
  unfold State.releaseOwnHold
  simp only
  split
  · split
    · split
      · split
        · exact released _
        · exact released _
      · exact s.setContext_even f
    · exact s.setContext_even f
  · exact s.setContext_even f

/-! ### Evidence and the watch unit -/

theorem State.turnToBlock_even (s : State) (f : Face) (k : EvidenceKind) : Even s (s.turnToBlock f k).2 := by
  have alerted (n : CardNumber) (m : RingMessage) : Even s ((s.localAdd n true).send m) :=
    (State.send_even _ m).after (s.localAdd_even n true)
  unfold State.turnToBlock
  simp only
  split
  · exact (State.setContext_even _ f).after (alerted _ _)
  · exact alerted _ _

theorem State.findEvidence_even (s : State) (f : Face) (k : EvidenceKind) : Even s (s.findEvidence f k).2 := by
  have found (c : Context) (hs : c.state = (s.context f).state) (hn : c.name = (s.context f).name) :
      Even s ((s.raise .clone).setContext f c) := (State.setContext_even (s.raise .clone) f hs hn).after (s.raise_even _)
  unfold State.findEvidence
  simp only
  split
  · exact found _ rfl rfl
  · exact found _ rfl rfl
  · exact (State.turnToBlock_even _ f k).after (found _ rfl rfl)

theorem State.findAll_even (s : State) (f : Face) (l : List EvidenceKind) : Even s (s.findAll f l).2 := by
  induction l generalizing s with
  | nil => exact Even.refl s
  | cons k ks ih =>
    have h := s.findEvidence_even f k
    unfold State.findAll
    generalize s.findEvidence f k = x at h ⊢
    obtain ⟨v, t⟩ := x
    cases v with
    | carryOn => exact h.trans (ih t)
    | block => exact h
    | refused =>
      simp only
      split
      · exact h.trans (t.send_even _)
      · exact h

theorem State.nameEvidence_even (s : State) (f : Face) (x : CardStatus) : Even s (s.nameEvidence f x).2 := by
  have h : Even s (if x = .blocked then s.findEvidence f .blocked else (.carryOn, s)).2 := by
    split
    · exact s.findEvidence_even f _
    · exact Even.refl s
  unfold State.nameEvidence
  generalize (if x = .blocked then s.findEvidence f .blocked else (.carryOn, s) : Finding × State) = y at h ⊢
  obtain ⟨v, t⟩ := y
  cases v with
  | carryOn =>
    simp only
    split
    · exact h.trans (t.findEvidence_even f _)
    · exact h
  | refused => exact h
  | block => exact h

theorem State.startWatchAlarm_even (s : State) : Even s s.startWatchAlarm := s.setAisle_even

theorem State.evaluateWatch_even (s : State) (f : Face) (v : WatchValues) : Even s (s.evaluateWatch f v).2 := by
  have written (w : Watch) : Even s { s with watch := w } := s.setWatch_even w
  unfold State.evaluateWatch
  split
  · split
    · exact written _
    · have filled (w : Watch) (m : Byte) :
          Even s (({ s with watch := w }.raise .watch).setContext f { s.context f with watchUnits := some m }) :=
        (State.setContext_even _ f).after ((State.raise_even _ _).after (written w))
      simp only
      split
      · exact filled _ _
      · exact filled _ _
      · exact (State.startWatchAlarm_even _).after (filled _ _)
  · exact Even.refl s

/-! ### Records and the aisle's queues -/

theorem State.append_records (s : State) (k : RecordKind) (x : Stamp) (f : Face) (y : RecordFields) :
    (s.append k x f y).journal.records.length = s.journal.records.length + 1 := by
  unfold State.append
  simp only
  split <;> simp

/-- A record adds one to the load. -/
theorem State.append_load (s : State) (k : RecordKind) (x : Stamp) (f : Face) (y : RecordFields) :
    (s.append k x f y).load = s.load + 1 := by
  simp only [State.load_eq, State.booked, State.append_records, State.append_keeps]
  omega

/-- A spare record is written only where it fits (R189). -/
theorem State.appendSpare_even (s : State) (k : RecordKind) (f : Face) (y : RecordFields) : Even s (s.appendSpare k f y) := by
  refine ⟨⟨by simp, by simp [State.context], by simp [State.context], by simp⟩, ?_⟩
  unfold State.appendSpare
  split
  · rename_i hspare
    rw [State.append_load]
    refine le_max_of_le_right ?_
    simp only [State.load, State.freeSlots] at hspare ⊢
    omega
  · exact le_max_left _ _

theorem State.lateAlert_even (s : State) (f : Face) (k : EvidenceKind) (q : Word) : Even s (s.lateAlert f k q) :=
  (State.raise_even _ _).after (s.appendSpare_even _ _ _)

theorem State.count_even (s : State) (d : Direction) (g : PassageCounters → PassageCounters) : Even s (s.count d g) :=
  s.setAisle_even

theorem Aisle.queued_of_queues {a b : Aisle} (h : b.queues = a.queues) : b.queued = a.queued := by
  rw [Aisle.queued, Aisle.queued, h]

theorem State.checkLock_even (s : State) : Even s s.checkLock :=
  s.setAisle_even (Aisle.queued_of_queues s.aisle.checkLock_keeps.1).le

theorem State.refreshClose_even (s : State) (t : Word) : Even s (s.setAisle (s.aisle.refreshClose t)) :=
  s.setAisle_even (Aisle.queued_of_queues (s.aisle.refreshClose_keeps t).1).le

/-- One direction's queue becomes no longer. -/
theorem State.setQueue_even (s : State) (d : Direction) {q : List QueueEntry} (hlen : q.length ≤ (s.aisle.queues.get d).length)
    {a : Aisle} (ha : a.queues = s.aisle.queues.set d q) : Even s (s.setAisle a) := by
  have := s.aisle.queues.length_set d q
  exact s.setAisle_even (by simp only [Aisle.queued, ha]; omega)

theorem State.dropReserved_even (s : State) (f : Face) : Even s (s.dropReserved f) :=
  (State.checkLock_even _).after (s.setQueue_even f.direction List.eraseP_sublist.length_le rfl)

theorem State.dropReservation_even (s : State) (f : Face) : Even s (s.dropReservation f) := by
  unfold State.dropReservation
  split
  · exact (State.setContext_even _ f).after (s.dropReserved_even f)
  · exact Even.refl s

theorem State.removeReservation_even (s : State) (f : Face) : Even s (s.removeReservation f) := by
  unfold State.removeReservation
  split
  · exact (State.setContext_even _ f).after (s.dropReserved_even f)
  · exact Even.refl s

theorem State.grant_even (s : State) (f : Face) (q : Word) : Even s (s.grant f q) := by
  unfold State.grant
  split
  · refine (State.count_even _ _ _).after (s.setQueue_even f.direction (length_updateFirst (QueueEntry.isReservedBy f)
      (fun e => { e with state := .granted q s.now s.grantLifetimeMs false }) _).le ?_)
    split <;> simp
  · exact Even.refl s

/-- Entries that leave the queues make room for the records of their ends. -/
theorem foldl_append_even {α : Type} {s u : State} {l : List α} {g : State → α → State}
    (hfaces : u.faces = s.faces) (hcontexts : u.contexts = s.contexts) (htears : u.tears = s.tears)
    (hload : u.load + l.length ≤ s.load)
    (hg : ∀ t x, (g t x).faces = t.faces ∧ (g t x).contexts = t.contexts ∧ (g t x).tears = t.tears ∧ (g t x).load = t.load + 1) :
    Even s (l.foldl g u) := by
  induction l generalizing u with
  | nil =>
    refine ⟨⟨hfaces, fun f => ?_, fun f => ?_, htears ▸ List.Sublist.refl _⟩, le_max_of_le_left hload⟩
    · rw [List.foldl_nil, State.context, hcontexts]; rfl
    · rw [List.foldl_nil, State.context, hcontexts]; rfl
  | cons x xs ih =>
    obtain ⟨h1, h2, h3, h4⟩ := hg u x
    refine ih (h1.trans hfaces) (h2.trans hcontexts) (h3.trans htears) ?_
    rw [h4]
    simp only [List.length_cons] at hload
    omega

theorem State.recordPassage_load (s : State) (o : PassageOutcome) (e : QueueEntry) : (s.recordPassage o e).load = s.load + 1 :=
  s.append_load _ _ _ _

theorem State.recordExpired_load (s : State) (d : Direction) (e : QueueEntry) : (s.recordExpired d e).load = s.load + 1 :=
  s.append_load _ _ _ _

theorem length_filter_add_not {α : Type} (p : α → Bool) (l : List α) :
    (l.filter p).length + (l.filter fun x => !p x).length = l.length :=
  (List.length_eq_length_filter_add p).symm

/-- The load with other queues: records, contexts and tear table as they were. -/
theorem State.setAisle_load (s : State) (a : Aisle) : (s.setAisle a).load + s.aisle.queued = s.load + a.queued := by
  simp only [State.load_eq, State.booked, State.setAisle_journal, State.setAisle_aisle, State.setAisle_contexts,
    State.setAisle_tears]
  omega

theorem State.cancelGrants_even (s : State) : Even s s.cancelGrants := by
  refine foldl_append_even rfl rfl rfl ?_ fun t e =>
    ⟨by simp, by simp, by simp, t.recordPassage_load _ e⟩
  have hentry := length_filter_add_not QueueEntry.isGranted s.aisle.queues.entry
  have hexit := length_filter_add_not QueueEntry.isGranted s.aisle.queues.exit
  have hload := s.setAisle_load { s.aisle with queues :=
    { entry := s.aisle.queues.entry.filter fun e => !e.isGranted, exit := s.aisle.queues.exit.filter fun e => !e.isGranted } }
  simp only [List.filter_append, List.length_append]
  simp only [Aisle.queued] at hload
  omega

theorem State.setQueue_load (s : State) (d : Direction) (q : List QueueEntry) {a : Aisle} (ha : a.queues = s.aisle.queues.set d q) :
    (s.setAisle a).load + (s.aisle.queues.get d).length = s.load + q.length := by
  have hload := s.setAisle_load a
  have hlen := s.aisle.queues.length_set d q
  simp only [Aisle.queued, ha] at hload
  omega

theorem State.expireDeferred_even (s : State) (d : Direction) : Even s (s.expireDeferred d) := by
  refine foldl_append_even rfl rfl rfl ?_ fun t e => ⟨by simp, by simp, by simp, t.recordExpired_load d e⟩
  have hlen := length_filter_add_not QueueEntry.isDeferred (s.aisle.queues.get d)
  have hload := s.setQueue_load d ((s.aisle.queues.get d).filter fun e => !e.isDeferred)
    (a := { s.aisle with queues := s.aisle.queues.set d ((s.aisle.queues.get d).filter fun e => !e.isDeferred) }) rfl
  omega

/-- An entry that leaves its queue makes room for the record of its end. -/
theorem State.takeEntry_load (s : State) (d : Direction) {p : QueueEntry → Bool} {e : QueueEntry}
    (h : (s.aisle.queues.get d).find? p = some e) {a : Aisle} (ha : a.queues = s.aisle.queues.set d ((s.aisle.queues.get d).eraseP p)) :
    (s.setAisle a).load + 1 = s.load := by
  have hlen := List.length_eraseP_of_mem (List.mem_of_find?_eq_some h) (List.find?_some h)
  have hpos := List.length_pos_of_mem (List.mem_of_find?_eq_some h)
  have hload := s.setQueue_load d _ ha
  omega

theorem State.expireGrant_even (s : State) (d : Direction) {p : QueueEntry → Bool} {e : QueueEntry}
    (h : (s.aisle.queues.get d).find? p = some e) : Even s (s.expireGrant d p e) := by
  refine (State.refreshClose_even _ _).after ((State.checkLock_even _).after ?_)
  refine ⟨⟨by simp, by simp [State.context], by simp [State.context], by simp⟩, le_max_of_le_left ?_⟩
  rw [State.recordExpired_load, s.takeEntry_load d h rfl]

theorem State.consume_even (s : State) (r : Run) (d : Direction) {e : QueueEntry}
    (h : (s.aisle.queues.get d).find? QueueEntry.isGranted = some e) : Even s (s.consume r d e) := by
  refine (State.checkLock_even _).after ((State.count_even _ _ _).after ?_)
  refine ⟨⟨by simp, by simp [State.context], by simp [State.context], by simp⟩, le_max_of_le_left ?_⟩
  rw [State.recordPassage_load, s.takeEntry_load d h rfl]

/-! ### Crossings and runs -/

theorem State.passageAlarm_even (s : State) (r : Run) (o : PassageOutcome) : Even s (s.passageAlarm r o) :=
  (State.appendSpare_even _ _ _ _).after ((State.setAisle_even _).after ((State.raise_even _ _).after (s.count_even _ _)))

theorem State.classify_even (s : State) (r : Run) : Even s (s.classify r) := by
  unfold State.classify
  split
  · split
    · exact s.passageAlarm_even r _
    · split
      · exact s.consume_even r .entry ‹_›
      · exact s.passageAlarm_even r _
    · split
      · exact s.consume_even r .exit ‹_›
      · exact s.passageAlarm_even r _
  · exact Even.refl s

theorem State.withdrawRun_even (s : State) (r : Run) : Even s (s.withdrawRun r) := by
  unfold State.withdrawRun
  split
  · exact s.count_even _ _
  · exact Even.refl s

theorem State.endRun_even (s : State) (t : Word) : Even s (s.endRun t) := by
  unfold State.endRun
  split
  · exact Even.refl s
  · rename_i r _
    refine (State.refreshClose_even _ t).after ((State.checkLock_even _).after ((State.setAisle_even _).after ?_))
    have alarm : Even s (if r.alarmed then
        (s.withdrawRun r).setAisle { (s.withdrawRun r).aisle with passageAlarm := .since t } else s.withdrawRun r) := by
      split
      · exact (State.setAisle_even _).after (s.withdrawRun_even r)
      · exact s.withdrawRun_even r
    split
    · exact (State.expireDeferred_even _ _).after alarm
    · exact (State.expireDeferred_even _ _).after alarm
    · exact alarm

theorem State.beamBlocked_even (s : State) (b : Beam) (t : Word) : Even s (s.beamBlocked b t) := by
  have last (v : State) :
      Even v (v.setAisle (if v.aisle.leaf = .closing then v.aisle.startOpening v.now else v.aisle.refreshClose v.now)) := by
    refine v.setAisle_even (Aisle.queued_of_queues ?_).le
    split <;> simp
  unfold State.beamBlocked
  simp only
  refine (last _).after ?_
  split
  · exact s.setAisle_even
  · split
    · exact (State.classify_even _ _).after s.setAisle_even
    · exact s.setAisle_even

theorem State.beamCleared_even (s : State) (b : Beam) (t : Word) : Even s (s.beamCleared b t) := by
  unfold State.beamCleared
  simp only
  split
  · exact (State.endRun_even _ t).after s.setAisle_even
  · exact s.setAisle_even

theorem State.unstick_even (s : State) (b : Beam) : Even s (s.unstick b) := s.setAisle_even

end Sys2Proof.Machine
end

section
/-! SUPPORT. The journal's margin through the events of a tap: the tear table's entries come and go with their records, a transaction's
record ends its context's share of the obligations, and the face leaves SERVING with its context at rest or asks its next command. -/

namespace Sys2Proof.Machine

-- One declaration at a time: each waiting elaboration thread counts against the memory limit of the one text.
set_option Elab.async false

/-! ### The tear table -/

/-- No PENDING entry is the face's. -/
def State.NoPending (s : State) (f : Face) : Prop := ∀ e ∈ s.tears, e.state = .pending → e.face ≠ f

theorem findTear_number {l : List TearEntry} {n : CardNumber} {e : TearEntry} (h : findTear l n = some e) : e.number = n := by
  simpa using List.find?_some h

theorem mem_of_findTear {l : List TearEntry} {n : CardNumber} {e : TearEntry} (h : findTear l n = some e) : e ∈ l :=
  List.mem_of_find?_eq_some h

theorem findTear_eq_none {l : List TearEntry} {n : CardNumber} (h : findTear l n = none) : ∀ e ∈ l, e.number ≠ n := by
  simpa [findTear] using h

theorem mem_removeTear {l : List TearEntry} {n : CardNumber} {e : TearEntry} : e ∈ removeTear l n ↔ e ∈ l ∧ e.number ≠ n := by
  simp [removeTear]

theorem removeTear_sublist (l : List TearEntry) (n : CardNumber) : (removeTear l n).Sublist l := List.filter_sublist

/-- A TORN entry that goes takes its share of the obligations along. -/
theorem tornCount_removeTear {l : List TearEntry} {e : TearEntry} (he : e ∈ l) (hs : e.state ≠ .pending) :
    tornCount (removeTear l e.number) + 1 ≤ tornCount l := by
  have hsplit := List.countP_eq_countP_filter_add l (fun x => decide (x.state ≠ .pending)) fun x => decide (x.number ≠ e.number)
  have hpos : 0 < (l.filter fun x => !decide (x.number ≠ e.number)).countP fun x => decide (x.state ≠ .pending) :=
    List.countP_pos_iff.mpr ⟨e, by simp [he], by simpa using hs⟩
  have hsplit : tornCount l = tornCount (removeTear l e.number)
      + (l.filter fun x => !decide (x.number ≠ e.number)).countP fun x => decide (x.state ≠ .pending) := hsplit
  omega

theorem State.dropTear_even (s : State) (n : CardNumber) : Even s (s.dropTear n) :=
  Even.of_contexts rfl rfl (removeTear_sublist _ _) le_rfl

/-- A record beside a TORN entry that goes. -/
theorem Even.of_record {s t : State} {e : TearEntry} (he : e ∈ s.tears) (hs : e.state ≠ .pending)
    (hfaces : t.faces = s.faces := by simp [State.dropTear]) (hcontexts : t.contexts = s.contexts := by simp [State.dropTear])
    (htears : t.tears = removeTear s.tears e.number := by simp [State.dropTear])
    (hload : t.load + tornCount s.tears = s.load + 1 + tornCount t.tears) : Even s t := by
  refine ⟨⟨hfaces, fun g => ?_, fun g => ?_, htears ▸ removeTear_sublist _ _⟩, le_max_of_le_left ?_⟩
  · rw [State.context, hcontexts]; rfl
  · rw [State.context, hcontexts]; rfl
  · have := tornCount_removeTear he hs
    rw [htears] at hload
    omega

theorem State.dropTear_load (s : State) (n : CardNumber) :
    (s.dropTear n).load + tornCount s.tears = s.load + tornCount (s.dropTear n).tears := by
  simp only [State.load_eq, State.booked, State.dropTear]
  omega

theorem State.resolveTear_even {s : State} (o : TearOutcome) {e : TearEntry} (c : Option Half) (he : e ∈ s.tears)
    (hs : e.state ≠ .pending) : Even s (s.resolveTear o e c) := by
  refine Even.of_record he hs (by simp [State.resolveTear, State.dropTear]) (by simp [State.resolveTear, State.dropTear])
    (by simp [State.resolveTear, State.dropTear]) ?_
  have hload := s.dropTear_load e.number
  rw [State.resolveTear, State.append_load]
  simp only [State.append_keeps]
  omega

theorem State.resolveTear_tears (s : State) (o : TearOutcome) (e : TearEntry) (c : Option Half) :
    (s.resolveTear o e c).tears = removeTear s.tears e.number := by
  simp [State.resolveTear, State.dropTear]

theorem tearVictim_torn {s : State} {v : TearEntry} (h : s.tearVictim = some v) : v ∈ s.tears ∧ v.state ≠ .pending := by
  have hmem : v ∈ oldestTears s.now s.tears := List.mem_of_getElem? h
  obtain ⟨hv, hage⟩ := List.mem_filter.mp hmem
  refine ⟨hv, fun hp => ?_⟩
  simp [TearEntry.age, hp] at hage

theorem State.tearRoom_even (s : State) : Even s s.tearRoom := by
  unfold State.tearRoom
  split
  · exact Even.refl s
  · split
    · rename_i v hv
      obtain ⟨hmem, htorn⟩ := tearVictim_torn hv
      exact (State.raise_even _ _).after ((State.resolveTear_even (s := s.drew 1) _ _ hmem htorn).after (s.drew_even 1))
    · exact Even.refl s

theorem State.expireTear_even {s : State} {e : TearEntry} (he : e ∈ s.tears) (hs : e.state ≠ .pending) :
    Even s (s.expireTear e) := (State.raise_even _ _).after (State.resolveTear_even _ _ he hs)

theorem State.expireTear_tears (s : State) (e : TearEntry) : (s.expireTear e).tears = removeTear s.tears e.number :=
  s.resolveTear_tears _ _ _

/-- TORN entries of different numbers expire one after the other. -/
theorem foldl_expireTear_even {l : List TearEntry} (hl : (l.map (·.number)).Nodup) {s : State}
    (h : ∀ e ∈ l, e ∈ s.tears ∧ e.state ≠ .pending) : Even s (l.foldl (fun t e => t.expireTear e) s) := by
  induction l generalizing s with
  | nil => exact Even.refl s
  | cons e es ih =>
    obtain ⟨hmem, htorn⟩ := h e (by simp)
    obtain ⟨hnew, hrest⟩ := List.nodup_cons.mp hl
    refine (State.expireTear_even hmem htorn).trans (ih hrest fun x hx => ?_)
    obtain ⟨hxmem, hxtorn⟩ := h x (List.mem_cons_of_mem _ hx)
    refine ⟨?_, hxtorn⟩
    rw [State.expireTear_tears, mem_removeTear]
    exact ⟨hxmem, fun hn => hnew (List.mem_map.mpr ⟨x, hx, hn⟩)⟩

theorem freelyOrdered_perm {α : Type} (n : Nat) (l : List α) : (freelyOrdered n l).Perm l := by
  induction l generalizing n with
  | nil => exact List.Perm.refl _
  | cons x xs ih =>
    have hle : Config.freeChoice n % ((freelyOrdered (n + 1) xs).length + 1) ≤ (freelyOrdered (n + 1) xs).length :=
      Nat.le_of_lt_succ (Nat.mod_lt _ (Nat.succ_pos _))
    exact (List.perm_insertIdx x _ hle).trans ((ih (n + 1)).cons x)

theorem windowPassed_torn {s : State} {e : TearEntry} (h : s.windowPassed e = true) : e.state ≠ .pending := fun hp => by
  simp [State.windowPassed, hp] at h

theorem State.expireTears_even {s : State} (h : (s.tears.map (·.number)).Nodup) : Even s s.expireTears := by
  have hperm := freelyOrdered_perm s.freeCount (s.tears.filter s.windowPassed)
  refine Even.trans (s.drew_even _) (foldl_expireTear_even ?_ fun e he => ?_)
  · exact (hperm.map _).nodup_iff.mpr (h.sublist (List.filter_sublist.map _))
  · obtain ⟨hmem, hpassed⟩ := List.mem_filter.mp (hperm.mem_iff.mp he)
    exact ⟨hmem, windowPassed_torn hpassed⟩

/-! ### Agreement through an even operation -/

theorem Alike.noPending {s t : State} (h : Alike s t) {f : Face} (hs : s.NoPending f) : t.NoPending f :=
  fun e he => hs e (h.tears.subset he)

theorem Alike.tearsAgree {s t : State} (h : Alike s t) (hs : s.TearsAgree) : t.TearsAgree := by
  obtain ⟨hnodup, hpending⟩ := hs
  refine ⟨hnodup.sublist (h.tears.map _), fun e he hp => ?_⟩
  obtain ⟨hcommitted, hnumber⟩ := hpending e (h.tears.subset he) hp
  exact ⟨by rw [h.state]; exact hcommitted, by rw [h.number]; exact hnumber⟩

theorem Alike.faceAgrees {s t : State} (h : Alike s t) {f : Face} (hs : s.FaceAgrees f) : t.FaceAgrees f := by
  unfold State.FaceAgrees
  rw [h.face, h.state]
  exact hs

theorem Even.load_le {s t : State} (h : Even s t) {k : Nat} (hs : s.load ≤ journalSize + k) : t.load ≤ journalSize + k :=
  h.load.trans (max_le hs (Nat.le_add_right _ _))

theorem journalSafe_iff (s : State) (f : Face) :
    s.JournalSafe ↔ s.load ≤ journalSize ∧ s.TearsAgree ∧ s.FaceAgrees f ∧ s.FaceAgrees f.other := by
  rw [State.JournalSafe, State.margin_iff]
  cases f
  · exact Iff.rfl
  · exact and_congr_right fun _ => and_congr_right fun _ => and_comm

theorem Even.safe {s t : State} (h : Even s t) (hs : s.JournalSafe) : t.JournalSafe := by
  obtain ⟨hload, htears, hstreet, hpaid⟩ := (journalSafe_iff s .street).mp hs
  exact (journalSafe_iff t .street).mpr
    ⟨h.load_le (k := 0) hload, h.tearsAgree htears, h.faceAgrees hstreet, h.faceAgrees hpaid⟩

/-- A face and its context agree alike in two states that hold the same of them. -/
theorem faceAgrees_congr {s t : State} {g : Face} (hf : t.face g = s.face g) (hc : t.context g = s.context g) :
    t.FaceAgrees g ↔ s.FaceAgrees g := by
  rw [State.FaceAgrees, State.FaceAgrees, hf, hc]

/-- A context of which no PENDING entry tells may become any other. -/
theorem State.TearsAgree.setContext {s : State} (h : s.TearsAgree) {f : Face} (hn : s.NoPending f) (c : Context) :
    (s.setContext f c).TearsAgree := by
  refine ⟨h.1, fun e he hp => ?_⟩
  rw [State.context, State.setContext_contexts, PerFace.get_set_ne _ _ (hn e he hp)]
  exact h.2 e he hp

/-- A context before its commit has no PENDING entry. -/
theorem State.TearsAgree.noPending {s : State} (h : s.TearsAgree) {f : Face} (hc : (s.context f).state.committed = false) :
    s.NoPending f := fun e he hp hf => by
  have := (h.2 e he hp).1
  rw [hf, hc] at this
  cases this

/-! ### The course of a tap -/

/-- Within an event of face `f`, which is SERVING: its exchange need not be the one its context waits for, and the load may pass
the journal by `k`. -/
structure Tapping (k : Nat) (f : Face) (s : State) : Prop where
  load : s.load ≤ journalSize + k
  tears : s.TearsAgree
  other : s.FaceAgrees f.other
  serving : (s.face f).state = .serving
  poll : (s.face f).poll = none

theorem Alike.tapping {s t : State} (h : Alike s t) {j k : Nat} {f : Face} (hs : Tapping j f s)
    (hload : t.load ≤ journalSize + k) : Tapping k f t where
  load := hload
  tears := h.tearsAgree hs.tears
  other := h.faceAgrees hs.other
  serving := by rw [h.face, hs.serving]
  poll := by rw [h.face, hs.poll]

theorem Even.tapping {s t : State} (h : Even s t) {k : Nat} {f : Face} (hs : Tapping k f s) : Tapping k f t :=
  h.toAlike.tapping hs (h.load_le hs.load)

theorem CtxState.not_atRest_of_admittedOpen {st : CtxState} (h : st.admittedOpen = true) : st.atRest = false := by
  cases st <;> first | rfl | cases h

theorem CtxState.not_admittedOpen_of_atRest {st : CtxState} (h : st.atRest = true) : st.admittedOpen = false := by
  cases st <;> first | rfl | cases h

theorem CtxState.not_committed_of_atRest {st : CtxState} (h : st.atRest = true) : st.committed = false := by
  cases st <;> first | rfl | cases h

/-- A context that is not at rest is that of a SERVING face. -/
theorem State.FaceAgrees.serving {s : State} {f : Face} (h : s.FaceAgrees f) (hc : (s.context f).state.atRest = false) :
    (s.face f).state = .serving := by
  by_contra hne
  rw [(h.1 hne).1] at hc
  cases hc

theorem State.FaceAgrees.poll_of_serving {s : State} {f : Face} (h : s.FaceAgrees f) (hs : (s.face f).state = .serving) :
    (s.face f).poll = none := by
  by_contra hne
  have := h.2.1 (Option.isSome_iff_ne_none.mpr hne)
  rw [hs] at this
  simp at this

theorem State.JournalSafe.tapping {s : State} (h : s.JournalSafe) {f : Face} (hs : (s.face f).state = .serving) :
    Tapping 0 f s := by
  obtain ⟨hload, htears, hf, hother⟩ := (journalSafe_iff s f).mp h
  exact ⟨hload, htears, hother, hs, hf.poll_of_serving hs⟩

theorem State.JournalSafe.tapping_of_state {s : State} (h : s.JournalSafe) {f : Face}
    (hc : (s.context f).state.atRest = false) : Tapping 0 f s :=
  h.tapping (((journalSafe_iff s f).mp h).2.2.1.serving hc)

theorem Tapping.noPending {k : Nat} {f : Face} {s : State} (h : Tapping k f s) (hc : (s.context f).state.committed = false) :
    s.NoPending f := h.tears.noPending hc

/-- With no exchange open, nothing is left to agree. -/
theorem Tapping.safe {f : Face} {s : State} (h : Tapping 0 f s) (hx : (s.face f).exchange = none) : s.JournalSafe := by
  refine (journalSafe_iff s f).mpr ⟨h.load, h.tears, ⟨fun hne => absurd h.serving hne, fun hp => ?_, fun e he => ?_⟩, h.other⟩
  · rw [h.poll] at hp
    cases hp
  · rw [hx] at he
    cases he

theorem State.setContext_load (s : State) (f : Face) (c : Context) :
    (s.setContext f c).load + contextShare (s.context f) = s.load + contextShare c := by
  rw [State.load_eq_of_face _ f, State.load_eq_of_face s f, State.setContext_context, State.setContext_context_other]
  simp only [State.booked, State.setContext_journal, State.setContext_aisle, State.setContext_tears]
  omega

/-- The context becomes another. -/
theorem Tapping.setContext {k : Nat} {f : Face} {s : State} (h : Tapping k f s) (hn : s.NoPending f) {c : Context} {j : Nat}
    (hload : s.load + contextShare c ≤ journalSize + j + contextShare (s.context f)) : Tapping j f (s.setContext f c) where
  load := by
    have := s.setContext_load f c
    omega
  tears := h.tears.setContext hn c
  other := (faceAgrees_congr (t := s.setContext f c) (s := s) rfl (s.setContext_context_other f c)).mpr h.other
  serving := h.serving
  poll := h.poll

theorem contextShare_of_open {c : Context} (h : c.state.admittedOpen = true) : contextShare c = 2 := by simp [contextShare, h]

theorem contextShare_of_closed {c : Context} (h : c.state.admittedOpen = false) : contextShare c = 0 := by simp [contextShare, h]

theorem contextShare_le (c : Context) : contextShare c ≤ 2 := by
  unfold contextShare
  split <;> omega

theorem State.setContext_load_le (s : State) (f : Face) (c : Context) : (s.setContext f c).load ≤ s.load + 2 := by
  have := s.setContext_load f c
  have := contextShare_le c
  omega

/-! ### The ends of an event -/

/-- The face leaves SERVING with its context at rest. -/
theorem Tapping.leave {f : Face} {s : State} (h : Tapping 0 f s) (hrest : (s.context f).state.atRest = true) {u : FaceUnit}
    (hx : u.exchange = none) (hp : u.poll = none) : (s.setFace f u).JournalSafe := by
  refine (journalSafe_iff _ f).mpr ⟨h.load, h.tears, ⟨fun _ => ⟨hrest, ?_⟩, fun hpoll => ?_, fun e he => ?_⟩, ?_⟩
  · rw [State.setFace_face, hx]
  · rw [State.setFace_face, hp] at hpoll
    cases hpoll
  · rw [State.setFace_face, hx] at he
    cases he
  · exact (faceAgrees_congr (s.setFace_face_other f u) rfl).mpr h.other

theorem CtxState.atRest_of_waiting {st : CtxState} (h : st.waiting = true) : st.atRest = true := by
  cases st <;> first | rfl | cases h

theorem CardCommand.not_fits_atRest {c : CardCommand} {st : CtxState} (h : st.atRest = true) : c.fits st = false := by
  cases c <;> cases st <;> first | rfl | cases h

/-- Card removed takes a waiting context to IDLE. -/
theorem State.JournalSafe.cardRemoved {s : State} (h : s.JournalSafe) (f : Face) : (s.cardRemoved f).JournalSafe := by
  unfold State.cardRemoved
  split
  · rename_i hw
    have hrest := CtxState.atRest_of_waiting hw
    obtain ⟨hload, htears, ⟨hserving, hpoll, hfits⟩, hother⟩ := (journalSafe_iff s f).mp h
    have hn := htears.noPending (CtxState.not_committed_of_atRest hrest)
    have hx : (s.face f).exchange = none := by
      by_contra hne
      obtain ⟨e, he⟩ := Option.ne_none_iff_exists'.mp hne
      have := hfits e he
      rw [CardCommand.not_fits_atRest hrest] at this
      cases this
    have hidle : (s.setContext f Context.idle).context f = Context.idle := s.setContext_context f _
    refine (journalSafe_iff _ f).mpr ⟨?_, htears.setContext hn _, ⟨fun _ => ⟨?_, hx⟩, hpoll, fun e he => ?_⟩, ?_⟩
    · have := s.setContext_load f Context.idle
      have hshare : contextShare Context.idle = 0 := rfl
      omega
    · rw [hidle]; rfl
    · rw [State.setContext_face, hx] at he
      cases he
    · exact (faceAgrees_congr (t := s.setContext f _) (s := s) rfl (s.setContext_context_other f _)).mpr hother
  · exact h

theorem Tapping.leaveServing_safe {f : Face} {s : State} (h : Tapping 0 f s) (hrest : (s.context f).state.atRest = true) :
    (s.leaveServing f).JournalSafe := by
  unfold State.leaveServing
  simp only [h.serving, if_true]
  split
  · exact (h.leave hrest rfl rfl).cardRemoved f
  · split
    · exact h.leave hrest rfl rfl
    · exact h.leave hrest rfl rfl

/-- The context comes to rest and the face leaves SERVING. -/
theorem Tapping.conclude_safe {f : Face} {s : State} (h : Tapping 0 f s) (hn : s.NoPending f) {st : CtxState}
    (hst : st.atRest = true) (i : Indication) (tone : Option ShortTone) : (s.conclude f st i tone).JournalSafe := by
  have rests (c : Context) (hc : c.state.atRest = true) (t : State) (ht : Even (s.setContext f c) t) :
      (t.leaveServing f).JournalSafe := by
    have hset : Tapping 0 f (s.setContext f c) :=
      h.setContext hn (by
        rw [contextShare_of_closed (CtxState.not_admittedOpen_of_atRest hc)]
        exact h.load.trans (Nat.le_add_right _ _))
    refine (ht.tapping hset).leaveServing_safe ?_
    rw [ht.state, State.setContext_context]
    exact hc
  have hc : (if st = .idle then Context.idle else { s.context f with state := st, indication := i }).state.atRest = true := by
    split
    · rfl
    · exact hst
  unfold State.conclude
  dsimp only
  split
  · exact rests _ hc _ (State.askTone_even _ _ _)
  · exact rests _ hc _ (Even.refl _)

/-- The context asks a card command that it then waits for. -/
theorem Tapping.ask_safe {f : Face} {s : State} (h : Tapping 0 f s) {c : CardCommand} (hfit : c.fits (s.context f).state = true) :
    (s.ask f c).JournalSafe := by
  have hface : (s.ask f c).face f = { s.face f with exchange := some { command := c, sentAt := s.now, resent := false } } :=
    s.setFace_face f _
  refine (journalSafe_iff _ f).mpr ⟨h.load, h.tears, ⟨fun hne => ?_, fun hp => ?_, fun e he => ?_⟩, ?_⟩
  · rw [hface] at hne
    exact absurd h.serving hne
  · rw [hface] at hp
    rw [show (s.face f).poll = none from h.poll] at hp
    cases hp
  · rw [hface] at he
    cases he
    exact hfit
  · exact (faceAgrees_congr (s.setFace_face_other f _) rfl).mpr h.other

/-! ### Transaction records -/

/-- The record of a transaction ends its context's share: the load is within the journal again, a late alert spare. -/
theorem Tapping.closeRecord {k : Nat} {f : Face} {s : State} (h : Tapping k f s) (hk : k ≤ 1)
    (ho : (s.context f).state.admittedOpen = true) (hn : s.NoPending f) (o : TxOutcome) (x : RecordFields) {n : CtxState}
    (hrest : n.atRest = true) :
    Tapping 0 f (s.closeRecord f o x n) ∧ (s.closeRecord f o x n).NoPending f := by
  have happend : Tapping (k + 1) f (s.append (.transaction o) s.stamp f x) :=
    Alike.tapping ⟨by simp, by simp [State.context], by simp [State.context], by simp⟩ h
      (by rw [State.append_load]; have := h.load; omega)
  have hfilled := (State.fillWatchSequence_even (s.append (.transaction o) s.stamp f x) f s.journal.next).tapping happend
  have hn1 : ((s.append (.transaction o) s.stamp f x).fillWatchSequence f s.journal.next).NoPending f := by
    intro e he
    exact hn e (by simpa using he)
  have hstate : (((s.append (.transaction o) s.stamp f x).fillWatchSequence f s.journal.next).context f).state
      = (s.context f).state := by simp [State.context]
  have hclosed (c : Context) (hc : c.state = n) :
      Tapping 0 f (((s.append (.transaction o) s.stamp f x).fillWatchSequence f s.journal.next).setContext f c) := by
    refine hfilled.setContext hn1 ?_
    rw [contextShare_of_closed (c := c) (by rw [hc]; exact CtxState.not_admittedOpen_of_atRest hrest),
      contextShare_of_open (c := State.context _ f) (by rw [hstate]; exact ho)]
    have := hfilled.load
    omega
  unfold State.closeRecord
  dsimp only
  split
  · exact ⟨(State.lateAlert_even _ f _ _).tapping (hclosed _ rfl), (State.lateAlert_even _ f _ _).noPending hn1⟩
  · exact ⟨hclosed _ rfl, hn1⟩

theorem State.cleanUp_even (s : State) (f : Face) : Even s (s.cleanUp f) :=
  (State.endBlockMark_even _ f).after ((State.sendDropped_even _ f).after ((State.releaseOwnHold_even _ f).after
    (s.dropReservation_even f)))

/-- An admitted transaction before its commit ends REFUSED or ABANDONED. -/
theorem Tapping.endWith_safe {f : Face} {s : State} (h : Tapping 0 f s) (ho : (s.context f).state.admittedOpen = true)
    (hn : s.NoPending f) (o : TxOutcome) (x : RecordFields) {n : CtxState} (hrest : n.atRest = true) (i : Indication)
    (tone : Option ShortTone) : (((s.cleanUp f).closeRecord f o x n).conclude f n i tone).JournalSafe := by
  have hclean := s.cleanUp_even f
  obtain ⟨hclosed, hn⟩ := (hclean.tapping h).closeRecord (Nat.zero_le _) (by rw [hclean.state]; exact ho)
    (hclean.noPending hn) o x hrest
  exact hclosed.conclude_safe hn hrest i tone

theorem Tapping.endRefused_safe {f : Face} {s : State} (h : Tapping 0 f s) (ho : (s.context f).state.admittedOpen = true)
    (hn : s.NoPending f) (r : Reason) : (s.endRefused f r).JournalSafe :=
  h.endWith_safe ho hn _ _ rfl _ _

theorem Tapping.endAbandoned_safe {f : Face} {s : State} (h : Tapping 0 f s) (ho : (s.context f).state.admittedOpen = true)
    (hn : s.NoPending f) : (s.endAbandoned f).JournalSafe :=
  h.endWith_safe ho hn _ _ rfl _ _

theorem Tapping.endLost_safe {f : Face} {s : State} (h : Tapping 0 f s) (ho : (s.context f).state.admittedOpen = true)
    (hn : s.NoPending f) : (s.endLost f).JournalSafe := by
  unfold State.endLost
  split
  · exact h.endRefused_safe ho hn _
  · exact h.endAbandoned_safe ho hn

/-! ### Before the commit -/

/-- Within an event of a tap that is admitted and not yet committed, its exchange closed. -/
structure Underway (f : Face) (s : State) : Prop extends Tapping 0 f s where
  exchange : (s.face f).exchange = none
  unrecorded : (s.context f).state.admittedOpen = true
  before : (s.context f).state.committed = false

theorem Even.underway {s t : State} (h : Even s t) {f : Face} (hs : Underway f s) : Underway f t where
  toTapping := h.tapping hs.toTapping
  exchange := by rw [h.face, hs.exchange]
  unrecorded := by rw [h.state, hs.unrecorded]
  before := by rw [h.state, hs.before]

theorem Underway.setContext {f : Face} {s : State} (h : Underway f s) {c : Context} (ho : c.state.admittedOpen = true)
    (hb : c.state.committed = false) : Underway f (s.setContext f c) where
  toTapping := h.toTapping.setContext (h.noPending h.before) (by
    rw [contextShare_of_open ho, contextShare_of_open h.unrecorded]
    exact Nat.add_le_add_right h.load _)
  exchange := h.exchange
  unrecorded := by rw [State.setContext_context, ho]
  before := by rw [State.setContext_context, hb]

theorem Underway.safe {f : Face} {s : State} (h : Underway f s) : s.JournalSafe := h.toTapping.safe h.exchange

theorem Underway.endRefused_safe {f : Face} {s : State} (h : Underway f s) (r : Reason) : (s.endRefused f r).JournalSafe :=
  h.toTapping.endRefused_safe h.unrecorded (h.noPending h.before) r

theorem Underway.endFailed_safe {f : Face} {s : State} (h : Underway f s) (r : Reason) : (s.endFailed f r).JournalSafe :=
  h.endRefused_safe _

theorem Underway.ask_safe {f : Face} {s : State} (h : Underway f s) {c : CardCommand} (hfit : c.fits (s.context f).state = true) :
    (s.ask f c).JournalSafe := h.toTapping.ask_safe hfit

theorem Underway.stagePoint_safe {f : Face} {s : State} (h : Underway f s) (x : CardImage) : (s.stagePoint f x).JournalSafe := by
  unfold State.stagePoint
  split
  · have hset := h.setContext (c := { s.context f with state := .staging, staged := some x }) rfl rfl
    exact hset.ask_safe (by rw [State.setContext_context]; rfl)
  · exact h.endFailed_safe _

theorem Underway.blockStage_safe {f : Face} {s : State} (h : Underway f s) : (s.blockStage f).JournalSafe := by
  unfold State.blockStage
  split
  · exact h.stagePoint_safe _
  · exact h.endRefused_safe _

theorem Underway.charge_safe {f : Face} {s : State} (h : Underway f s) (c : CardImage) : (s.charge f c).JournalSafe := by
  unfold State.charge
  split
  · exact h.endRefused_safe _
  · split
    · exact h.endRefused_safe _
    · rename_i x _
      have hset := h.setContext (c := { s.context f with fare := some x }) h.unrecorded h.before
      have hwatch := (State.evaluateWatch_even _ f (watchValues f c x)).underway hset
      simp only
      generalize State.evaluateWatch _ f (watchValues f c x) = y at hwatch ⊢
      obtain ⟨v, t⟩ := y
      cases v with
      | detain => exact hwatch.endRefused_safe _
      | proceed => exact hwatch.stagePoint_safe _

theorem Underway.deciding_safe {f : Face} {s : State} (h : Underway f s) : (s.deciding f).JournalSafe := by
  have hset := h.setContext (c := { s.context f with state := .deciding, ringTimer := none, contested := false, notes := [] })
    rfl rfl
  have hfound : Underway f (if (s.context f).claimed = true ∧ (s.context f).flagged.contains .concurrent = false then
      (s.setContext f { s.context f with state := .deciding, ringTimer := none, contested := false, notes := [] }).findEvidence
        f .concurrent
      else (.carryOn,
        s.setContext f { s.context f with state := .deciding, ringTimer := none, contested := false, notes := [] })).2 := by
    split
    · exact (State.findEvidence_even _ f _).underway hset
    · exact hset
  unfold State.deciding
  simp only
  generalize (if (s.context f).claimed = true ∧ (s.context f).flagged.contains .concurrent = false then _ else _
    : Finding × State) = x at hfound ⊢
  obtain ⟨v, t⟩ := x
  cases v with
  | refused => exact hfound.endRefused_safe _
  | block => exact hfound.blockStage_safe
  | carryOn =>
    simp only
    split
    · exact hfound.charge_safe _
    · exact hfound.endRefused_safe _

theorem Underway.sendHold_safe {f : Face} {s : State} (h : Underway f s) (x : Half) : (s.sendHold f x).JournalSafe := by
  unfold State.sendHold
  simp only
  split
  · exact (((State.setRing_even _ _).underway ((s.send_even _).underway h)).setContext rfl rfl).safe
  · exact (h.setContext (c := { s.context f with bypassed := true }) h.unrecorded h.before).deciding_safe

theorem Underway.checkSightings_safe {f : Face} {s : State} (h : Underway f s) (c : CardImage) :
    (s.checkSightings f c).JournalSafe := by
  have hfound := (s.findAll_even f (s.sightingFindings f c)).underway h
  unfold State.checkSightings
  generalize s.findAll f (s.sightingFindings f c) = x at hfound ⊢
  obtain ⟨v, t⟩ := x
  cases v with
  | refused => exact hfound.endRefused_safe _
  | block => exact hfound.blockStage_safe
  | carryOn => exact hfound.sendHold_safe _

theorem Underway.proofMatched_safe {f : Face} {s : State} (h : Underway f s) : (s.proofMatched f).JournalSafe := by
  unfold State.proofMatched
  split
  · exact h.blockStage_safe
  · split
    · exact h.checkSightings_safe _
    · exact h.endRefused_safe _

theorem Underway.proofFailed_safe {f : Face} {s : State} (h : Underway f s) : (s.proofFailed f).JournalSafe := by
  unfold State.proofFailed
  split
  · exact ((s.raise_even _).underway h).endRefused_safe _
  · have hfound := (s.findEvidence_even f .forged).underway h
    generalize s.findEvidence f .forged = x at hfound ⊢
    obtain ⟨v, t⟩ := x
    cases v with
    | carryOn =>
      simp only
      split
      · exact hfound.checkSightings_safe _
      · exact hfound.endRefused_safe _
    | refused => exact hfound.endRefused_safe _
    | block => exact hfound.endRefused_safe _

/-! ### Admission -/

theorem Underway.startReading_safe {f : Face} {s : State} (h : Underway f s) : (s.startReading f).JournalSafe :=
  (h.setContext (c := { s.context f with state := .reading }) rfl rfl).ask_safe (by rw [State.setContext_context]; rfl)

theorem Underway.nameChecks_safe {f : Face} {s : State} (h : Underway f s) (a : NameAnswer) : (s.nameChecks f a).JournalSafe := by
  unfold State.nameChecks
  split
  · exact h.endRefused_safe _
  · rename_i slot _
    split
    · exact h.endRefused_safe _
    · exact h.endRefused_safe _
    · have hset := h.setContext (c := { s.context f with key := some slot.key }) h.unrecorded h.before
      have hfound := (State.nameEvidence_even _ f a.status).underway hset
      generalize State.nameEvidence _ f a.status = y at hfound ⊢
      obtain ⟨v, t⟩ := y
      cases v with
      | refused => exact hfound.endRefused_safe _
      | carryOn => exact hfound.startReading_safe
      | block => exact hfound.startReading_safe

/-- A reservation adds its entry to the load, and nothing else. -/
theorem State.reserve_alike (s : State) (f : Face) : Alike s (s.reserve f) ∧ (s.reserve f).load ≤ s.load + 1 := by
  have placed (q : List QueueEntry) (hq : q.length = (s.aisle.queues.get f.direction).length + 1) {a : Aisle}
      (ha : a.queues = s.aisle.queues.set f.direction q) (c : Context) (hstate : c.state = (s.context f).state)
      (hname : c.name = (s.context f).name) :
      Alike s ((s.setAisle a).setContext f c) ∧ ((s.setAisle a).setContext f c).load ≤ s.load + 1 := by
    have hcontext := (s.setAisle a).setContext_even f (c := c) hstate hname
    have hload := s.setQueue_load f.direction q ha
    have hset := (s.setAisle a).setContext_load f c
    rw [contextShare_of_state (d := (s.setAisle a).context f) hstate] at hset
    exact ⟨⟨hcontext.faces, hcontext.state, hcontext.number, hcontext.tears⟩, by omega⟩
  exact placed _ (by simp) rfl _ rfl rfl

/-- The journal's admission check leaves room for the context's two records and its reservation (R188). -/
theorem Tapping.admitCard_safe {f : Face} {s : State} (h : Tapping 0 f s) (hx : (s.face f).exchange = none)
    (hroom : s.load + 3 ≤ journalSize) (hc : (s.context f).state.committed = false) (a : NameAnswer) :
    (s.admitCard f a).JournalSafe := by
  let u := s.setContext f { s.context f with state := .admitted }
  have hstate : (u.context f).state = .admitted := by rw [State.setContext_context]
  have hload : u.load ≤ s.load + 2 := s.setContext_load_le f _
  have admitted (t : State) (ht : Alike u t) (hfits : t.load ≤ journalSize) : Underway f t :=
    { toTapping := ht.tapping (h.setContext (j := 2) (h.noPending hc)
        ((Nat.add_le_add h.load (contextShare_le _)).trans (Nat.le_add_right _ _))) hfits
      exchange := by rw [ht.face]; exact hx
      unrecorded := by rw [ht.state, hstate]; rfl
      before := by rw [ht.state, hstate]; rfl }
  unfold State.admitCard
  dsimp only
  split
  · exact (admitted u (Even.refl u).toAlike (by omega)).endRefused_safe _
  · obtain ⟨halike, hplaced⟩ := u.reserve_alike f
    exact (admitted _ halike (by omega)).nameChecks_safe a

end Sys2Proof.Machine
end

section
/-! SUPPORT. The journal's margin through the read, the commit and what a write leaves, through aborts, field requests, polls and resets,
and so through every command and step. -/

namespace Sys2Proof.Machine

-- One declaration at a time: each waiting elaboration thread counts against the memory limit of the one text.
set_option Elab.async false

/-! ### The read (R30, R53, R54) -/

/-- A RECOVERED record takes the place of its TORN entry. -/
theorem State.recoverElsewhere_even {s : State} {e : TearEntry} (b : List Byte) (he : e ∈ s.tears) (hs : e.state ≠ .pending) :
    Even s (s.recoverElsewhere e b) := by
  have hrecord : Even s ((s.append (.transaction .recovered) s.stamp e.face (e.recoveredFields RecordFields.blank)).dropTear
      e.number) := by
    refine Even.of_record he hs ?_ ?_ ?_ ?_
    · simp [State.dropTear]
    · simp [State.dropTear]
    · simp [State.dropTear]
    · have hload := State.dropTear_load (s.append (.transaction .recovered) s.stamp e.face (e.recoveredFields RecordFields.blank))
        e.number
      rw [State.append_load] at hload
      simpa using hload
  exact (State.sendCommitted_even _ _ _).after ((State.recordSighting_even _ _ _).after hrecord)

/-- After a transaction's record the rest of its event leaves the books even, and the context comes to rest. -/
theorem Even.conclude_safe {f : Face} {s t : State} (h : Even s t) (hs : Tapping 0 f s ∧ s.NoPending f)
    {st : CtxState} (hst : st.atRest = true) (i : Indication) (tone : Option ShortTone) : (t.conclude f st i tone).JournalSafe :=
  (h.tapping hs.1).conclude_safe (h.noPending hs.2) hst i tone

theorem Underway.recoverHere_safe {f : Face} {s : State} (h : Underway f s) (e : TearEntry) (b : List Byte) :
    (s.recoverHere f e b).JournalSafe := by
  unfold State.recoverHere
  dsimp only
  refine Even.conclude_safe (s := s.closeRecord f .recovered _ .removalWait) ((State.sendCommitted_even _ _ _).after
    ((State.recordSighting_even _ _ _).after ((State.grant_even _ f _).after (State.dropTear_even _ _)))) ?_ rfl _ _
  exact h.toTapping.closeRecord (Nat.zero_le _) h.unrecorded (h.noPending h.before) _ _ rfl

/-- A TORN entry met at the read ends the tap, or goes with its record. -/
theorem Underway.resolveAtRead_safe {f : Face} {s : State} (h : Underway f s) (b : List Byte) :
    ((s.resolveAtRead f b).1 = .ended → (s.resolveAtRead f b).2.JournalSafe)
      ∧ ((s.resolveAtRead f b).1 = .continues → Underway f (s.resolveAtRead f b).2) := by
  have goesOn {t : State} (ht : Even s t) : ((.continues : Resolution) = .ended → t.JournalSafe)
      ∧ ((.continues : Resolution) = .continues → Underway f t) := ⟨nofun, fun _ => ht.underway h⟩
  unfold State.resolveAtRead
  dsimp only
  split
  · exact goesOn (Even.refl s)
  · rename_i e hfind
    have hmem := mem_of_findTear hfind
    split
    · exact goesOn (Even.refl s)
    · rename_i htorn
      split
      · exact goesOn (State.resolveTear_even _ _ hmem htorn)
      · split
        · split
          · exact ⟨fun _ => h.recoverHere_safe e b, nofun⟩
          · exact goesOn (State.recoverElsewhere_even b hmem htorn)
        · exact goesOn (State.resolveTear_even _ _ hmem htorn)

theorem Underway.startProving_safe {f : Face} {s : State} (h : Underway f s) : (s.startProving f).JournalSafe := by
  have asked (u : State) (v : Word) (hu : Underway f u) :
      ((u.setContext f { u.context f with state := .proving, challenge := some v }).ask f (.prove v)).JournalSafe :=
    (hu.setContext (c := { u.context f with state := .proving, challenge := some v }) rfl rfl).ask_safe
      (by rw [State.setContext_context]; rfl)
  exact asked _ _ ((s.setCheck_even _).underway h)

theorem Underway.readImage_safe {f : Face} {s : State} (h : Underway f s) (b : List Byte) : (s.readImage f b).JournalSafe := by
  obtain ⟨hended, hcontinues⟩ := h.resolveAtRead_safe b
  unfold State.readImage
  generalize s.resolveAtRead f b = x at hended hcontinues ⊢
  obtain ⟨v, t⟩ := x
  cases v with
  | ended => exact hended rfl
  | continues =>
    have ht : Underway f t := hcontinues rfl
    simp only
    split
    · exact ht.safe
    · split
      · exact ht.endFailed_safe _
      · rename_i img _
        have hset := ht.setContext (c := { t.context f with image := some img }) ht.unrecorded ht.before
        exact ((State.setOwnHold_even _ f).underway hset).startProving_safe

/-! ### The commit (R39, R51, R52) -/

/-- The table with a PENDING entry for the face: before that, entries go with their records, and none of the number is left. -/
theorem makePending_cases {s t : State} {f : Face} (h : s.makePending f = some t) :
    ∃ u, Even s u ∧ (∀ e ∈ u.tears, e.number ≠ (s.context f).number) ∧ t = { u with tears := u.tears ++ [s.pendingTear f] } := by
  unfold State.makePending at h
  dsimp only at h
  split at h
  · rename_i old hfind
    split at h
    · cases h
    · rename_i htorn
      cases h
      refine ⟨_, State.resolveTear_even _ _ (mem_of_findTear hfind) htorn, fun e he => ?_, rfl⟩
      rw [State.resolveTear_tears, mem_removeTear, findTear_number hfind] at he
      exact he.2
  · rename_i hfind
    cases h
    exact ⟨_, s.tearRoom_even, fun e he => findTear_eq_none hfind e (s.tearRoom_even.tears.subset he), rfl⟩

theorem tornCount_append_pending (l : List TearEntry) {e : TearEntry} (h : e.state = .pending) :
    tornCount (l ++ [e]) = tornCount l := by
  simp [tornCount, List.countP_append, h]

/-- The table with a PENDING entry more, which belongs to the context that now waits for SETTLED. -/
theorem Underway.tapping_of_pending {f : Face} {u : State} (h : Underway f u) {e : TearEntry} (he : e.state = .pending)
    (hface : e.face = f) (hnumber : (u.context f).number = e.number) (hnew : ∀ x ∈ u.tears, x.number ≠ e.number) {c : Context}
    (hc : c.state = .settling) (hname : c.number = (u.context f).number) :
    Tapping 0 f (({ u with tears := u.tears ++ [e] } : State).setContext f c) where
  load := by
    have hload : (({ u with tears := u.tears ++ [e] } : State).setContext f c).load = (u.setContext f c).load := by
      simp only [State.load_eq, State.booked, State.setContext_journal, State.setContext_aisle, State.setContext_contexts,
        State.setContext_tears, tornCount_append_pending _ he]
    have hshare := u.setContext_load f c
    rw [contextShare_of_open (c := c) (by rw [hc]; rfl), contextShare_of_open h.unrecorded] at hshare
    have := h.load
    omega
  tears := by
    refine ⟨?_, fun x hx hp => ?_⟩
    · rw [State.setContext_tears, List.map_append, List.nodup_append]
      refine ⟨h.tears.1, by simp, fun a ha b hb => ?_⟩
      obtain ⟨x, hx, rfl⟩ := List.mem_map.mp ha
      rw [List.mem_singleton.mp hb]
      exact hnew x hx
    · rw [State.setContext_tears, List.mem_append, List.mem_singleton] at hx
      rcases hx with hx | rfl
      · rw [State.context, State.setContext_contexts, PerFace.get_set_ne _ _ (h.noPending h.before x hx hp)]
        exact h.tears.2 x hx hp
      · rw [hface, State.setContext_context, hc, hname]
        exact ⟨rfl, hnumber⟩
  other := (faceAgrees_congr (t := State.setContext _ f c) (s := u) rfl (u.setContext_context_other f c)).mpr h.other
  serving := h.serving
  poll := h.poll

theorem Underway.commit_safe {f : Face} {s : State} (h : Underway f s) : (s.commit f).JournalSafe := by
  unfold State.commit
  split
  · rename_i t hmade
    obtain ⟨u, hu, hnew, rfl⟩ := makePending_cases hmade
    have hpending := (hu.underway h).tapping_of_pending (e := s.pendingTear f) (c := { u.context f with state := .settling })
      rfl rfl (hu.number f) hnew rfl rfl
    exact hpending.ask_safe (by rw [State.setContext_context]; rfl)
  · dsimp only
    split
    · exact h.endRefused_safe _
    · exact (((s.raise_even .clone).underway h).setContext (c := { s.context f with refusing := some .concurrent })
        h.unrecorded h.before).endRefused_safe _

theorem Underway.readyToCommit_safe {f : Face} {s : State} (h : Underway f s) : (s.readyToCommit f).JournalSafe := by
  have flagged (u : State) (l : List EvidenceKind) (hu : Underway f u) :
      Underway f (u.setContext f { u.context f with flagged := l }) := hu.setContext hu.unrecorded hu.before
  have refused (u : State) (k : EvidenceKind) (hu : Underway f u) :
      Underway f (u.setContext f { u.context f with refusing := some k }) := hu.setContext hu.unrecorded hu.before
  have htaken := ((s.raise_even .clone).underway h).setContext (c := { s.context f with contested := false, notes := [] })
    h.unrecorded h.before
  unfold State.readyToCommit
  dsimp only
  split
  · split
    · exact (flagged _ _ htaken).commit_safe
    · exact (refused _ _ htaken).endRefused_safe _
  · exact h.commit_safe

/-! ### A write found written, not written or torn (R40 to R43, R47) -/

theorem CtxState.admittedOpen_of_committed {st : CtxState} (h : st.committed = true) : st.admittedOpen = true := by
  cases st <;> first | rfl | cases h

/-- The face's PENDING entry has the number of its context, so that none is left without that number. -/
theorem State.TearsAgree.noPending_of_number {s : State} (h : s.TearsAgree) {f : Face} {l : List TearEntry}
    (hl : ∀ e ∈ l, e.state = .pending → e ∈ s.tears ∧ e.number ≠ (s.context f).number) :
    ∀ e ∈ l, e.state = .pending → e.face ≠ f := fun e he hp hf => by
  obtain ⟨hmem, hne⟩ := hl e he hp
  have := (h.2 e hmem hp).2
  rw [hf] at this
  exact hne this.symm

theorem State.TearsAgree.noPending_dropTear {s : State} (h : s.TearsAgree) (f : Face) :
    (s.dropTear (s.context f).number).NoPending f :=
  h.noPending_of_number fun _ he _ => mem_removeTear.mp he

/-- A confirmed write's record, its PENDING entry gone before it. -/
theorem Tapping.closeRecord_dropTear {f : Face} {s : State} (h : Tapping 0 f s) (hc : (s.context f).state.committed = true)
    (o : TxOutcome) (x : RecordFields) {n : CtxState} (hrest : n.atRest = true) :
    Tapping 0 f ((s.dropTear (s.context f).number).closeRecord f o x n)
      ∧ ((s.dropTear (s.context f).number).closeRecord f o x n).NoPending f :=
  ((s.dropTear_even _).tapping h).closeRecord (Nat.zero_le _)
    (by rw [(s.dropTear_even _).state]; exact CtxState.admittedOpen_of_committed hc) (h.tears.noPending_dropTear f) o x hrest

theorem Tapping.confirmFare_safe {f : Face} {s : State} (h : Tapping 0 f s) (hc : (s.context f).state.committed = true)
    (i : CardImage) : (s.confirmFare f i).JournalSafe := by
  have granted (u : State) (q : Word) (n : CardNumber) (x y : Sighting) (hu : Tapping 0 f u ∧ u.NoPending f) :
      (((((u.grant f q).recordSighting n x).releaseOwnHold f).sendCommitted n y).conclude f .removalWait .go
        (some .accept)).JournalSafe :=
    Even.conclude_safe ((State.sendCommitted_even _ _ _).after ((State.releaseOwnHold_even _ f).after
      ((State.recordSighting_even _ _ _).after (u.grant_even f q)))) hu rfl _ _
  exact granted _ _ _ _ _ (h.closeRecord_dropTear hc _ _ rfl)

theorem Tapping.confirmBlock_safe {f : Face} {s : State} (h : Tapping 0 f s) (hc : (s.context f).state.committed = true)
    (i : CardImage) : (s.confirmBlock f i).JournalSafe := by
  have dropped (u : State) (n : CardNumber) (x : Sighting) (hu : Tapping 0 f u ∧ u.NoPending f) :
      (((((u.dropReservation f).recordSighting n x).releaseOwnHold f).sendDropped f).conclude f .refusedShown .attend
        (some .refuse)).JournalSafe :=
    Even.conclude_safe ((State.sendDropped_even _ f).after ((State.releaseOwnHold_even _ f).after
      ((State.recordSighting_even _ _ _).after (u.dropReservation_even f)))) hu rfl _ _
  exact dropped _ _ _ (h.closeRecord_dropTear hc _ _ rfl)

theorem Tapping.confirmWrite_safe {f : Face} {s : State} (h : Tapping 0 f s) (hx : (s.face f).exchange = none)
    (hc : (s.context f).state.committed = true) : (s.confirmWrite f).JournalSafe := by
  unfold State.confirmWrite
  split
  · split
    · exact h.confirmBlock_safe hc _
    · exact h.confirmFare_safe hc _
  · exact h.safe hx

theorem Tapping.notWritten_safe {f : Face} {s : State} (h : Tapping 0 f s) (hc : (s.context f).state.committed = true) :
    (s.notWritten f).JournalSafe := by
  have hdrop := s.dropTear_even (s.context f).number
  exact (hdrop.tapping h).endRefused_safe (by rw [hdrop.state]; exact CtxState.admittedOpen_of_committed hc)
    (h.tears.noPending_dropTear f) _

theorem tearNow_numbers (l : List TearEntry) (n : CardNumber) (t r : Word) :
    (tearNow l n t r).map (·.number) = l.map (·.number) := by
  rw [tearNow, List.map_map]
  refine List.map_congr_left fun e _ => ?_
  simp only [Function.comp]
  split <;> rfl

/-- A PENDING entry of the table after a number's entry became TORN: it is another number's. -/
theorem mem_tearNow_pending {l : List TearEntry} {n : CardNumber} {t r : Word} {e : TearEntry} (he : e ∈ tearNow l n t r)
    (hp : e.state = .pending) : e ∈ l ∧ e.number ≠ n := by
  obtain ⟨x, hx, rfl⟩ := List.mem_map.mp he
  by_cases hn : x.number = n
  · simp [hn] at hp
  · rw [if_neg hn]
    exact ⟨hx, hn⟩

theorem tearNow_of_not_mem {l : List TearEntry} {n : CardNumber} (h : ∀ e ∈ l, e.number ≠ n) (t r : Word) : tearNow l n t r = l := by
  have hid : tearNow l n t r = l.map id := List.map_congr_left fun e he => if_neg (h e he)
  rw [hid, List.map_id]

/-- At most one entry has the number, so that at most one more is TORN. -/
theorem tornCount_tearNow {l : List TearEntry} (h : (l.map (·.number)).Nodup) (n : CardNumber) (t r : Word) :
    tornCount (tearNow l n t r) ≤ tornCount l + 1 := by
  induction l with
  | nil => exact Nat.zero_le _
  | cons e es ih =>
    obtain ⟨hnew, hrest⟩ := List.nodup_cons.mp h
    by_cases hn : e.number = n
    · have hes : tearNow es n t r = es :=
        tearNow_of_not_mem (fun x hx hxn => hnew (List.mem_map.mpr ⟨x, hx, hxn.trans hn.symm⟩)) t r
      have : tearNow (e :: es) n t r = { e with state := .torn t r } :: es := by
        change (if e.number = n then _ else e) :: tearNow es n t r = _
        rw [hes, if_pos hn]
      rw [this, tornCount, tornCount, List.countP_cons, List.countP_cons]
      split <;> omega
    · have : tearNow (e :: es) n t r = e :: tearNow es n t r := by
        change (if e.number = n then _ else e) :: tearNow es n t r = _
        rw [if_neg hn]
      have hes := ih hrest
      rw [this]
      simp only [tornCount, List.countP_cons] at hes ⊢
      omega

/-- The table with a number's entry TORN agrees with the contexts as before, and the load is one more at most. -/
theorem State.tearNow_agree {s : State} (h : s.TearsAgree) (n : CardNumber) (x r : Word) :
    ({ s with tears := tearNow s.tears n x r } : State).TearsAgree
      ∧ ({ s with tears := tearNow s.tears n x r } : State).load ≤ s.load + 1 := by
  refine ⟨⟨?_, fun e he hp => h.2 e (mem_tearNow_pending he hp).1 hp⟩, ?_⟩
  · exact (tearNow_numbers s.tears n x r).symm ▸ h.1
  · have := tornCount_tearNow h.1 n x r
    simp only [State.load_eq, State.booked]
    omega

theorem Tapping.tornWrite_safe {f : Face} {s : State} (h : Tapping 0 f s) (hc : (s.context f).state.committed = true) :
    (s.tornWrite f).JournalSafe := by
  obtain ⟨hagree, hload⟩ := State.tearNow_agree h.tears (s.context f).number s.now s.journal.next
  let u : State := { s with tears := tearNow s.tears (s.context f).number s.now s.journal.next }
  have hu : Tapping 1 f u := ⟨hload.trans (Nat.add_le_add_right h.load 1), hagree, h.other, h.serving, h.poll⟩
  have hn : u.NoPending f := h.tears.noPending_of_number fun e he hp => mem_tearNow_pending he hp
  have closed (o : TxOutcome) (x : RecordFields) : Tapping 0 f (u.closeRecord f o x .idle)
      ∧ (u.closeRecord f o x .idle).NoPending f :=
    hu.closeRecord le_rfl (CtxState.admittedOpen_of_committed hc) hn o x rfl
  have hclosed : Tapping 0 f (if (s.context f).blockPath = true then
        u.closeRecord f .refused ((s.context f).refusedFields .evidence) .idle
      else u.closeRecord f .torn (s.context f).writtenFields .idle)
      ∧ State.NoPending (if (s.context f).blockPath = true then
        u.closeRecord f .refused ((s.context f).refusedFields .evidence) .idle
      else u.closeRecord f .torn (s.context f).writtenFields .idle) f := by
    split
    · exact closed _ _
    · exact closed _ _
  have hrest (v : State) (m : RingMessage) : Even v ((((v.dropReservation f).releaseOwnHold f).send m).endBlockMark f) :=
    (State.endBlockMark_even _ f).after ((State.send_even _ m).after ((State.releaseOwnHold_even _ f).after
      (v.dropReservation_even f)))
  exact ((hrest _ _).tapping hclosed.1).conclude_safe ((hrest _ _).noPending hclosed.2) rfl _ _

theorem Tapping.confirmRead_safe {f : Face} {s : State} (h : Tapping 0 f s) (hx : (s.face f).exchange = none)
    (hc : (s.context f).state.committed = true) (b : List Byte) : (s.confirmRead f b).JournalSafe := by
  unfold State.confirmRead
  dsimp only
  split
  · exact h.confirmWrite_safe hx hc
  · split
    · exact h.notWritten_safe hc
    · exact h.tornWrite_safe hc

/-! ### Card replies and timeouts -/

/-- An exchange that its context waits for is closed: the face is SERVING, and the reply is handed on. -/
theorem State.JournalSafe.closeExchange {s : State} (h : s.JournalSafe) {f : Face} {e : Exchange}
    (he : (s.face f).exchange = some e) :
    Tapping 0 f (s.closeExchange f) ∧ ((s.closeExchange f).face f).exchange = none
      ∧ e.command.fits ((s.closeExchange f).context f).state = true := by
  obtain ⟨hload, htears, hf, hother⟩ := (journalSafe_iff s f).mp h
  have hserving : (s.face f).state = .serving := by
    by_contra hne
    rw [(hf.1 hne).2] at he
    cases he
  have hface : (s.closeExchange f).face f = { s.face f with exchange := none } := s.setFace_face f _
  refine ⟨⟨hload, htears, ?_, ?_, ?_⟩, ?_, hf.2.2 e he⟩
  · exact (faceAgrees_congr (t := s.closeExchange f) (s := s) (s.setFace_face_other f _) rfl).mpr hother
  · rw [hface]; exact hserving
  · rw [hface]; exact hf.poll_of_serving hserving
  · rw [hface]

/-- A face unit that differs in its miss count and in whether the front end has responded. -/
theorem State.JournalSafe.responded {s : State} (h : s.JournalSafe) (f : Face) : (s.responded f).JournalSafe := by
  unfold State.responded
  split
  · exact h
  · obtain ⟨hload, htears, ⟨hserving, hpoll, hfits⟩, hother⟩ := (journalSafe_iff s f).mp h
    refine (journalSafe_iff _ f).mpr ⟨hload, htears, ?_, ?_⟩
    · rw [State.FaceAgrees, State.setFace_face]
      exact ⟨hserving, fun hp => hpoll (by simpa [FaceUnit.responded] using hp), hfits⟩
    · exact (faceAgrees_congr (t := s.setFace f _) (s := s) (s.setFace_face_other f _) rfl).mpr hother

theorem State.JournalSafe.cardReply {s : State} (h : s.JournalSafe) (f : Face) {expected : CardCommand → Bool} {act : State → State}
    (hact : ∀ (t : State) (c : CardCommand), expected c = true → Tapping 0 f t → (t.face f).exchange = none →
      c.fits (t.context f).state = true → (act t).JournalSafe) : (s.cardReply f expected act).JournalSafe := by
  have heard := h.responded f
  unfold State.cardReply
  dsimp only
  split
  · rename_i c hc
    obtain ⟨e, he, rfl⟩ := Option.map_eq_some_iff.mp hc
    split
    · rename_i hexpected
      obtain ⟨htap, hx, hfit⟩ := heard.closeExchange he
      exact hact _ _ hexpected htap hx hfit
    · exact heard
  · exact heard

theorem CardCommand.fits_name {st : CtxState} (h : CardCommand.fits .name st = true) : st = .naming := by
  cases st <;> first | rfl | cases h

theorem CardCommand.fits_prove {w : Word} {st : CtxState} (h : CardCommand.fits (.prove w) st = true) : st = .proving := by
  cases st <;> first | rfl | cases h

theorem CardCommand.fits_stage {b : List Byte} {n : Half} {st : CtxState} (h : CardCommand.fits (.stage b n) st = true) :
    st = .staging := by
  cases st <;> first | rfl | cases h

theorem CardCommand.fits_settle {st : CtxState} (h : CardCommand.fits .settle st = true) : st = .settling := by
  cases st <;> first | rfl | cases h

theorem Tapping.underway {f : Face} {s : State} (h : Tapping 0 f s) (hx : (s.face f).exchange = none) {st : CtxState}
    (hst : (s.context f).state = st) (ho : st.admittedOpen = true) (hb : st.committed = false) : Underway f s where
  toTapping := h
  exchange := hx
  unrecorded := by rw [hst, ho]
  before := by rw [hst, hb]

/-- A name answer: a refusal before admission leaves no share, and an admission has its room (R25, R188). -/
theorem Tapping.nameAnswer_safe {f : Face} {s : State} (h : Tapping 0 f s) (hx : (s.face f).exchange = none)
    (hc : (s.context f).state = .naming) (a : NameAnswer) :
    State.JournalSafe (if s.refusesBefore f then s.refuseBefore f else s.admitCard f a) := by
  have hb : (s.context f).state.committed = false := by rw [hc]; rfl
  split
  · exact h.conclude_safe (h.noPending hb) rfl _ _
  · rename_i hadmits
    refine h.admitCard_safe hx ?_ hb a
    simp only [State.refusesBefore, State.admits, Bool.not_eq_true, Bool.or_eq_false_iff, Bool.not_eq_false',
      decide_eq_true_eq] at hadmits
    have := hadmits.2
    unfold State.load
    unfold State.freeSlots at this
    omega

theorem Tapping.cardLost_safe {f : Face} {s : State} (h : Tapping 0 f s) (hx : (s.face f).exchange = none) :
    (s.cardLost f).JournalSafe := by
  unfold State.cardLost
  split
  · rename_i hc
    exact h.conclude_safe (h.noPending (by rw [hc]; rfl)) rfl _ _
  · rename_i hc
    exact h.endLost_safe (by rw [hc]; rfl) (h.noPending (by rw [hc]; rfl))
  · rename_i hc
    exact h.endLost_safe (by rw [hc]; rfl) (h.noPending (by rw [hc]; rfl))
  · rename_i hc
    exact (h.underway hx hc rfl rfl).endFailed_safe _
  · rename_i hc
    exact h.tornWrite_safe (by rw [hc]; rfl)
  · have hface : (s.closeExchange f).face f = { s.face f with exchange := none } := s.setFace_face f _
    refine Tapping.safe (f := f) ⟨h.load, h.tears, ?_, ?_, ?_⟩ (by rw [hface])
    · exact (faceAgrees_congr (t := s.closeExchange f) (s := s) (s.setFace_face_other f _) rfl).mpr h.other
    · rw [hface]; exact h.serving
    · rw [hface]; exact h.poll

/-- The confirming read is asked for by the context whose entry is PENDING. -/
theorem Tapping.settleTimeout_safe {f : Face} {s : State} (h : Tapping 0 f s) (hc : (s.context f).state = .settling) :
    (s.settleTimeout f).JournalSafe := by
  have hset : Tapping 0 f (s.setContext f { s.context f with state := .confirming }) :=
    { load := by
        have := s.setContext_load f { s.context f with state := .confirming }
        rw [contextShare_of_open (c := { s.context f with state := .confirming }) rfl,
          contextShare_of_open (by rw [hc]; rfl)] at this
        have := h.load
        omega
      tears := by
        refine ⟨h.tears.1, fun e he hp => ?_⟩
        rcases Face.eq_or_other f e.face with hf | hf
        · have := (h.tears.2 e he hp).2
          rw [hf] at this
          rw [hf, State.setContext_context]
          exact ⟨rfl, this⟩
        · have := h.tears.2 e he hp
          rw [hf] at this
          rw [hf, State.setContext_context_other]
          exact this
      other := (faceAgrees_congr (t := State.setContext s f _) (s := s) rfl (s.setContext_context_other f _)).mpr h.other
      serving := h.serving
      poll := h.poll }
  exact hset.ask_safe (by rw [State.setContext_context]; rfl)

/-! ### Aborts and changes of service state -/

theorem State.JournalSafe.abortContext {s : State} (h : s.JournalSafe) (f : Face) (r : Reason) : (s.abortContext f r).JournalSafe := by
  have refused {st : CtxState} (hc : (s.context f).state = st) (ho : st.admittedOpen = true) (hb : st.committed = false) :
      (s.endRefused f r).JournalSafe := by
    have htap := h.tapping_of_state (f := f) (by rw [hc]; exact CtxState.not_atRest_of_admittedOpen ho)
    exact htap.endRefused_safe (by rw [hc]; exact ho) (htap.noPending (by rw [hc]; exact hb)) r
  unfold State.abortContext
  split
  iterate 3 exact h
  · rename_i hc
    have htap := h.tapping_of_state (f := f) (by rw [hc]; rfl)
    exact htap.conclude_safe (htap.noPending (by rw [hc]; rfl)) rfl _ _
  iterate 6 exact refused ‹_› rfl rfl
  iterate 2 exact (s.removeReservation_even f).safe h

theorem State.JournalSafe.handToContexts {s : State} (h : s.JournalSafe) (n : ServiceState) : (s.handToContexts n).JournalSafe := by
  unfold State.handToContexts
  split
  · exact (h.abortContext .street _).abortContext .paid _
  · exact (h.abortContext .street _).abortContext .paid _
  · exact h

/-- A face that is not SERVING changes, its context still at rest. -/
theorem State.JournalSafe.setFace {s : State} (h : s.JournalSafe) {f : Face} (hs : (s.face f).state ≠ .serving) {u : FaceUnit}
    (hx : u.exchange = none ∨ u.exchange = (s.face f).exchange)
    (hp : u.poll = none ∨ u.state = .polling ∨ u.state = .watching) : (s.setFace f u).JournalSafe := by
  obtain ⟨hload, htears, ⟨hserving, -, -⟩, hother⟩ := (journalSafe_iff s f).mp h
  obtain ⟨hrest, hnone⟩ := hserving hs
  have hx : u.exchange = none := hx.elim id (hnone ▸ ·)
  refine (journalSafe_iff _ f).mpr ⟨hload, htears, ?_, ?_⟩
  · rw [State.FaceAgrees, State.setFace_face]
    refine ⟨fun _ => ⟨hrest, hx⟩, fun hpoll => hp.resolve_left fun hnone => ?_, fun e he => ?_⟩
    · rw [hnone] at hpoll
      cases hpoll
    · rw [hx] at he
      cases he
  · exact (faceAgrees_congr (t := s.setFace f _) (s := s) (s.setFace_face_other f _) rfl).mpr hother

/-- A SERVING face is marked for its field-off request, or the mark is taken back. -/
theorem State.JournalSafe.setOffPending {s : State} (h : s.JournalSafe) (f : Face) (b : Bool) :
    (s.setFace f { s.face f with offPending := b }).JournalSafe := by
  obtain ⟨hload, htears, hf, hother⟩ := (journalSafe_iff s f).mp h
  refine (journalSafe_iff _ f).mpr ⟨hload, htears, ?_, ?_⟩
  · rw [State.FaceAgrees, State.setFace_face]
    exact hf
  · exact (faceAgrees_congr (t := s.setFace f _) (s := s) (s.setFace_face_other f _) rfl).mpr hother

theorem State.JournalSafe.fieldOnRequest {s : State} (h : s.JournalSafe) (f : Face) (b : Bool) :
    (s.fieldOnRequest f b).JournalSafe := by
  unfold State.fieldOnRequest
  dsimp only
  split
  · rename_i hs
    exact h.setFace (by rw [hs]; nofun) (.inl rfl) (.inl rfl)
  · rename_i hs
    split
    · exact h.setFace (by rw [hs]; nofun) (.inl rfl) (.inl rfl)
    · exact h
  · exact h.setOffPending f false
  all_goals exact h

theorem State.JournalSafe.fieldOffRequest {s : State} (h : s.JournalSafe) (f : Face) : (s.fieldOffRequest f).JournalSafe := by
  have off (hs : (s.face f).state ≠ .serving) : (s.setFace f (s.face f).turnOff).JournalSafe := h.setFace hs (.inl rfl) (.inl rfl)
  unfold State.fieldOffRequest
  dsimp only
  split
  · rename_i hs
    exact off (by rw [hs]; nofun)
  · rename_i hs
    exact off (by rw [hs]; nofun)
  · rename_i hs
    exact (off (by rw [hs]; nofun)).cardRemoved f
  · exact h.setOffPending f true
  all_goals exact h

theorem State.JournalSafe.fieldRequests {s : State} (h : s.JournalSafe) (o n : ServiceState) : (s.fieldRequests o n).JournalSafe := by
  unfold State.fieldRequests
  split
  · exact h
  · split
    · exact (h.fieldOnRequest .street _).fieldOnRequest .paid _
    · exact (h.fieldOffRequest .street).fieldOffRequest .paid

theorem State.JournalSafe.enterPlain {s : State} (h : s.JournalSafe) (n : ServiceState) : (s.enterPlain n).JournalSafe :=
  ((s.setService_even _).safe h).fieldRequests _ _

theorem State.JournalSafe.enterFree {s : State} (h : s.JournalSafe) (n : ServiceState) : (s.enterFree n).JournalSafe := by
  have hcancelled : ((s.setServiceState n).cancelGrants.drew 1).JournalSafe :=
    ((State.drew_even _ 1).after ((State.cancelGrants_even _).after (s.setService_even _))).safe h
  have hfree {t : State} (ht : t.JournalSafe) : (t.checkLock.setAisle t.checkLock.aisle.setFree).JournalSafe :=
    ((State.setAisle_even _).after t.checkLock_even).safe ht
  unfold State.enterFree
  dsimp only
  split
  · exact hfree ((hcancelled.handToContexts n).fieldRequests _ _)
  · exact hfree ((hcancelled.fieldRequests _ _).handToContexts n)

theorem State.JournalSafe.fillFaultSlot {s : State} (h : s.JournalSafe) (r : FaultRecord) : (s.fillFaultSlot r).JournalSafe :=
  ((State.raise_even _ _).after (s.setService_even _)).safe h

theorem State.JournalSafe.lockDown {s : State} (h : s.JournalSafe) (r : FaultRecord) : (s.lockDown r).JournalSafe :=
  ((State.raise_even _ _).after (State.raise_even _ _)).safe (((s.setService_even _).safe h).enterFree _)

theorem State.JournalSafe.raiseFault {s : State} (h : s.JournalSafe) (k : FaultKind) : (s.raiseFault k).JournalSafe := by
  unfold State.raiseFault
  dsimp only
  split
  · split
    · exact (s.raise_even _).safe h
    · exact h.fillFaultSlot _
  iterate 3
    split
    · exact h.lockDown _
    · exact h.fillFaultSlot _
  · exact (s.raise_even _).safe h

end Sys2Proof.Machine
end

section
/-! SUPPORT. The commands that leave the journal's books even: those that touch neither faces nor the states of the contexts. -/

namespace Sys2Proof.Machine

-- One declaration at a time: each waiting elaboration thread counts against the memory limit of the one text.
set_option Elab.async false

/-! ### Commands while the part runs, and requests -/

theorem Even.whenRunning {s t : State} {act : State → State} (h : whenRunning s act = .next t) (hact : Even s (act s)) :
    Even s t := by
  injection h with h
  rw [← h]
  split
  · exact hact
  · exact Even.refl s

/-- The frame touches the link, and what its answer touches. -/
theorem Even.takeFrame {s : State} {act : State → State × Reply} (h : Even s.hunting (act s.hunting).1) : Even s (s.takeFrame act) := by
  unfold State.takeFrame
  dsimp only
  split
  · exact (State.setLink_even _ _).after (s.setLink_even _)
  · exact (State.setLink_even _ _).after (h.after (s.setLink_even _))

theorem Even.takeRequest {s : State} {kind : Byte} {fits : Bool} {answer : State → Answer}
    (h : Even s.hunting (answer s.hunting).after) : Even s (s.takeRequest kind fits answer) :=
  Even.takeFrame <| by
    dsimp only
    split
    · exact h
    · exact Even.refl _

theorem Even.request {s : State} {kind : Byte} {length : Nat} {body : List Byte} {answer : State → Answer}
    (h : Even s.hunting (answer s.hunting).after) : Even s (s.request kind length body answer) := Even.takeRequest h

theorem Even.query {s : State} {kind : Byte} {length : Nat} {body : List Byte} {fields : State → List Byte} :
    Even s (s.query kind length body fields) := Even.request (Even.refl _)

theorem Even.ite {p : Prop} [Decidable p] {s t u : State} (h : Even s t) (g : Even s u) : Even s (if p then t else u) := by
  split
  · exact h
  · exact g

/-! ### Requests -/

theorem execIdentify_even {body : List Byte} {s t : State} (h : execIdentify body s = .next t) : Even s t :=
  Even.whenRunning h Even.query

theorem execReadCounters_even {body : List Byte} {s t : State} (h : execReadCounters body s = .next t) : Even s t :=
  Even.whenRunning h Even.query

theorem execTearList_even {body : List Byte} {s t : State} (h : execTearList body s = .next t) : Even s t :=
  Even.whenRunning h Even.query

theorem execReadFault_even {body : List Byte} {s t : State} (h : execReadFault body s = .next t) : Even s t :=
  Even.whenRunning h Even.query

theorem execHotlistQuery_even {body : List Byte} {s t : State} (h : execHotlistQuery body s = .next t) : Even s t :=
  Even.whenRunning h Even.query

theorem execWatchStatus_even {body : List Byte} {s t : State} (h : execWatchStatus body s = .next t) : Even s t :=
  Even.whenRunning h Even.query

theorem execSetClock_even {body : List Byte} {s t : State} (h : execSetClock body s = .next t) : Even s t :=
  Even.whenRunning h <| Even.request <| by
    split
    · exact State.setService_even _ _
    · exact Even.refl _

theorem execLoadStations_even {body : List Byte} {s t : State} (h : execLoadStations body s = .next t) : Even s t :=
  Even.whenRunning h <| Even.takeRequest <| by
    split
    · exact State.setFare_even _ _
    · exact Even.refl _

theorem execLoadBands_even {body : List Byte} {s t : State} (h : execLoadBands body s = .next t) : Even s t :=
  Even.whenRunning h <| Even.takeRequest <| by
    dsimp only
    split
    · exact State.setFare_even _ _
    · exact Even.refl _

theorem execLoadFares_even {body : List Byte} {s t : State} (h : execLoadFares body s = .next t) : Even s t :=
  Even.whenRunning h <| Even.request <| by
    split
    · exact State.setFare_even _ _
    · exact Even.refl _

theorem execLoadClasses_even {body : List Byte} {s t : State} (h : execLoadClasses body s = .next t) : Even s t :=
  Even.whenRunning h <| Even.takeRequest <| by
    split
    · exact State.setFare_even _ _
    · exact State.drew_even _ _

theorem execLoadKey_even {body : List Byte} {s t : State} (h : execLoadKey body s = .next t) : Even s t :=
  Even.whenRunning h <| Even.request <| by
    dsimp only
    split
    · exact State.drew_even _ _
    · split
      · exact State.setCheck_even _ _
      · exact Even.refl _

theorem execSetPolicy_even {body : List Byte} {s t : State} (h : execSetPolicy body s = .next t) : Even s t :=
  Even.whenRunning h <| Even.request <| by
    split
    · exact State.setCheck_even _ _
    · split
      · exact Even.refl _
      · exact State.drew_even _ _

theorem execReleaseDays_even {body : List Byte} {s t : State} (h : execReleaseDays body s = .next t) : Even s t :=
  Even.whenRunning h <| Even.request <| by
    dsimp only
    split
    · exact State.setFare_even _ _
    · exact State.drew_even _ _

theorem execHotlistAdd_even {body : List Byte} {s t : State} (h : execHotlistAdd body s = .next t) : Even s t :=
  Even.whenRunning h <| Even.request <| State.setHotlist_even _ _

theorem execHotlistRemove_even {body : List Byte} {s t : State} (h : execHotlistRemove body s = .next t) : Even s t :=
  Even.whenRunning h <| Even.request <| by
    dsimp only
    split
    · exact State.setHotlist_even _ _
    · exact Even.refl _

theorem execHotlistRange_even {body : List Byte} {s t : State} (h : execHotlistRange body s = .next t) : Even s t :=
  Even.whenRunning h <| Even.request <| by
    dsimp only
    split
    · exact State.drew_even _ _
    · exact State.setCheck_even _ _

theorem execPushSighting_even {body : List Byte} {s t : State} (h : execPushSighting body s = .next t) : Even s t :=
  Even.whenRunning h <| Even.request <| by
    split
    · exact Even.refl _
    · split
      · exact Even.refl _
      · split
        · exact State.setSightings_even _ _
        · exact Even.refl _

theorem State.program_even (s : State) (body : List Byte) : Even s (s.program body).after := by
  unfold State.program
  split
  · unfold State.programCommon
    split
    · exact State.setWatch_even _ _
    · exact Even.refl _
  · unfold State.programUnit
    dsimp only
    split
    · exact State.drew_even _ _
    · split
      · exact State.setWatch_even _ _
      · exact Even.refl _

theorem execSetWatchUnit_even {body : List Byte} {s t : State} (h : execSetWatchUnit body s = .next t) : Even s t :=
  Even.whenRunning h <| Even.request <| State.program_even _ _

theorem execSetWatchCommon_even {body : List Byte} {s t : State} (h : execSetWatchCommon body s = .next t) : Even s t :=
  Even.whenRunning h <| Even.request <| State.program_even _ _

theorem execClearWatch_even {body : List Byte} {s t : State} (h : execClearWatch body s = .next t) : Even s t :=
  Even.whenRunning h <| Even.request <| State.setWatch_even _ _

theorem execAttention_even {body : List Byte} {s t : State} (h : execAttention body s = .next t) : Even s t :=
  Even.whenRunning h <| Even.request <| State.setService_even _ _

theorem execSetAttentionMask_even {body : List Byte} {s t : State} (h : execSetAttentionMask body s = .next t) : Even s t :=
  Even.whenRunning h <| Even.request <| State.setService_even _ _

theorem execClearFault_even {body : List Byte} {s t : State} (h : execClearFault body s = .next t) : Even s t :=
  Even.whenRunning h <| Even.request <| by
    split
    · exact Even.refl _
    · exact State.setService_even _ _

theorem execReadJournal_even {body : List Byte} {s t : State} (h : execReadJournal body s = .next t) : Even s t :=
  Even.whenRunning h <| Even.request <| by
    dsimp only
    split
    · exact Even.refl _
    · exact Even.refl _

/-- Records that are freed leave the load. -/
theorem State.freeJournal_even (s : State) (q : Word) : Even s { s with journal := s.journal.free q } :=
  Even.of_contexts rfl rfl (List.Sublist.refl _) (Nat.add_le_add_right (List.dropWhile_sublist _).length_le _)

theorem execFreeJournal_even {body : List Byte} {s t : State} (h : execFreeJournal body s = .next t) : Even s t :=
  Even.whenRunning h <| Even.request <| State.freeJournal_even _ _

theorem State.runDrew_even (s : State) : Even s s.runDrew := by
  unfold State.runDrew
  split
  · split
    · exact Even.refl s
    · exact s.drew_even 1
  · exact Even.refl s

theorem execAisleStatus_even {body : List Byte} {s t : State} (h : execAisleStatus body s = .next t) : Even s t :=
  Even.whenRunning h <| Even.request <| State.runDrew_even _

theorem execReset_even {body : List Byte} {s t : State} (h : execReset body s = .next t) : Even s t :=
  Even.whenRunning h <| Even.request <| State.setLink_even _ _

/-- SET AISLE may shorten the tear window: the entries past it go with their records. -/
theorem execSetAisle_even {body : List Byte} {s t : State} (h : execSetAisle body s = .next t)
    (hs : (s.tears.map (·.number)).Nodup) : Even s t :=
  Even.whenRunning h <| Even.request <| by
    split
    · exact Even.refl _
    · split
      · exact Even.refl _
      · refine Even.trans (t := { s.hunting with aisle := s.hunting.aisle.accept _ s.hunting.now, check := _, setup := _ })
          (Even.of_contexts (hbooked := le_rfl)) (State.expireTears_even hs)

/-! ### Frames, power and pins -/

theorem execUnknownRequest_even {kind : Byte} {s t : State} (h : execUnknownRequest kind s = .next t) : Even s t :=
  Even.whenRunning h (Even.takeFrame (Even.refl _))

theorem execCheckMismatch_even {kind : Byte} {s t : State} (h : execCheckMismatch kind s = .next t) : Even s t :=
  Even.whenRunning h (Even.takeFrame (Even.refl _))

theorem execFramingError_even {s t : State} (h : execFramingError s = .next t) : Even s t :=
  Even.whenRunning h (Even.takeFrame (Even.refl _))

theorem execFrameGapTimeout_even {s t : State} (h : execFrameGapTimeout s = .next t) : Even s t :=
  Even.whenRunning h (Even.ite (Even.takeFrame (Even.refl _)) (Even.refl _))

theorem execFrameOverrun_even {s t : State} (h : execFrameOverrun s = .next t) : Even s t :=
  Even.whenRunning h (Even.ite (Even.takeFrame (Even.refl _)) (Even.refl _))

theorem execFrameStart_even {s t : State} (h : execFrameStart s = .next t) : Even s t :=
  Even.whenRunning h (s.setLink_even _)

theorem execHardwareResetAssert_even {s t : State} (h : execHardwareResetAssert s = .next t) : Even s t := by
  injection h with h
  rw [← h]
  exact Even.ite Even.of_contexts (Even.refl s)

theorem execPowerLoss_even {s t : State} (h : execPowerLoss s = .next t) : Even s t := by
  injection h with h
  rw [← h]
  exact Even.of_contexts

theorem execBackupSupplyFailure_even {s t : State} (h : execBackupSupplyFailure s = .next t) : Even s t := by
  injection h with h
  rw [← h]
  exact Even.of_contexts

theorem execEmergencyInputChange_even {x : Bool} {s t : State} (h : execEmergencyInputChange x s = .next t) : Even s t := by
  injection h with h
  rw [← h]
  exact s.setService_even _

theorem execBeamInputChange_even {b : Beam} {x : Bool} {s t : State} (h : execBeamInputChange b x s = .next t) : Even s t := by
  injection h with h
  rw [← h]
  exact s.setAisle_even

theorem State.setLimit_even (s : State) (l : Limit) (u : LineInput) : Even s (s.setAisle (s.aisle.setLimit l u)) :=
  s.setAisle_even (Aisle.queued_of_queues (s.aisle.setLimit_keeps l u).1).le

theorem execLimitInputChange_even {l : Limit} {x : Bool} {s t : State} (h : execLimitInputChange l x s = .next t) : Even s t := by
  injection h with h
  rw [← h]
  exact (s.setLimit_even l _)

/-! ### The ring -/

theorem State.ringArrival_even (s : State) (o hop : Byte) (m : RingMessage) {home : State → State}
    {arrive : State → State × RingMessage} (hh : Even s (home s)) (ha : Even s (arrive s).1) :
    Even s (s.ringArrival o hop m home arrive) := by
  unfold State.ringArrival
  split
  · exact Even.ite (Even.refl s) (s.send_even _)
  · exact Even.ite hh (Even.ite (Even.refl s) ((State.send_even _ _).after ha))

theorem State.holdArrives_even (s : State) (o : Byte) (n : CardNumber) (r : Half) : Even s (s.holdArrives o n r).1 := by
  unfold State.holdArrives
  split
  · exact Even.refl s
  · rename_i e l _
    dsimp only
    have taken : Even s (match (e.takeHold o s.now).1 with
        | some x => { s with sightings := touchSighting l x }
        | none => s) := by
      split
      · exact s.setSightings_even _
      · exact Even.refl s
    split
    · exact (State.noteHolders_even _ _ _).after taken
    · exact taken

theorem State.clearPeer_even (s : State) (o : Byte) (n : CardNumber) : Even s (s.clearPeer o n) := by
  unfold State.clearPeer
  split
  · exact Even.refl s
  · dsimp only
    split
    · exact Even.ite (s.setSightings_even _) (s.setSightings_even _)
    · exact s.setSightings_even _

theorem State.peerSighting_even (s : State) (n : CardNumber) (x : Sighting) : Even s (s.peerSighting n x) := by
  unfold State.peerSighting
  split
  · exact Even.refl s
  · exact Even.ite (s.setSightings_even _) (Even.refl s)

theorem State.releaseArrives_even (s : State) (o : Byte) (n : CardNumber) (b : ReleaseBody) :
    Even s (s.releaseArrives o n b) := by
  cases b with
  | committed => exact (State.noteHolders_even _ _ _).after ((State.peerSighting_even _ _ _).after (s.clearPeer_even o n))
  | dropped => exact s.clearPeer_even o n
  | uncertain => exact s.clearPeer_even o n

theorem execRelease_even {o hop : Byte} {n : CardNumber} {b : ReleaseBody} {s t : State}
    (h : execRelease o hop n b s = .next t) : Even s t :=
  Even.whenRunning h <| s.ringArrival_even o hop _ (Even.refl s) (s.releaseArrives_even o n b)

theorem execAlert_even {o hop : Byte} {n : CardNumber} {k : EvidenceKind} {b : Byte} {s t : State}
    (h : execAlert o hop n k b s = .next t) : Even s t :=
  Even.whenRunning h <| s.ringArrival_even o hop _ (Even.refl s) <|
    (State.noteHolders_even _ _ _).after (Even.ite (s.localAdd_even n false) (Even.refl s))

theorem execCensus_even {o hop : Byte} {s t : State} (h : execCensus o hop s = .next t) : Even s t :=
  Even.whenRunning h <| s.ringArrival_even o hop _ (s.censusHome_even hop) (Even.refl s)

theorem execBadRingMessage_even {s t : State} (h : execBadRingMessage s = .next t) : Even s t :=
  Even.whenRunning h (Even.refl s)

theorem execRingOutSent_even {s t : State} (h : execRingOutSent s = .next t) : Even s t :=
  Even.whenRunning h (s.setRing_even _)

theorem execCensusDue_even {s t : State} (h : execCensusDue s = .next t) : Even s t :=
  Even.whenRunning h (Even.ite s.sendCensus_even (Even.refl s))

theorem execPeerHoldExpiry_even {n : CardNumber} {s t : State} (h : execPeerHoldExpiry n s = .next t) : Even s t :=
  Even.whenRunning h <| by
    split
    · exact Even.refl s
    · split
      · exact Even.ite (s.setSightings_even _) (Even.refl s)
      · exact Even.refl s

theorem execDisplacedHoldExpiry_even {n : CardNumber} {s t : State} (h : execDisplacedHoldExpiry n s = .next t) : Even s t :=
  Even.whenRunning h <| by
    split
    · exact Even.refl s
    · split
      · exact Even.ite (s.setSightings_even _) (Even.refl s)
      · exact Even.refl s

theorem execTearWindowExpiry_even {n : CardNumber} {s t : State} (h : execTearWindowExpiry n s = .next t) : Even s t :=
  Even.whenRunning h <| by
    split
    · rename_i e hfind
      split
      · rename_i hpassed
        exact State.expireTear_even (mem_of_findTear hfind) (windowPassed_torn hpassed)
      · exact Even.refl s
    · exact Even.refl s

/-! ### The aisle and the clock -/

theorem execBeamDebounceExpiry_even {b : Beam} {s t : State} (h : execBeamDebounceExpiry b s = .next t) : Even s t :=
  Even.whenRunning h <| by
    split
    · refine Even.ite (Even.ite (s.beamBlocked_even b _) (Even.ite (s.unstick_even b) (s.beamCleared_even b _))) (Even.refl s)
    · exact Even.refl s

theorem execCloseDelayExpiry_even {s t : State} (h : execCloseDelayExpiry s = .next t) : Even s t :=
  Even.whenRunning h <|
    Even.ite (s.setAisle_even (Aisle.queued_of_queues (s.aisle.startClosing_keeps s.now).1).le) (Even.refl s)

theorem execGrantExpiry_even {d : Direction} {q : Word} {s t : State} (h : execGrantExpiry d q s = .next t) : Even s t :=
  Even.whenRunning h <| by
    dsimp only
    split
    · exact Even.refl s
    · exact Even.ite (s.setQueue_even d (length_updateFirst _ _ _).le rfl) (s.expireGrant_even d ‹_›)

theorem execPassageAlarmEnd_even {s t : State} (h : execPassageAlarmEnd s = .next t) : Even s t :=
  Even.whenRunning h <| by
    split
    · exact Even.ite s.setAisle_even (Even.refl s)
    · exact Even.refl s

theorem execWatchAlarmEnd_even {s t : State} (h : execWatchAlarmEnd s = .next t) : Even s t :=
  Even.whenRunning h (Even.ite s.setAisle_even (Even.refl s))

theorem execShortToneEnd_even {f : Face} {s t : State} (h : execShortToneEnd f s = .next t) : Even s t :=
  Even.whenRunning h <| by
    split
    · exact Even.ite s.setAisle_even (Even.refl s)
    · exact Even.refl s

theorem State.advanceMinute_even (s : State) : Even s s.advanceMinute := by
  unfold State.advanceMinute
  dsimp only
  exact Even.ite (s.setService_even _) (Even.ite ((State.raise_even _ _).after (s.setService_even _)) Even.of_contexts)

theorem execMinuteTick_even {s t : State} (h : execMinuteTick s = .next t) : Even s t :=
  Even.whenRunning h (Even.ite s.advanceMinute_even (Even.refl s))

end Sys2Proof.Machine
end

section
/-! SUPPORT. The journal's margin through the faces' polls and exchanges, faults, changes of service state and resets; every command; every
step. -/

namespace Sys2Proof.Machine

-- One declaration at a time: each waiting elaboration thread counts against the memory limit of the one text.
set_option Elab.async false

/-! ### Polls (R2 to R8) -/

/-- A face with a poll in progress is not SERVING. -/
theorem State.JournalSafe.polls {s : State} (h : s.JournalSafe) {f : Face} (hp : (s.face f).poll.isSome = true) :
    (s.face f).state = .polling ∨ (s.face f).state = .watching := ((journalSafe_iff s f).mp h).2.2.1.2.1 hp

theorem FaceState.ne_serving {x : FaceState} (h : x = .polling ∨ x = .watching) : x ≠ .serving := by
  rcases h with rfl | rfl <;> nofun

theorem State.JournalSafe.readerFault {s : State} (h : s.JournalSafe) {f : Face} (hs : (s.face f).state ≠ .serving) :
    (s.readerFault f).JournalSafe :=
  ((h.setFace hs (.inl rfl) (.inl rfl)).raiseFault _).cardRemoved f

theorem State.JournalSafe.pollUnanswered {s : State} (h : s.JournalSafe) {f : Face} (p : Poll)
    (hs : (s.face f).state ≠ .serving) : (s.pollUnanswered f p).JournalSafe := by
  have ended (u : FaceUnit) (hx : u.exchange = (s.face f).exchange) (hp : u.poll = none) : (s.setFace f u).JournalSafe :=
    h.setFace hs (.inr hx) (.inl hp)
  unfold State.pollUnanswered
  dsimp only
  generalize (if p.responded = true then (s.face f).missCount else (s.face f).missCount + 1) = misses
  split
  · refine State.JournalSafe.readerFault (ended _ ?_ ?_) ?_
    · rfl
    · rfl
    · rw [State.setFace_face]
      exact hs
  · split
    · split
      · refine State.JournalSafe.cardRemoved (ended _ ?_ ?_) f
        · rfl
        · rfl
      · refine ended _ ?_ ?_
        · rfl
        · rfl
    · refine ended _ ?_ ?_
      · rfl
      · rfl

/-- A poll that is answered in POLLING makes the face SERVING, its context waiting for the name answer (R5, R24). -/
theorem State.JournalSafe.pollAnswered {s : State} (h : s.JournalSafe) {f : Face} (hs : (s.face f).state ≠ .serving) :
    (s.pollAnswered f).JournalSafe := by
  unfold State.pollAnswered
  dsimp only
  split
  · obtain ⟨hload, htears, hf, hother⟩ := (journalSafe_iff s f).mp h
    obtain ⟨hrest, -⟩ := hf.1 hs
    have hn := htears.noPending (CtxState.not_committed_of_atRest hrest)
    have htap : Tapping 0 f (s.setFace f { s.face f with
        state := .serving, poll := none, pollStart := none, offPending := false }) :=
      { load := hload
        tears := htears
        other := (faceAgrees_congr (t := s.setFace f _) (s := s) (s.setFace_face_other f _) rfl).mpr hother
        serving := by rw [State.setFace_face]
        poll := by rw [State.setFace_face] }
    refine (htap.setContext hn ?_).ask_safe (by rw [State.setContext_context]; rfl)
    rw [contextShare_of_closed (c := { Context.idle with state := .naming }) rfl]
    exact htap.load.trans (Nat.le_add_right _ _)
  · exact h.setFace hs (.inr rfl) (.inl rfl)

theorem State.JournalSafe.pollCollision {s : State} (h : s.JournalSafe) {f : Face} (hs : (s.face f).state ≠ .serving) :
    (s.pollCollision f).JournalSafe := by
  unfold State.pollCollision
  dsimp only
  split
  · exact (State.askTone_even _ _ _).safe (h.setFace hs (.inr rfl) (.inl rfl))
  · exact h.setFace hs (.inr rfl) (.inl rfl)

theorem State.responded_state (s : State) (f : Face) : ((s.responded f).face f).state = (s.face f).state := by
  unfold State.responded
  split
  · rfl
  · rw [State.setFace_face]
    rfl

/-- What ends a poll in progress, after the response that it is. -/
theorem State.JournalSafe.endPoll {s : State} (h : s.JournalSafe) {f : Face} {act : State → State}
    (hact : ∀ t : State, t.JournalSafe → (t.face f).state ≠ .serving → (act t).JournalSafe) :
    State.JournalSafe (if (s.face f).poll.isSome then act (s.responded f) else s.responded f) := by
  split
  · rename_i hp
    exact hact _ (h.responded f) (by rw [State.responded_state]; exact FaceState.ne_serving (h.polls hp))
  · exact h.responded f

/-! ### Exchanges -/

/-- A HOLDING context waits for no card reply. -/
theorem State.JournalSafe.underway_of_holding {s : State} (h : s.JournalSafe) {f : Face} (hc : (s.context f).state = .holding) :
    Underway f s := by
  refine (h.tapping_of_state (by rw [hc]; rfl)).underway ?_ hc rfl rfl
  by_contra hne
  obtain ⟨e, he⟩ := Option.ne_none_iff_exists'.mp hne
  have hfit := ((journalSafe_iff s f).mp h).2.2.1.2.2 e he
  rw [hc] at hfit
  cases hcmd : e.command <;> rw [hcmd] at hfit <;> cases hfit

/-- A command sent once more is the one that its context waits for. -/
theorem State.JournalSafe.resend {s : State} (h : s.JournalSafe) {f : Face} {e : Exchange} (he : (s.face f).exchange = some e)
    {x : Exchange} (hx : x.command = e.command) : (s.setFace f { s.face f with exchange := some x }).JournalSafe := by
  obtain ⟨hload, htears, ⟨hserving, hpoll, hfits⟩, hother⟩ := (journalSafe_iff s f).mp h
  refine (journalSafe_iff _ f).mpr ⟨hload, htears, ?_, ?_⟩
  · rw [State.FaceAgrees, State.setFace_face]
    refine ⟨fun hne => ?_, hpoll, fun y hy => ?_⟩
    · rw [(hserving hne).2] at he
      cases he
    · cases hy
      rw [hx]
      exact hfits e he
  · exact (faceAgrees_congr (t := s.setFace f _) (s := s) (s.setFace_face_other f _) rfl).mpr hother

/-! ### The ring's ends of HOLDING -/

theorem State.JournalSafe.holdReturns {s : State} (h : s.JournalSafe) (n : CardNumber) (x : HoldContest) :
    (s.holdReturns n x).JournalSafe := by
  unfold State.holdReturns
  split
  · exact h
  · rename_i f hf
    have howner := List.find?_some hf
    simp only [Bool.and_eq_true, decide_eq_true_eq] at howner
    have hu := h.underway_of_holding howner.1.1
    refine (hu.setContext ?_ ?_).deciding_safe
    · split
      · exact hu.unrecorded
      · exact hu.unrecorded
    · split
      · exact hu.before
      · exact hu.before

/-! ### Resets (R56, R194 to R196, R208) -/

theorem State.tearAtReset_eq (s : State) (e : TearEntry) :
    (s.tearAtReset e).faces = s.faces ∧ (s.tearAtReset e).contexts = s.contexts
      ∧ (s.tearAtReset e).tears = tearNow s.tears e.number 0 s.journal.next := by
  simp [State.tearAtReset]

theorem State.tearAtReset_load {s : State} (h : (s.tears.map (·.number)).Nodup) (e : TearEntry) :
    (s.tearAtReset e).load ≤ s.load + 2 := by
  have htorn := tornCount_tearNow h e.number 0 s.journal.next
  have hload : (State.load { s with tears := tearNow s.tears e.number 0 s.journal.next }) ≤ s.load + 1 := by
    simp only [State.load_eq, State.booked]
    omega
  rw [State.tearAtReset, State.append_load]
  omega

/-- The PENDING entries of a list of them become TORN, each with one record. -/
theorem foldl_tearAtReset (l : List TearEntry) {s : State} (h : (s.tears.map (·.number)).Nodup) :
    (l.foldl State.tearAtReset s).faces = s.faces ∧ (l.foldl State.tearAtReset s).contexts = s.contexts
      ∧ (l.foldl State.tearAtReset s).tears.map (·.number) = s.tears.map (·.number)
      ∧ (l.foldl State.tearAtReset s).load ≤ s.load + 2 * l.length
      ∧ ∀ e ∈ (l.foldl State.tearAtReset s).tears, e.state = .pending → e ∈ s.tears ∧ ∀ x ∈ l, e.number ≠ x.number := by
  induction l generalizing s with
  | nil => exact ⟨rfl, rfl, rfl, le_rfl, fun e he _ => ⟨he, nofun⟩⟩
  | cons x xs ih =>
    obtain ⟨hfaces, hcontexts, htears⟩ := s.tearAtReset_eq x
    have hnumbers : (s.tearAtReset x).tears.map (·.number) = s.tears.map (·.number) := by rw [htears, tearNow_numbers]
    obtain ⟨ifaces, icontexts, inumbers, iload, ipending⟩ := ih (s := s.tearAtReset x) (by rw [hnumbers]; exact h)
    refine ⟨ifaces.trans hfaces, icontexts.trans hcontexts, inumbers.trans hnumbers, ?_, fun e he hp => ?_⟩
    · have := State.tearAtReset_load h x
      simp only [List.foldl_cons, List.length_cons]
      omega
    · obtain ⟨hmem, hne⟩ := ipending e he hp
      rw [htears] at hmem
      obtain ⟨hold, hx⟩ := mem_tearNow_pending hmem hp
      exact ⟨hold, fun y hy => (List.mem_cons.mp hy).elim (fun hyx => hyx ▸ hx) (hne y)⟩

/-- A face has at most one PENDING entry, and then its context has two records to come. -/
theorem State.TearsAgree.pending_share {s : State} (h : s.TearsAgree) (f : Face) :
    2 * (s.tears.filter fun e => decide (e.state = .pending ∧ e.face = f)).length ≤ contextShare (s.context f) := by
  set l := s.tears.filter fun e => decide (e.state = .pending ∧ e.face = f) with hl
  have hall : ∀ e ∈ l, (s.context f).state.committed = true ∧ e.number = (s.context f).number := fun e he => by
    obtain ⟨hmem, hp⟩ := List.mem_filter.mp he
    obtain ⟨hp, hf⟩ := of_decide_eq_true hp
    have := h.2 e hmem hp
    rw [hf] at this
    exact ⟨this.1, this.2.symm⟩
  have hnodup : (l.map (·.number)).Nodup := h.1.sublist (List.filter_sublist.map _)
  rw [List.eq_replicate_of_mem (a := (s.context f).number) (l := l.map (·.number)) fun n hn => by
    obtain ⟨e, he, rfl⟩ := List.mem_map.mp hn
    exact (hall e he).2, List.nodup_replicate, List.length_map] at hnodup
  cases hcases : l with
  | nil => exact Nat.zero_le _
  | cons e es =>
    have hc := (hall e (by rw [hcases]; simp)).1
    rw [contextShare_of_open (CtxState.admittedOpen_of_committed hc), ← hcases]
    omega

theorem tornCount_restart (l : List TearEntry) : tornCount (l.map TearEntry.restart) = tornCount l := by
  have hstate (e : TearEntry) : e.restart.state ≠ .pending ↔ e.state ≠ .pending := by
    unfold TearEntry.restart
    split <;> simp_all
  simp only [tornCount, List.countP_map]
  exact List.countP_congr fun e _ => by simp only [Function.comp, decide_eq_true_eq]; exact hstate e

theorem TearEntry.restart_number (e : TearEntry) : e.restart.number = e.number := by
  unfold TearEntry.restart
  split <;> rfl

theorem TearEntry.restart_pending {e : TearEntry} (h : e.restart.state = .pending) : e.state = .pending := by
  unfold TearEntry.restart at h
  split at h
  · cases h
  · assumption

theorem State.afterReset_load (s : State) (b : Bool) :
    (s.afterReset b).load + contextShare (s.context .street) + contextShare (s.context .paid) ≤ s.load := by
  have hqueued : (s.afterReset b).aisle.queued = 0 := rfl
  have hcontexts : contextShare (s.afterReset b).contexts.street = 0 ∧ contextShare (s.afterReset b).contexts.paid = 0 := ⟨rfl, rfl⟩
  have hjournal : (s.afterReset b).journal = s.journal := rfl
  have htears : (s.afterReset b).tears = s.tears := rfl
  simp only [State.load_eq, State.booked, hqueued, hcontexts, hjournal, htears, State.context, PerFace.get]
  omega

theorem State.JournalSafe.reset {s : State} (h : s.JournalSafe) (b : Bool) : (s.afterReset b).restTears.JournalSafe := by
  obtain ⟨hload, hagree, -, -⟩ := (journalSafe_iff s .street).mp h
  have hstreet := hagree.pending_share .street
  have hpaid := hagree.pending_share .paid
  let l := (s.tears.filter fun e => decide (e.state = .pending ∧ e.face = .street))
    ++ s.tears.filter fun e => decide (e.state = .pending ∧ e.face = .paid)
  let u := l.foldl State.tearAtReset (s.afterReset b)
  have hrest : (s.afterReset b).restTears = { u with tears := u.tears.map TearEntry.restart } := rfl
  obtain ⟨hfaces, hcontexts, hnumbers, hgrown, hpending⟩ := foldl_tearAtReset l (s := s.afterReset b) hagree.1
  have hnone : ∀ e ∈ u.tears, e.state ≠ .pending := fun e he hp => by
    obtain ⟨hmem, hne⟩ := hpending e he hp
    refine hne e ?_ rfl
    cases hf : e.face with
    | street => exact List.mem_append_left _ (List.mem_filter.mpr ⟨hmem, by simp [hp, hf]⟩)
    | paid => exact List.mem_append_right _ (List.mem_filter.mpr ⟨hmem, by simp [hp, hf]⟩)
  have agrees (f : Face) : (s.afterReset b).restTears.FaceAgrees f := by
    have hface : (s.afterReset b).restTears.face f = (s.afterReset b).face f := by
      rw [State.face, hrest]; exact congrArg (·.get f) hfaces
    have hcontext : (s.afterReset b).restTears.context f = (s.afterReset b).context f := by
      rw [State.context, hrest]; exact congrArg (·.get f) hcontexts
    rw [faceAgrees_congr hface hcontext]
    cases f <;> exact ⟨fun _ => ⟨rfl, rfl⟩, nofun, nofun⟩
  refine (journalSafe_iff _ .street).mpr ⟨?_, ⟨?_, fun e he hp => ?_⟩, agrees _, agrees _⟩
  · have hsame : (s.afterReset b).restTears.load = u.load := by
      rw [hrest]
      simp only [State.load_eq, State.booked, tornCount_restart]
    have hgrown : u.load ≤ (s.afterReset b).load + 2 * l.length := hgrown
    have hlen : l.length = _ := List.length_append
    have := s.afterReset_load b
    omega
  · rw [hrest]
    have : ((u.tears.map TearEntry.restart).map (·.number)) = u.tears.map (·.number) := by
      rw [List.map_map]
      exact List.map_congr_left fun e _ => e.restart_number
    change ((u.tears.map TearEntry.restart).map (·.number)).Nodup
    rw [this, hnumbers]
    exact hagree.1
  · rw [hrest] at he
    obtain ⟨x, hx, rfl⟩ := List.mem_map.mp he
    exact absurd (TearEntry.restart_pending hp) (hnone x hx)

theorem State.powerOnLost_safe (s : State) : s.powerOnLost.JournalSafe := by
  have hempty : State.JournalSafe { s.afterReset false with
      hotlist := { entries := [], localOrder := [] }, tears := [], journal := { records := [], next := 1 } } := by
    have face (f : Face) : State.FaceAgrees { s.afterReset false with
        hotlist := { entries := [], localOrder := [] }, tears := [], journal := { records := [], next := 1 } } f := by
      cases f <;> exact ⟨fun _ => ⟨rfl, rfl⟩, nofun, nofun⟩
    exact (journalSafe_iff _ .street).mpr ⟨Nat.zero_le _, ⟨List.nodup_nil, nofun⟩, face _, face _⟩
  exact hempty.fillFaultSlot _

/-! ### Every command -/

theorem State.JournalSafe.whenRunning {s t : State} {act : State → State} (h : s.JournalSafe) (ht : whenRunning s act = .next t)
    (hact : (act s).JournalSafe) : t.JournalSafe := by
  injection ht with ht
  rw [← ht]
  split
  · exact hact
  · exact h

/-- A request whose answer keeps the margin. -/
theorem State.JournalSafe.request {s : State} (h : s.JournalSafe) {kind : Byte} {length : Nat} {body : List Byte}
    {answer : State → Answer} (ha : s.hunting.JournalSafe → (answer s.hunting).after.JournalSafe) :
    (s.request kind length body answer).JournalSafe := by
  have hhunting : s.hunting.JournalSafe := (s.setLink_even _).safe h
  unfold State.request State.takeRequest State.takeFrame
  dsimp only
  split
  · exact (State.setLink_even _ _).safe hhunting
  · split
    · exact (State.setLink_even _ _).safe (ha hhunting)
    · exact (State.setLink_even _ _).safe hhunting

theorem execConfigDone_safe {body : List Byte} {s t : State} (h : execConfigDone body s = .next t) (hs : s.JournalSafe) :
    t.JournalSafe :=
  hs.whenRunning h <| hs.request fun hh => by
    split
    · have ring {u : State} (hu : u.JournalSafe) : (u.setRing { u.ring with state := .isolated }).sendCensus.JournalSafe :=
        ((State.sendCensus_even _).after (u.setRing_even _)).safe hu
      unfold State.leaveStarting
      dsimp only [stateAnswer]
      split
      · exact ring ((State.raise_even _ _).safe (hh.enterFree _))
      · exact ring (hh.enterPlain _)
    · exact hh

theorem execSetService_safe {body : List Byte} {s t : State} (h : execSetService body s = .next t) (hs : s.JournalSafe) :
    t.JournalSafe :=
  hs.whenRunning h <| hs.request fun hh => by
    split
    · unfold State.setServiceTarget
      dsimp only [stateAnswer]
      split
      · exact hh.enterPlain _
      · split
        · exact hh.enterPlain _
        · split <;> exact hh
    · exact hh

theorem execEmergency_safe {body : List Byte} {s t : State} (h : execEmergency body s = .next t) (hs : s.JournalSafe) :
    t.JournalSafe :=
  hs.whenRunning h <| hs.request fun hh => by
    split
    iterate 3 exact hh.enterFree _
    iterate 2 exact hh

theorem execResume_safe {body : List Byte} {s t : State} (h : execResume body s = .next t) (hs : s.JournalSafe) : t.JournalSafe :=
  hs.whenRunning h <| hs.request fun hh => by
    split
    · have driven {u : State} (hu : u.JournalSafe) : (u.setAisle (u.aisle.leaveFree u.now)).JournalSafe :=
        (u.setAisle_even (Aisle.queued_of_queues (Aisle.leaveFree_keeps _ _).1).le).safe hu
      exact driven ((((State.setService_even _ _).safe hh).fieldOnRequest .street true).fieldOnRequest .paid true)
    · exact hh

theorem execReplySent_safe {s t : State} (h : execReplySent s = .next t) (hs : s.JournalSafe) : t.JournalSafe :=
  hs.whenRunning h <| by
    split
    · exact hs
    · split
      · exact hs.reset _
      · split
        · exact (s.setLink_even _).safe hs
        · exact (s.setLink_even _).safe hs

theorem execPowerOn_safe {b : Bool} {s t : State} (h : execPowerOn b s = .next t) (hs : s.JournalSafe) : t.JournalSafe := by
  injection h with h
  rw [← h]
  refine Even.safe (s := if s.storeKept = true ∧ b = true then s.powerOnValid else s.powerOnLost)
    (Even.of_contexts rfl rfl (List.Sublist.refl _) le_rfl) ?_
  split
  · exact hs.reset _
  · exact s.powerOnLost_safe

theorem execWakeTimeout_safe {f : Face} {s t : State} (h : execWakeTimeout f s = .next t) (hs : s.JournalSafe) : t.JournalSafe :=
  hs.whenRunning h <| by
    split
    · exact hs
    · rename_i p hp
      have hpolls := hs.polls (f := f) (by rw [hp]; rfl)
      split
      · exact hs
      · split
        · exact hs.pollUnanswered p (FaceState.ne_serving hpolls)
        · exact hs.setFace (FaceState.ne_serving hpolls) (.inr rfl) (.inr hpolls)

theorem execSettlingTimeExpiry_safe {f : Face} {s t : State} (h : execSettlingTimeExpiry f s = .next t) (hs : s.JournalSafe) :
    t.JournalSafe :=
  hs.whenRunning h <| by
    dsimp only
    split
    · rename_i hc
      exact hs.setFace (by rw [hc.1]; nofun) (.inr rfl) (.inr (.inl rfl))
    · exact hs

theorem execPollDue_safe {f : Face} {s t : State} (h : execPollDue f s = .next t) (hs : s.JournalSafe) : t.JournalSafe :=
  hs.whenRunning h <| by
    dsimp only
    split
    · rename_i hc
      exact hs.setFace (FaceState.ne_serving hc.1) (.inr rfl) (.inr hc.1)
    · exact hs

theorem execCommandTimeout_safe {f : Face} {s t : State} (h : execCommandTimeout f s = .next t) (hs : s.JournalSafe) :
    t.JournalSafe :=
  hs.whenRunning h <| by
    split
    · exact hs
    · rename_i e he
      obtain ⟨htap, hx, hfit⟩ := hs.closeExchange he
      split
      · exact hs
      · split
        · exact hs.resend he rfl
        · split
          · rename_i hsettle
            exact htap.settleTimeout_safe (CardCommand.fits_settle (hsettle ▸ hfit))
          · exact htap.cardLost_safe hx

theorem execPresenceAnswer_safe {f : Face} {s t : State} (h : execPresenceAnswer f s = .next t) (hs : s.JournalSafe) :
    t.JournalSafe := hs.whenRunning h (hs.endPoll fun _ ht hne => ht.pollAnswered hne)

theorem execCollisionReport_safe {f : Face} {s t : State} (h : execCollisionReport f s = .next t) (hs : s.JournalSafe) :
    t.JournalSafe := hs.whenRunning h (hs.endPoll fun _ ht hne => ht.pollCollision hne)

theorem execGarbledReply_safe {f : Face} {s t : State} (h : execGarbledReply f s = .next t) (hs : s.JournalSafe) :
    t.JournalSafe := hs.whenRunning h (hs.endPoll fun _ ht hne => ht.pollCollision hne)

theorem execSilenceNotice_safe {f : Face} {s t : State} (h : execSilenceNotice f s = .next t) (hs : s.JournalSafe) :
    t.JournalSafe := hs.whenRunning h (hs.responded f)

theorem execNameAnswer_safe {f : Face} {n : CardNumber} {c g : Byte} {x : CardStatus} {s t : State}
    (h : execNameAnswer f n c g x s = .next t) (hs : s.JournalSafe) : t.JournalSafe :=
  hs.whenRunning h <| hs.cardReply f fun u command hname htap hx hfit => by
    have hc := CardCommand.fits_name (of_decide_eq_true hname ▸ hfit)
    have named (a : NameAnswer) : Tapping 0 f (u.setContext f { u.context f with name := some a }) :=
      htap.setContext (htap.noPending (by rw [hc]; rfl)) (Nat.add_le_add_right htap.load _)
    exact (named _).nameAnswer_safe hx (by rw [State.setContext_context]; exact hc) _

theorem execCardImage_safe {f : Face} {b : List Byte} {s t : State} (h : execCardImage f b s = .next t) (hs : s.JournalSafe) :
    t.JournalSafe :=
  hs.whenRunning h <| hs.cardReply f fun u command hfetch htap hx hfit => by
    split
    · rename_i hc
      exact (htap.underway hx hc rfl rfl).readImage_safe b
    · rename_i hc
      exact htap.confirmRead_safe hx (by rw [hc]; rfl) b
    · exact htap.safe hx

theorem execProofAnswer_safe {f : Face} {p : Word} {s t : State} (h : execProofAnswer f p s = .next t) (hs : s.JournalSafe) :
    t.JournalSafe :=
  hs.whenRunning h <| hs.cardReply f fun u command hprove htap hx hfit => by
    cases command with
    | prove w =>
      have hu := htap.underway hx (CardCommand.fits_prove hfit) rfl rfl
      split
      · exact hu.proofMatched_safe
      · exact hu.proofFailed_safe
    | _ => cases hprove

/-- A reply to STAGE finds the context in STAGING. -/
theorem Tapping.underway_of_stage {f : Face} {s : State} (h : Tapping 0 f s) (hx : (s.face f).exchange = none) {c : CardCommand}
    (hc : c.isStage = true) (hfit : c.fits (s.context f).state = true) : Underway f s := by
  cases c with
  | stage b n => exact h.underway hx (CardCommand.fits_stage hfit) rfl rfl
  | _ => cases hc

theorem execReady_safe {f : Face} {s t : State} (h : execReady f s = .next t) (hs : s.JournalSafe) : t.JournalSafe :=
  hs.whenRunning h <| hs.cardReply f fun _ _ hstage htap hx hfit => (htap.underway_of_stage hx hstage hfit).readyToCommit_safe

theorem execStale_safe {f : Face} {s t : State} (h : execStale f s = .next t) (hs : s.JournalSafe) : t.JournalSafe :=
  hs.whenRunning h <| hs.cardReply f fun _ _ hstage htap hx hfit => (htap.underway_of_stage hx hstage hfit).endFailed_safe _

theorem execSettled_safe {f : Face} {n : Half} {s t : State} (h : execSettled f n s = .next t) (hs : s.JournalSafe) :
    t.JournalSafe :=
  hs.whenRunning h <| hs.cardReply f fun u command hsettle htap hx hfit => by
    have hc : (u.context f).state.committed = true := by
      rw [of_decide_eq_true hsettle] at hfit
      rw [CardCommand.fits_settle hfit]
      rfl
    split
    · exact htap.confirmWrite_safe hx hc
    · exact htap.notWritten_safe hc

theorem execHold_safe {o hop : Byte} {n : CardNumber} {r : Half} {x : HoldContest} {s t : State}
    (h : execHold o hop n r x s = .next t) (hs : s.JournalSafe) : t.JournalSafe :=
  hs.whenRunning h <| by
    unfold State.ringArrival
    split
    · exact (Even.ite (Even.refl s) (s.send_even _)).safe hs
    · split
      · exact hs.holdReturns n x
      · exact (Even.ite (Even.refl s) ((State.send_even _ _).after (s.holdArrives_even o n r))).safe hs

theorem execRingTimeout_safe {f : Face} {s t : State} (h : execRingTimeout f s = .next t) (hs : s.JournalSafe) : t.JournalSafe :=
  hs.whenRunning h <| by
    split
    · rename_i hdue
      simp only [Context.timedOut, Bool.and_eq_true, decide_eq_true_eq] at hdue
      have hu := s.isolate_even.underway (hs.underway_of_holding hdue.1)
      exact (hu.setContext (c := { s.isolate.context f with bypassed := true }) hu.unrecorded hu.before).deciding_safe
    · exact hs

theorem execBeamStuck_safe {b : Beam} {s t : State} (h : execBeamStuck b s = .next t) (hs : s.JournalSafe) : t.JournalSafe :=
  hs.whenRunning h <| by
    have ended {u : State} (hu : u.JournalSafe) : State.JournalSafe (if u.aisle.clear then u.endRun u.now else u) :=
      (Even.ite (u.endRun_even _) (Even.refl u)).safe hu
    dsimp only
    split
    · exact ended ((s.setAisle_even.safe hs).raiseFault _)
    · exact hs

theorem Aisle.limitAsserted_queues (a : Aisle) (l : Limit) (t : Word) : (a.limitAsserted l t).queues = a.queues := by
  unfold Aisle.limitAsserted
  split <;> simp

theorem execLimitDebounceExpiry_safe {l : Limit} {s t : State} (h : execLimitDebounceExpiry l s = .next t) (hs : s.JournalSafe) :
    t.JournalSafe :=
  hs.whenRunning h <| by
    split
    · unfold State.acceptLimit
      dsimp only
      have hset := (s.setLimit_even l { s.aisle.limit l with
        accepted := !(s.aisle.limit l).accepted, pendingSince := none }).safe hs
      split
      · exact (State.setAisle_even _ (Aisle.queued_of_queues (Aisle.limitAsserted_queues _ l _)).le).safe hset
      · split
        · exact hset.raiseFault _
        · exact hset
    · exact hs

theorem execTravelTimeout_safe {s t : State} (h : execTravelTimeout s = .next t) (hs : s.JournalSafe) : t.JournalSafe :=
  hs.whenRunning h <| by
    split
    · exact (s.setAisle_even.safe hs).raiseFault _
    · exact hs

theorem execEmergencyDebounceExpiry_safe {s t : State} (h : execEmergencyDebounceExpiry s = .next t) (hs : s.JournalSafe) :
    t.JournalSafe :=
  hs.whenRunning h <| by
    dsimp only
    split
    · have haccepted (v : Service) : (s.setService v).JournalSafe := (s.setService_even v).safe hs
      split
      · exact haccepted _
      · unfold State.emergencyAsserted
        split
        iterate 3 exact (State.raise_even _ _).safe ((haccepted _).enterFree _)
        iterate 2 exact haccepted _
    · exact hs

theorem exec_safe {c : Instr} {s t : State} (h : exec c s = .next t) (hs : s.JournalSafe) : t.JournalSafe := by
  cases c with
  | identify => exact (execIdentify_even h).safe hs
  | setClock => exact (execSetClock_even h).safe hs
  | setAisle => exact (execSetAisle_even h hs.2.1.1).safe hs
  | loadStations => exact (execLoadStations_even h).safe hs
  | loadBands => exact (execLoadBands_even h).safe hs
  | loadFares => exact (execLoadFares_even h).safe hs
  | loadClasses => exact (execLoadClasses_even h).safe hs
  | loadKey => exact (execLoadKey_even h).safe hs
  | setPolicy => exact (execSetPolicy_even h).safe hs
  | configDone => exact execConfigDone_safe h hs
  | setService => exact execSetService_safe h hs
  | emergency => exact execEmergency_safe h hs
  | resume => exact execResume_safe h hs
  | releaseDays => exact (execReleaseDays_even h).safe hs
  | hotlistAdd => exact (execHotlistAdd_even h).safe hs
  | hotlistRemove => exact (execHotlistRemove_even h).safe hs
  | hotlistRange => exact (execHotlistRange_even h).safe hs
  | hotlistQuery => exact (execHotlistQuery_even h).safe hs
  | pushSighting => exact (execPushSighting_even h).safe hs
  | setWatchUnit => exact (execSetWatchUnit_even h).safe hs
  | setWatchCommon => exact (execSetWatchCommon_even h).safe hs
  | watchStatus => exact (execWatchStatus_even h).safe hs
  | clearWatch => exact (execClearWatch_even h).safe hs
  | attention => exact (execAttention_even h).safe hs
  | setAttentionMask => exact (execSetAttentionMask_even h).safe hs
  | readFault => exact (execReadFault_even h).safe hs
  | clearFault => exact (execClearFault_even h).safe hs
  | readJournal => exact (execReadJournal_even h).safe hs
  | freeJournal => exact (execFreeJournal_even h).safe hs
  | readCounters => exact (execReadCounters_even h).safe hs
  | aisleStatus => exact (execAisleStatus_even h).safe hs
  | tearList => exact (execTearList_even h).safe hs
  | reset => exact (execReset_even h).safe hs
  | unknownRequest => exact (execUnknownRequest_even h).safe hs
  | checkMismatch => exact (execCheckMismatch_even h).safe hs
  | framingError => exact (execFramingError_even h).safe hs
  | frameGapTimeout => exact (execFrameGapTimeout_even h).safe hs
  | frameOverrun => exact (execFrameOverrun_even h).safe hs
  | replySent => exact execReplySent_safe h hs
  | powerOn => exact execPowerOn_safe h hs
  | hardwareResetAssert => exact (execHardwareResetAssert_even h).safe hs
  | powerLoss => exact (execPowerLoss_even h).safe hs
  | settlingTimeExpiry => exact execSettlingTimeExpiry_safe h hs
  | pollDue => exact execPollDue_safe h hs
  | wakeTimeout => exact execWakeTimeout_safe h hs
  | presenceAnswer => exact execPresenceAnswer_safe h hs
  | collisionReport => exact execCollisionReport_safe h hs
  | garbledReply => exact execGarbledReply_safe h hs
  | silenceNotice => exact execSilenceNotice_safe h hs
  | commandTimeout => exact execCommandTimeout_safe h hs
  | nameAnswer => exact execNameAnswer_safe h hs
  | cardImage => exact execCardImage_safe h hs
  | proofAnswer => exact execProofAnswer_safe h hs
  | ready => exact execReady_safe h hs
  | stale => exact execStale_safe h hs
  | settled => exact execSettled_safe h hs
  | hold => exact execHold_safe h hs
  | release => exact (execRelease_even h).safe hs
  | alert => exact (execAlert_even h).safe hs
  | census => exact (execCensus_even h).safe hs
  | badRingMessage => exact (execBadRingMessage_even h).safe hs
  | ringOutSent => exact (execRingOutSent_even h).safe hs
  | ringTimeout => exact execRingTimeout_safe h hs
  | censusDue => exact (execCensusDue_even h).safe hs
  | peerHoldExpiry => exact (execPeerHoldExpiry_even h).safe hs
  | displacedHoldExpiry => exact (execDisplacedHoldExpiry_even h).safe hs
  | tearWindowExpiry => exact (execTearWindowExpiry_even h).safe hs
  | beamInputChange => exact (execBeamInputChange_even h).safe hs
  | beamDebounceExpiry => exact (execBeamDebounceExpiry_even h).safe hs
  | beamStuck => exact execBeamStuck_safe h hs
  | limitInputChange => exact (execLimitInputChange_even h).safe hs
  | limitDebounceExpiry => exact execLimitDebounceExpiry_safe h hs
  | travelTimeout => exact execTravelTimeout_safe h hs
  | closeDelayExpiry => exact (execCloseDelayExpiry_even h).safe hs
  | grantExpiry => exact (execGrantExpiry_even h).safe hs
  | passageAlarmEnd => exact (execPassageAlarmEnd_even h).safe hs
  | watchAlarmEnd => exact (execWatchAlarmEnd_even h).safe hs
  | shortToneEnd => exact (execShortToneEnd_even h).safe hs
  | emergencyInputChange => exact (execEmergencyInputChange_even h).safe hs
  | emergencyDebounceExpiry => exact execEmergencyDebounceExpiry_safe h hs
  | minuteTick => exact (execMinuteTick_even h).safe hs
  | backupSupplyFailure => exact (execBackupSupplyFailure_even h).safe hs
  | frameStart => exact (execFrameStart_even h).safe hs

/-- Settles O50: every command keeps the margin with the agreement of faces, contexts and tear table that it rests on. -/
theorem journalIsNeverOverfilled : Obligations.JournalIsNeverOverfilled := by
  refine step_preserves (fun _ _ => id) (fun s hs => ?_) fun c s t h hs => exec_safe h hs
  obtain ⟨_, _, _, _, he⟩ := s.millisecond_eq
  rw [he]
  exact hs

end Sys2Proof.Machine
end

section
/-! SUPPORT. The link unit and the requests that only report: IDENTIFY, RESET, READ FAULT and CLEAR FAULT, the aisle's reports, and the
outputs of a part that does not run. -/

namespace Sys2Proof.Machine

-- One declaration at a time: each waiting elaboration thread counts against the memory limit of the one text.
set_option Elab.async false

/-! ### IDENTIFY and RESET (R204, R208) -/

theorem identifyReportsThePart : Claims.IdentifyReportsThePart := by
  intro s hs
  refine (whenRunning_request_of_listening (fields := s.identity) hs rfl rfl).trans ?_
  rw [State.identity]
  cases s.setup.place <;> rfl

theorem resetRequestWaitsForItsReply : Claims.ResetRequestWaitsForItsReply :=
  fun _ hs => whenRunning_request_of_listening hs rfl rfl

/-- Settles O6: each request's answer is read off the state. -/
theorem identifyAndResetAreAnswered : Obligations.IdentifyAndResetAreAnswered :=
  ⟨identifyReportsThePart, resetRequestWaitsForItsReply⟩

/-! ### READ FAULT and CLEAR FAULT (R177, R179) -/

theorem snapshotBytes_eq (x : CtxState × Option CardNumber) :
    snapshotBytes x = codeIn ctxStateList x.1 :: match x.2 with
      | some n => 1 :: longBytes n
      | none => List.replicate 9 0 := by
  obtain ⟨_, _ | _⟩ := x <;> rfl

/-- Settles O10: a query of the fault slot and the cause, and the one case in which the slot is not emptied. -/
theorem readFaultAndClearFault : Obligations.ReadFaultAndClearFault := by
  intro s hs snapshot shown
  have record (r : FaultRecord) : r.toBytes = shown r := by
    obtain ⟨kind, time, stamp, snap, recoverable⟩ := r
    simp only [FaultRecord.toBytes, snapshotBytes_eq, shown, snapshot]
    obtain _ | ⟨_, _⟩ := stamp
    all_goals (cases kind with
      | readerFault f => cases f <;> rfl
      | beamStuck b => cases b <;> rfl
      | _ => rfl)
  refine ⟨?report, fun hlock => ?clear, fun hlock => ?kept⟩
  case report =>
    refine (whenRunning_request_of_listening (fields := s.faultFields) hs rfl rfl).trans ?_
    rw [State.faultFields]
    cases s.service.faultSlot <;> cases s.service.lockdownCause <;> simp only [Option.map, record] <;> rfl
  case clear => exact whenRunning_request_of_listening hs rfl (if_neg hlock)
  case kept => exact whenRunning_request_of_listening hs rfl (if_pos hlock)

/-! ### Appending to the journal (R183, R184, R192) -/

/-- One record more crosses a threshold exactly when the free slots stood at it. -/
theorem crossesThreshold_pred (n : Nat) : crossesThreshold n (n - 1) = [256, 192, 128, 64].contains n := by
  rw [Bool.eq_iff_iff]
  simp only [crossesThreshold, List.any_cons, List.any_nil, Bool.or_false, Bool.or_eq_true, decide_eq_true_eq, List.contains_eq_mem,
    List.mem_cons, List.not_mem_nil, or_false]
  omega

/-- The journal with one record more. -/
def Journal.with (j : Journal) (k : RecordKind) (stamp : Stamp) (f : Face) (x : RecordFields) : Journal :=
  { records := j.records ++ [{ sequence := j.next, kind := k, stamp := stamp, face := f, fields := x }], next := nextSequence j.next }

/-- The journal unit's part of the flags after one record, appended with `n` slots free. -/
def FlagSet.afterRecord (g : FlagSet) (n : Nat) : FlagSet := { g with journal := g.journal || [256, 192, 128, 64].contains n }

theorem State.freeSlots_of_journal {s t : State} {k : RecordKind} {stamp : Stamp} {f : Face} {x : RecordFields}
    (h : t.journal = s.journal.with k stamp f x) : t.freeSlots = s.freeSlots - 1 := by
  simp only [State.freeSlots, h, Journal.with, List.length_append, List.length_singleton]
  omega

theorem State.append_eq (s : State) (k : RecordKind) (stamp : Stamp) (f : Face) (x : RecordFields) :
    s.append k stamp f x = { s with
      journal := s.journal.with k stamp f x
      service := { s.service with flags := s.service.flags.afterRecord s.freeSlots } } := by
  have hfree : State.freeSlots { s with journal := s.journal.with k stamp f x } = s.freeSlots - 1 := State.freeSlots_of_journal rfl
  rw [FlagSet.afterRecord, ← crossesThreshold_pred, ← hfree, State.append]
  cases hc : crossesThreshold s.freeSlots (State.freeSlots { s with journal := s.journal.with k stamp f x }) with
  | true => exact (if_pos hc).trans (by simp only [State.raise, FlagSet.raise, Bool.or_true]; rfl)
  | false => exact (if_neg (Bool.eq_false_iff.mp hc)).trans (by simp only [Bool.or_false]; rfl)

/-- Settles O20: by the definition of an append, with the crossing of a threshold by one record. -/
theorem appendGivesTheNextSequence : Obligations.AppendGivesTheNextSequence := by
  intro s k stamp f x t
  have ht : t = _ := s.append_eq k stamp f x
  refine ⟨by rw [ht]; rfl, by rw [ht]; rfl, fun _ hclear => ?flag, rfl⟩
  case flag =>
    rw [ht]
    simp only [FlagSet.afterRecord, hclear, Bool.false_or, List.contains_eq_mem, decide_eq_true_eq]

/-! ### Several records (R183, R184, R192) -/

/-- What a record says beside its sequence. -/
abbrev Draft := RecordKind × Stamp × Face × RecordFields

def Draft.record (d : Draft) (q : Word) : Record :=
  { sequence := q, kind := d.1, stamp := d.2.1, face := d.2.2.1, fields := d.2.2.2 }

/-- Records appended one after the other. -/
def State.appendAll (s : State) (l : List Draft) : State := l.foldl (fun t d => t.append d.1 d.2.1 d.2.2.1 d.2.2.2) s

/-- The records that drafts become with consecutive sequences from `q` on. -/
def recordsFrom (q : Word) (l : List Draft) : List Record := l.mapIdx fun i d => d.record (Claims.nextAfter i q)

/-- The flags after `n` records, appended with `free` slots free. -/
def FlagSet.afterRecords (g : FlagSet) (n free : Nat) : FlagSet :=
  { g with journal := g.journal || (List.range n).any fun i => [256, 192, 128, 64].contains (free - i) }

theorem Claims.nextAfter_succ (n : Nat) (q : Word) : Claims.nextAfter (n + 1) q = Claims.nextAfter n (nextSequence q) := rfl

theorem recordsFrom_cons (q : Word) (d : Draft) (l : List Draft) :
    recordsFrom q (d :: l) = d.record q :: recordsFrom (nextSequence q) l := by
  rw [recordsFrom, List.mapIdx_cons]
  rfl

theorem recordsFrom_sequences (q : Word) (l : List Draft) :
    (recordsFrom q l).map (·.sequence) = (List.range l.length).map fun i => Claims.nextAfter i q := by
  refine List.ext_getElem (by simp [recordsFrom]) fun i _ _ => ?_
  simp [recordsFrom, Draft.record]

theorem FlagSet.afterRecords_zero (g : FlagSet) (free : Nat) : g.afterRecords 0 free = g := by
  simp [FlagSet.afterRecords]

theorem FlagSet.afterRecords_succ (g : FlagSet) (n free : Nat) :
    g.afterRecords (n + 1) free = (g.afterRecord free).afterRecords n (free - 1) := by
  have hstep : (fun i => [256, 192, 128, 64].contains (free - 1 - i)) = fun i => [256, 192, 128, 64].contains (free - (i + 1)) := by
    funext i
    rw [Nat.sub_sub, Nat.add_comm]
  simp only [FlagSet.afterRecords, FlagSet.afterRecord, List.range_succ_eq_map, List.any_cons, List.any_map, Function.comp_def, hstep,
    Bool.or_assoc, Nat.sub_zero, Nat.succ_eq_add_one]

theorem State.appendAll_eq (s : State) (l : List Draft) :
    s.appendAll l = { s with
      journal :=
        { records := s.journal.records ++ recordsFrom s.journal.next l, next := Claims.nextAfter l.length s.journal.next }
      service := { s.service with flags := s.service.flags.afterRecords l.length s.freeSlots } } := by
  induction l generalizing s with
  | nil => simp [State.appendAll, recordsFrom, Claims.nextAfter, FlagSet.afterRecords_zero]
  | cons d l ih =>
    have hfree : (s.append d.1 d.2.1 d.2.2.1 d.2.2.2).freeSlots = s.freeSlots - 1 :=
      State.freeSlots_of_journal (by rw [State.append_eq])
    rw [State.appendAll, List.foldl_cons]
    refine (ih _).trans ?_
    rw [hfree, State.append_eq, recordsFrom_cons, List.length_cons, FlagSet.afterRecords_succ, Claims.nextAfter_succ]
    simp only [Journal.with, List.append_assoc, List.singleton_append]
    rfl

/-! ### The aisle's reports (R166, R206, R207) -/

theorem exec_readCounters_of_listening {s : State} (hs : s.listening) :
    exec (.readCounters []) s
      = .next (s.replying 0x1D .done (s.aisle.counters.entry.toBytes ++ s.aisle.counters.exit.toBytes)) :=
  whenRunning_request_of_listening hs rfl rfl

theorem exec_tearList_of_listening {s : State} (hs : s.listening) :
    exec (.tearList []) s = .next (s.replying 0x1F .done
      (natHalf s.setup.tearWindow ++ counted (s.tears.map fun e => e.toBytes s.now s.tearWindowMs))) :=
  whenRunning_request_of_listening hs rfl rfl

theorem counted_map {α : Type} (l : List α) (f : α → List Byte) : counted (l.map f) = natHalf l.length ++ l.flatMap f := by
  rw [counted, List.length_map, List.flatMap]

theorem stampBytes_eq (x : Stamp) :
    halfBytes ((x.map (·.1)).getD 0) ++ halfBytes ((x.map (·.2)).getD 0)
      = match x with
        | some (day, minute) => halfBytes day ++ halfBytes minute
        | none => [0, 0, 0, 0] := by
  obtain _ | ⟨_, _⟩ := x <;> rfl

theorem contextBytes_eq (c : Context) :
    contextBytes c = codeIn ctxStateList c.state :: (match c.state, c.name with
      | .idle, _ | _, none => List.replicate 9 0
      | _, some a => 1 :: longBytes a.number) := by
  rw [contextBytes]
  obtain hidle | hidle := eq_or_ne c.state .idle
  · rw [if_pos hidle, hidle]
    rfl
  · rw [if_neg hidle]
    generalize c.state = st at hidle
    cases st <;> cases c.name <;> first | rfl | exact absurd rfl hidle

theorem TearEntry.toBytes_eq (e : TearEntry) (now : Word) (window : Nat) :
    e.toBytes now window = longBytes e.number ++ [e.cls, codeIn faceList e.face, codeIn tearKindList e.kind] ++ halfBytes e.oldCounter
      ++ halfBytes e.newCounter ++ halfBytes e.fare ++ wordBytes e.balanceAfter
      ++ (match e.written with
          | some (day, minute) => halfBytes day ++ halfBytes minute
          | none => [0, 0, 0, 0])
      ++ match e.state with
        | .pending => List.replicate 11 0
        | .torn start reference => [1, 1] ++ wordBytes reference ++ [1] ++ natWord (window - (now - start).toNat) := by
  rw [TearEntry.toBytes, ← stampBytes_eq]
  cases e.state <;> simp [optional, remaining]

theorem QueueEntry.toBytes_eq (e : QueueEntry) (now : Word) :
    e.toBytes now = match e.state with
      | .reserved => [0, codeIn faceList e.face] ++ longBytes e.number ++ List.replicate 10 0
      | .granted sequence start life _ => [1, codeIn faceList e.face] ++ longBytes e.number
          ++ [1] ++ wordBytes sequence ++ [1] ++ natWord (life - (now - start).toNat) := by
  unfold QueueEntry.toBytes
  cases e.state <;> simp [optional, remaining]

theorem State.alarmBytes_eq (s : State) :
    s.alarmBytes = [markByte (decide (s.aisle.passageAlarm ≠ .silent)), markByte s.aisle.watchAlarm.isSome]
      ++ (match s.aisle.passageAlarm with
          | .since t => 1 :: natWord (3000 - (s.now - t).toNat)
          | _ => [0, 0, 0, 0, 0])
      ++ match s.aisle.watchAlarm with
        | some t => 1 :: natWord (3000 - (s.now - t).toNat)
        | none => [0, 0, 0, 0, 0] := by
  unfold State.alarmBytes
  cases s.aisle.passageAlarm <;> cases s.aisle.watchAlarm <;> rfl

/-- The crossing count's byte in the AISLE STATUS reply. -/
def State.crossingByte (s : State) : Byte :=
  match s.aisle.run with
  | some r => if r.crossings ≤ 255 then natByte r.crossings else Config.freeByte s.freeCount
  | none => 0

theorem State.runBytes_eq (s : State) :
    s.runBytes = match s.aisle.run with
      | some r => [1, codeIn runDirectionList r.direction, codeIn faceList r.side, s.crossingByte]
      | none => [0, 0, 0, 0] := by
  unfold State.runBytes State.crossingByte
  cases s.aisle.run <;> rfl

theorem exec_aisleStatus_of_listening {s : State} (hs : s.listening) :
    exec (.aisleStatus []) s = .next (s.runDrew.replying 0x1E .done s.statusFields) := by
  refine whenRunning_request_of_listening hs rfl ?_
  have hafter : s.hunting.runDrew = s.runDrew.hunting := by
    simp only [State.runDrew, State.hunting, State.setLink_aisle]
    cases s.aisle.run with
    | none => rfl
    | some r =>
      simp only
      split <;> rfl
  rw [hafter]
  rfl

theorem State.runDrew_eq (s : State) :
    ∃ n, s.runDrew = { s with freeCount := n } ∧ ((∀ r, s.aisle.run = some r → r.crossings ≤ 255) → n = s.freeCount)
      ∧ ∀ r, s.aisle.run = some r → 255 < r.crossings → n = s.freeCount + 1 := by
  unfold State.runDrew
  cases hrun : s.aisle.run with
  | none => exact ⟨_, rfl, fun _ => rfl, nofun⟩
  | some r =>
    simp only [Option.some.injEq, forall_eq']
    by_cases hfits : r.crossings ≤ 255
    · exact ⟨_, if_pos hfits, fun _ => rfl, fun hlt => absurd hfits (by omega)⟩
    · exact ⟨_, if_neg hfits, fun h => absurd h hfits, fun _ => rfl⟩

/-- Settles O22: each report group by group. -/
theorem aisleReportsChangeNothing : Obligations.AisleReportsChangeNothing := by
  intro s hs counts
  have hcounts (k : PassageCounters) : k.toBytes = counts k := by simp [PassageCounters.toBytes, counts]
  refine ⟨?counters, ?tears, ?status⟩
  case counters => rw [exec_readCounters_of_listening hs, hcounts, hcounts]
  case tears =>
    rw [exec_tearList_of_listening hs, counted_map, ← List.append_assoc]
    simp only [TearEntry.toBytes_eq, State.tearWindowMs] <;> rfl
  case status =>
    obtain ⟨n, hn, hfits, hdrew⟩ := s.runDrew_eq
    refine ⟨s.crossingByte, n, hfits, fun r hr => ⟨fun hle => ?_, hdrew r hr⟩, ?_⟩
    · simp only [State.crossingByte, hr, if_pos hle]
      rfl
    · rw [exec_aisleStatus_of_listening hs, hn, State.statusFields, State.runBytes_eq]
      simp only [State.blockBytes, State.checkBytes, Aisle.passageBytes, State.alarmBytes_eq,
        counted_map, contextBytes_eq, QueueEntry.toBytes_eq, faceBytes, BeamInput.toBytes, natByte, List.flatMap_cons, List.flatMap_nil,
        List.append_nil, List.append_assoc] <;> rfl

/-! ### Tones, lamps and the leaf drive (R163 to R165) -/

theorem State.alarmTone_iff (s : State) : s.alarmTone = true ↔ s.aisle.passageAlarm ≠ .silent ∨ s.aisle.watchAlarm ≠ none := by
  rw [State.alarmTone, Bool.or_eq_true, decide_eq_true_iff, Option.isSome_iff_ne_none]

theorem State.askTone_eq (s : State) (f : Face) (tone : ShortTone) :
    s.askTone f tone = if s.aisle.passageAlarm = .silent ∧ s.aisle.watchAlarm = none then
      { s with aisle := { s.aisle with tones := s.aisle.tones.set f (some (tone, s.now)) } } else s := by
  unfold State.askTone
  by_cases h : s.alarmTone = true
  · rw [if_pos h, if_neg]
    rintro ⟨hp, hw⟩
    exact (s.alarmTone_iff.mp h).elim (· hp) (· hw)
  · rw [if_neg h, if_pos]
    · rfl
    · simpa [s.alarmTone_iff] using h

theorem State.passageAlarm_starts (s : State) (r : Run) (o : PassageOutcome) :
    (s.passageAlarm r o).aisle.passageAlarm = .runInProgress
      ∧ (s.passageAlarm r o).aisle.tones = { street := none, paid := none } := by
  simp only [State.passageAlarm, State.appendSpare_keeps, State.setAisle_aisle, Aisle.cutTones, and_self]

theorem State.sound_of_running {s : State} (f : Face) (hp : s.power = .running) :
    let alarmed := s.aisle.passageAlarm ≠ .silent ∨ s.aisle.watchAlarm ≠ none
    (s.sound f = .alarm ↔ alarmed)
    ∧ (¬ alarmed → s.aisle.tones.get f = none → s.sound f = .silent)
    ∧ (¬ alarmed → ∀ t, s.aisle.tones.get f = some (.accept, t) → s.sound f = .accept)
    ∧ (¬ alarmed → ∀ t, s.aisle.tones.get f = some (.refuse, t) →
        s.sound f = if 120 ≤ (s.now - t).toNat ∧ (s.now - t).toNat < 240 then .silent else .refuse) := by
  intro alarmed
  have quiet (hq : ¬ alarmed) : s.sound f = match s.aisle.tones.get f with
      | some (t, start) => t.sound (s.now - start).toNat
      | none => .silent := (if_neg (not_not_intro hp)).trans (if_neg (mt s.alarmTone_iff.mp hq))
  refine ⟨⟨fun h => ?_, fun h => ?_⟩, fun hq ht => ?_, fun hq t ht => ?_, fun hq t ht => ?_⟩
  · by_contra hq
    rw [quiet hq] at h
    split at h
    · next tone start _ =>
      cases tone with
      | accept => cases h
      | refuse => unfold ShortTone.sound at h; simp only at h; split at h <;> cases h
    · cases h
  · rw [State.sound, if_neg (not_not_intro hp), if_pos (s.alarmTone_iff.mpr h)]
  · rw [quiet hq, ht]
  · simp only [quiet hq, ht, ShortTone.sound]
  · simp only [quiet hq, ht, ShortTone.sound]

theorem State.lamp_of_running {s : State} (f : Face) (hp : s.power = .running) :
    let dark := (s.face f).state = .off ∨ (s.face f).state = .disabled
    (s.service.state = .emergency ∨ s.service.state = .lockdown → s.lamp f = .free)
    ∧ (s.service.state = .starting → s.lamp f = .off)
    ∧ (s.service.state = .closed → dark → s.lamp f = .off)
    ∧ (s.service.state = .inService ∨ (s.service.state = .closed ∧ ¬ dark) →
      (s.aisle.watchAlarm ≠ none → s.lamp f = .attend)
      ∧ (s.aisle.watchAlarm = none → (s.face f).state = .disabled → s.lamp f = .stop)
      ∧ (s.aisle.watchAlarm = none → (s.face f).state ≠ .disabled → s.lamp f = (s.context f).indication.lamp)) := by
  intro dark
  have hlamp : s.lamp f = if s.service.state = .emergency ∨ s.service.state = .lockdown then .free
      else if s.service.state = .starting then .off
      else if s.service.state = .closed ∧ dark then .off
      else if s.aisle.watchAlarm.isSome then .attend
      else if (s.face f).state = .disabled then .stop
      else (s.context f).indication.lamp := if_neg (not_not_intro hp)
  refine ⟨fun h => hlamp.trans (if_pos h), fun h => ?_, fun h hd => ?_, fun h => ?_⟩
  · rw [hlamp, h]
    rfl
  · simp [hlamp, h, hd]
  · have hrest : s.lamp f = if s.aisle.watchAlarm.isSome then .attend
        else if (s.face f).state = .disabled then .stop
        else (s.context f).indication.lamp := by
      rcases h with h | ⟨h, hd⟩
      · simp [hlamp, h]
      · simp [hlamp, h, hd]
    refine ⟨fun hw => ?_, fun hw hd => ?_, fun hw hd => ?_⟩
    · rw [hrest, if_pos (Option.isSome_iff_ne_none.mpr hw)]
    · simp [hrest, hw, hd]
    · simp [hrest, hw, hd]

theorem State.leafDrive_of_running {s : State} (hp : s.power = .running) : s.leafDrive = match s.aisle.leaf with
    | .closed | .closing => .close
    | .opening | .opened | .free => .opening
    | .jammed => .off := by
  refine (if_neg (not_not_intro hp)).trans ?_
  cases s.aisle.leaf <;> rfl

theorem State.fieldOn_of_running {s : State} (f : Face) (hp : s.power = .running) :
    s.fieldOn f = true ↔ (s.face f).state ≠ .off ∧ (s.face f).state ≠ .disabled := by
  rw [State.fieldOn, decide_eq_true hp, Bool.true_and, decide_eq_true_iff]
  rfl

/-- Settles O26: each output by its definition, line by line. -/
theorem lampsAndTones : Obligations.LampsAndTones :=
  ⟨State.askTone_eq, fun _ => rfl, State.passageAlarm_starts, fun _ f hp => State.sound_of_running f hp,
    fun _ f hp => State.lamp_of_running f hp, fun _ hp => State.leafDrive_of_running hp, fun _ f hp => State.fieldOn_of_running f hp⟩

/-! ### A part that does not run (R209) -/

/-- Without power, and held in reset, every command does nothing but those of power, of the backup supply and of the input pins. -/
theorem exec_of_stopped {s : State} (hp : s.power ≠ .running) {c : Instr} (hon : ∀ b, c ≠ .powerOn b) (hreset : c ≠ .hardwareResetAssert)
    (hloss : c ≠ .powerLoss) (hbackup : c ≠ .backupSupplyFailure) (hbeam : ∀ b h, c ≠ .beamInputChange b h)
    (hlimit : ∀ l a, c ≠ .limitInputChange l a) (hemergency : ∀ a, c ≠ .emergencyInputChange a) : exec c s = .next s := by
  cases c with
  | powerOn b => exact absurd rfl (hon b)
  | hardwareResetAssert => exact absurd rfl hreset
  | powerLoss => exact absurd rfl hloss
  | backupSupplyFailure => exact absurd rfl hbackup
  | beamInputChange b h => exact absurd rfl (hbeam b h)
  | limitInputChange l a => exact absurd rfl (hlimit l a)
  | emergencyInputChange a => exact absurd rfl (hemergency a)
  | _ => exact congrArg Host.Outcome.next (if_neg hp)

end Sys2Proof.Machine
end

section
/-! SUPPORT. Resets and power (sections 9.6 and 10.7): the tear table brought to rest record by record, and every block's value after either
kind of reset. -/

namespace Sys2Proof.Machine

-- One declaration at a time: each waiting elaboration thread counts against the memory limit of the one text.
set_option Elab.async false

/-! ### The tear table at a reset (R56, R194) -/

/-- The TORN record of a PENDING entry at a reset. -/
def TearEntry.resetDraft (e : TearEntry) : Draft :=
  (.transaction .torn, e.written, e.face,
    { RecordFields.blank with
      number := some e.number, cls := some e.cls, fare := some e.fare, balanceAfter := some e.balanceAfter
      counterAfter := some e.newCounter })

/-- The table once the entries of a list have become TORN one after the other, with references from `q` on. -/
def tearAll (table : List TearEntry) (q : Word) : List TearEntry → List TearEntry
  | [] => table
  | e :: es => tearAll (tearNow table e.number 0 q) (nextSequence q) es

/-- Records do not look at the tear table. -/
theorem State.appendAll_tears (s : State) (l : List Draft) (a b : List TearEntry) :
    { ({ s with tears := a } : State).appendAll l with tears := b } = { s.appendAll l with tears := b } := by
  simp only [State.appendAll_eq]
  rfl

theorem State.foldl_tearAtReset_eq (l : List TearEntry) (s : State) :
    l.foldl State.tearAtReset s = { s.appendAll (l.map TearEntry.resetDraft) with tears := tearAll s.tears s.journal.next l } := by
  induction l generalizing s with
  | nil => rfl
  | cons e es ih =>
    have hnext : (s.tearAtReset e).journal.next = nextSequence s.journal.next := by rw [State.tearAtReset, State.append_eq]; rfl
    rw [List.foldl_cons, ih, hnext]
    have htears : (s.tearAtReset e).tears = tearNow s.tears e.number 0 s.journal.next := by rw [State.tearAtReset, State.append_eq]
    rw [htears]
    exact State.appendAll_tears s (e.resetDraft :: es.map TearEntry.resetDraft) _ _

theorem mem_tearNow_of_ne {l : List TearEntry} {e : TearEntry} (he : e ∈ l) {n : CardNumber} (hne : e.number ≠ n) (start q : Word) :
    e ∈ tearNow l n start q := List.mem_map.mpr ⟨e, he, if_neg hne⟩

theorem mem_tearNow_self {l : List TearEntry} {e : TearEntry} (he : e ∈ l) (start q : Word) :
    { e with state := .torn start q } ∈ tearNow l e.number start q := List.mem_map.mpr ⟨e, he, if_pos rfl⟩

theorem tearAll_numbers (l : List TearEntry) (table : List TearEntry) (q : Word) :
    (tearAll table q l).map (·.number) = table.map (·.number) := by
  induction l generalizing table q with
  | nil => rfl
  | cons e es ih => rw [tearAll, ih, tearNow_numbers]

/-- An entry of another number than theirs stands. -/
theorem mem_tearAll_of_not_mem {l table : List TearEntry} {e : TearEntry} (he : e ∈ table) (hl : e.number ∉ l.map (·.number)) (q : Word) :
    e ∈ tearAll table q l := by
  induction l generalizing table q with
  | nil => exact he
  | cons x xs ih =>
    obtain ⟨hx, hxs⟩ := not_or.mp (mt List.mem_cons.mpr hl)
    exact ih (mem_tearNow_of_ne he hx 0 q) hxs _

/-- The i-th of them is TORN with the i-th sequence. -/
theorem mem_tearAll {l table : List TearEntry} (hsub : ∀ e ∈ l, e ∈ table) (hnodup : (l.map (·.number)).Nodup) (q : Word) {i : Nat}
    {e : TearEntry} (he : l[i]? = some e) : { e with state := .torn 0 (Claims.nextAfter i q) } ∈ tearAll table q l := by
  induction l generalizing table q i with
  | nil => simp at he
  | cons x xs ih =>
    obtain ⟨hx, hxs⟩ := List.nodup_cons.mp hnodup
    cases i with
    | zero =>
      obtain rfl : x = e := by simpa using he
      exact mem_tearAll_of_not_mem (mem_tearNow_self (hsub x (by simp)) 0 q) hx _
    | succ i =>
      refine ih (fun y hy => mem_tearNow_of_ne (hsub y (by simp [hy])) ?_ 0 q) hxs (nextSequence q) (by simpa using he)
      rintro hxy
      exact hx (List.mem_map.mpr ⟨y, hy, hxy⟩)

/-- The entries a reset finds PENDING, in the order of their records. -/
def State.pendingTears (s : State) : List TearEntry :=
  (s.tears.filter fun e => decide (e.state = .pending ∧ e.face = .street))
    ++ s.tears.filter fun e => decide (e.state = .pending ∧ e.face = .paid)

theorem State.mem_pendingTears {s : State} {e : TearEntry} : e ∈ s.pendingTears ↔ e ∈ s.tears ∧ e.state = .pending := by
  simp only [State.pendingTears, List.mem_append, List.mem_filter, decide_eq_true_eq]
  cases e.face <;> simp

theorem State.pendingTears_nodup {s : State} (h : (s.tears.map (·.number)).Nodup) : (s.pendingTears.map (·.number)).Nodup := by
  rw [State.pendingTears, List.map_append, List.nodup_append]
  refine ⟨h.sublist (List.filter_sublist.map _), h.sublist (List.filter_sublist.map _), ?_⟩
  simp only [List.mem_map, List.mem_filter, decide_eq_true_eq]
  rintro _ ⟨x, ⟨hx, -, hxf⟩, rfl⟩ _ ⟨y, ⟨hy, -, hyf⟩, rfl⟩ hxy
  obtain rfl := List.inj_on_of_nodup_map h hx hy hxy
  exact absurd (hxf.symm.trans hyf) (by decide)

/-- The tear table at rest. -/
def State.restedTears (s : State) : List TearEntry := (tearAll s.tears s.journal.next s.pendingTears).map TearEntry.restart

theorem State.restTears_eq (s : State) :
    s.restTears = { s.appendAll (s.pendingTears.map TearEntry.resetDraft) with tears := s.restedTears } := by
  change { s.pendingTears.foldl State.tearAtReset s with
    tears := (s.pendingTears.foldl State.tearAtReset s).tears.map TearEntry.restart } = _
  rw [State.foldl_tearAtReset_eq]
  rfl

theorem State.restedTears_numbers (s : State) : s.restedTears.map (·.number) = s.tears.map (·.number) := by
  have hrestart : (fun e : TearEntry => e.number) ∘ TearEntry.restart = fun e => e.number := funext TearEntry.restart_number
  rw [State.restedTears, List.map_map, hrestart, tearAll_numbers]

theorem State.mem_restedTears_of_torn {s : State} (h : (s.tears.map (·.number)).Nodup) {e : TearEntry} (he : e ∈ s.tears) {w r : Word}
    (ht : e.state = .torn w r) : { e with state := .torn 0 r } ∈ s.restedTears := by
  have hother : e.number ∉ s.pendingTears.map (·.number) := by
    rw [List.mem_map]
    rintro ⟨x, hx, hxe⟩
    obtain ⟨hx, hp⟩ := State.mem_pendingTears.mp hx
    obtain rfl := List.inj_on_of_nodup_map h hx he hxe
    exact absurd (hp.symm.trans ht) nofun
  refine List.mem_map.mpr ⟨e, mem_tearAll_of_not_mem he hother _, ?_⟩
  rw [TearEntry.restart, ht]

theorem State.mem_restedTears_of_pending {s : State} (h : (s.tears.map (·.number)).Nodup) {i : Nat} {e : TearEntry}
    (he : s.pendingTears[i]? = some e) : { e with state := .torn 0 (Claims.nextAfter i s.journal.next) } ∈ s.restedTears :=
  List.mem_map.mpr ⟨_, mem_tearAll (fun _ hx => (State.mem_pendingTears.mp hx).1) (State.pendingTears_nodup h) _ he, rfl⟩

/-! ### Every block after a reset (R140, R157, R170, R194 to R196) -/

/-- The part after a reset: each block at its value, with a retained store, flags and a fault slot as given. -/
def State.rested (s : State) (valid kept : Bool) (store : State) (g : FlagSet) (slot : Option FaultRecord) : State :=
  { s.afterReset valid with
    storeKept := kept, hotlist := store.hotlist, tears := store.tears, journal := store.journal
    service := { (s.afterReset valid).service with flags := g, faultSlot := slot } }

theorem FlagSet.get_all (g : Flag) : FlagSet.all.get g = true := by cases g <;> rfl

theorem State.rested_blocksAtRest (s : State) (valid kept : Bool) (store : State) (g : FlagSet) (slot : Option FaultRecord) :
    Claims.BlocksAtRest (s.rested valid kept store g slot) :=
  ⟨rfl, rfl, rfl, rfl, rfl, rfl, rfl, rfl, rfl, rfl, rfl, rfl, FlagSet.get_all⟩

theorem State.rested_aisleAtRest (s : State) (valid kept : Bool) (store : State) (g : FlagSet) (slot : Option FaultRecord) :
    Claims.AisleAtRest s (s.rested valid kept store g slot) := by
  refine ⟨rfl, rfl, rfl, rfl, rfl, rfl, rfl, rfl, rfl, rfl, rfl, rfl, rfl, rfl, fun b => ?_⟩
  cases b <;> exact ⟨rfl, rfl, rfl, rfl, rfl⟩

/-- The retained store of a reset that keeps it. -/
def State.keptStore (s : State) : State :=
  { s with
    tears := s.restedTears
    journal :=
      { records := s.journal.records ++ recordsFrom s.journal.next (s.pendingTears.map TearEntry.resetDraft)
        next := Claims.nextAfter s.pendingTears.length s.journal.next } }

theorem State.afterReset_restTears_eq (s : State) (valid : Bool) :
    (s.afterReset valid).restTears
      = s.rested valid s.storeKept s.keptStore (FlagSet.none.afterRecords s.pendingTears.length s.freeSlots) none := by
  rw [State.restTears_eq, State.appendAll_eq, List.length_map]
  rfl

theorem exec_powerOn_eq (s : State) (b : Bool) :
    exec (.powerOn b) s = .next (if s.storeKept = true ∧ b = true then { s.powerOnValid with storeKept := true }
      else { s.powerOnLost with storeKept := true }) := by
  change Host.Outcome.next (s.powerOn b) = _
  unfold State.powerOn
  split <;> rfl

theorem State.powerOnLost_eq (s : State) :
    { s.powerOnLost with storeKept := true } = s.rested false true
      { s with hotlist := { entries := [], localOrder := [] }, tears := [], journal := { records := [], next := 1 } }
      (FlagSet.none.raise .fault)
      (some
        { kind := .retainedLost, time := 0, stamp := none
          snapshot := { street := (.idle, none), paid := (.idle, none) }, recoverable := true }) := rfl

theorem exec_powerOn_of_valid {s : State} (hk : s.storeKept = true) :
    exec (.powerOn true) s = .next
      (s.rested true true s.keptStore (FlagSet.none.afterRecords s.pendingTears.length s.freeSlots) none) := by
  rw [exec_powerOn_eq, if_pos ⟨hk, rfl⟩, State.powerOnValid, State.afterReset_restTears_eq]
  rfl

theorem exec_powerOn_of_invalid {s : State} {b : Bool} (h : s.storeKept = false ∨ b = false) :
    exec (.powerOn b) s = .next { s.powerOnLost with storeKept := true } := by
  rw [exec_powerOn_eq, if_neg]
  rintro ⟨hk, hb⟩
  rcases h with h | h <;> simp_all

theorem FlagSet.get_afterRecords_none (n free : Nat) (g : Flag) :
    (FlagSet.none.afterRecords n free).get g = true ↔ g = .journal ∧ ∃ i < n, free - i ∈ [256, 192, 128, 64] := by
  cases g
  case journal =>
    change (false || (List.range n).any fun i => [256, 192, 128, 64].contains (free - i)) = true ↔ _
    simp only [Bool.false_or, List.any_eq_true, List.mem_range, List.contains_eq_mem, decide_eq_true_eq, true_and]
  all_goals exact ⟨nofun, fun h => absurd h.1 nofun⟩

theorem FlagSet.get_raise_none (g h : Flag) : (FlagSet.none.raise g).get h = true ↔ h = g := by
  have hnone : FlagSet.none.get h = false := by cases h <;> rfl
  rw [FlagSet.get_raise, hnone, Bool.false_or, decide_eq_true_iff]

theorem recordsFrom_map {α : Type} (q : Word) (l : List α) (g : α → Draft) :
    recordsFrom q (l.map g) = l.mapIdx fun i a => (g a).record (Claims.nextAfter i q) := by
  refine List.ext_getElem (by simp [recordsFrom]) fun i _ _ => ?_
  simp [recordsFrom]

theorem resetsKeepTheStoreAndRestTheTears : Claims.ResetsKeepTheStoreAndRestTheTears := by
  intro s hnodup waiting record rests
  have rest (c : Instr) (valid : Bool) (he : exec c s = .next
      (s.rested valid s.storeKept s.keptStore (FlagSet.none.afterRecords s.pendingTears.length s.freeSlots) none)) : rests c valid := by
    refine ⟨_, he, rfl, rfl, rfl, rfl, s.rested_blocksAtRest .., s.rested_aisleAtRest .., rfl, rfl,
      FlagSet.get_afterRecords_none _ _, rfl, ?_, rfl, s.restedTears_numbers,
      fun e he w r ht => State.mem_restedTears_of_torn hnodup he ht, fun i e he => State.mem_restedTears_of_pending hnodup he⟩
    exact congrArg (s.journal.records ++ ·) (recordsFrom_map ..)
  refine ⟨fun hp hreply hreset => rest _ _ ?_, fun hk => rest _ _ ?_⟩
  · change execReplySent s = _
    rw [execReplySent, whenRunning_of_running _ hp]
    simp only [if_neg hreply, if_pos hreset, State.linkReset, State.afterReset_restTears_eq]
  · rw [exec_powerOn_of_valid hk, hk]

theorem invalidStoreIsEmptied : Claims.InvalidStoreIsEmptied := by
  intro s ok h
  refine ⟨_, (exec_powerOn_of_invalid h).trans (congrArg _ s.powerOnLost_eq), rfl, rfl, rfl, rfl, s.rested_blocksAtRest ..,
    s.rested_aisleAtRest .., rfl, rfl, rfl, rfl, rfl,
    FlagSet.get_raise_none .fault⟩

theorem powerCommandsKeepTheStore : Claims.PowerCommandsKeepTheStore := fun _ =>
  ⟨rfl, fun hp => congrArg _ (if_pos hp), fun hp => congrArg _ (if_neg hp), rfl⟩

/-- Settles O23: both resets that keep the store are the same function of the state, the power-on of a lost store empties it. -/
theorem resetsAndPowerKeepTheStore : Obligations.ResetsAndPowerKeepTheStore :=
  ⟨resetsKeepTheStoreAndRestTheTears, invalidStoreIsEmptied, powerCommandsKeepTheStore⟩

/-! ### A part that does not run (R209) -/

theorem exec_powerOn_runs (s : State) (b : Bool) : ∃ t, exec (.powerOn b) s = .next t
    ∧ t.power = .running ∧ t.now = 0 ∧ t.service.state = .starting ∧ t.storeKept = true := by
  by_cases h : s.storeKept = true ∧ b = true
  · obtain ⟨hk, rfl⟩ := h
    exact ⟨_, exec_powerOn_of_valid hk, rfl, rfl, rfl, rfl⟩
  · refine ⟨_, exec_powerOn_of_invalid ?_, rfl, rfl, rfl, rfl⟩
    simpa [imp_iff_not_or] using h

/-- Settles O4: the commands that need a running part do nothing, and each output asks for one. -/
theorem stoppedPartRests : Obligations.StoppedPartRests := by
  intro s hp
  refine ⟨fun c h1 h2 h3 h4 h5 h6 h7 => exec_of_stopped hp h1 h2 h3 h4 h5 h6 h7, congrArg _ (if_neg hp), rfl, rfl, exec_powerOn_runs s,
    ?attn, fun n => ?txd, if_neg hp, if_pos hp, fun f => ⟨if_pos hp, if_pos hp, ?field⟩⟩
  case attn => rw [State.attn, decide_eq_false hp, Bool.false_and]
  case txd =>
    unfold State.txd
    split
    · exact if_neg hp
    · rfl
  case field => rw [State.fieldOn, decide_eq_false hp, Bool.false_and]

end Sys2Proof.Machine
end

section
/-! SUPPORT. The requests that load the fare tables (section 3.1): the items of a body read one after the other, and what each request
replaces. -/

namespace Sys2Proof.Machine

-- One declaration at a time: each waiting elaboration thread counts against the memory limit of the one text.
set_option Elab.async false

/-! ### A request whose length follows from its body (R202) -/

theorem whenRunning_takeRequest_of_listening {s u : State} {kind : Byte} {fits : Bool} {answer : State → Answer} {r : Result}
    {fields : List Byte} (hs : s.listening) (hfits : fits = true)
    (hans : answer s.hunting = { result := r, fields := fields, after := u.hunting }) :
    whenRunning s (fun s => s.takeRequest kind fits answer) = .next (u.replying kind r fields) := by
  obtain ⟨hp, hfree⟩ := hs
  rw [whenRunning_of_running _ hp, State.takeRequest, State.takeFrame_of_free _ hfree, hfits, if_pos rfl, hans]
  rfl

/-! ### Every item of a list, or none -/

theorem allSome_map_of_forall {α β : Type} {l : List α} {h : α → Option β} {g : α → β} (hall : ∀ a ∈ l, h a = some (g a)) :
    allSome (l.map h) = some (l.map g) := by
  induction l with
  | nil => rfl
  | cons a l ih =>
    rw [List.map_cons, hall a (by simp), allSome, ih fun b hb => hall b (by simp [hb])]
    rfl

theorem allSome_map_of_exists {α β : Type} {l : List α} {h : α → Option β} (hex : ∃ a ∈ l, h a = none) : allSome (l.map h) = none := by
  induction l with
  | nil => simp at hex
  | cons a l ih =>
    rw [List.map_cons]
    cases ha : h a with
    | none => rfl
    | some b =>
      obtain ⟨x, hx, hnone⟩ := hex
      rcases List.mem_cons.mp hx with rfl | hx
      · simp [ha] at hnone
      · rw [allSome, ih ⟨x, hx, hnone⟩]
        rfl

/-- A table whose items from `first` on were replaced by a list. -/
theorem getElem_replaceFrom {α : Type} {n : Nat} (v : Vector α n) (first count : Nat) (g : Nat → α) (i : Nat) (hi : i < n) :
    (replaceFrom v first ((List.range count).map g))[i] = if first ≤ i ∧ i < first + count then g (i - first) else v[i] := by
  rw [replaceFrom, Vector.getElem_ofFn]
  by_cases hle : first ≤ i
  · by_cases hlt : i < first + count
    · rw [if_pos hle, if_pos ⟨hle, hlt⟩, List.getD_eq_getElem _ _ (by simp; omega)]
      simp
    · rw [if_pos hle, if_neg (fun h => hlt h.2), List.getD_eq_default _ _ (by simp; omega)]
  · rw [if_neg hle, if_neg (fun h => hle h.1)]

/-! ### LOAD STATIONS (R58) -/

/-- The i-th entry of a LOAD STATIONS body is in range. -/
def stationFits (b : List Byte) (i : Nat) : Prop :=
  (byteAt b (4 + 3 * i) = 0 ∨ byteAt b (4 + 3 * i) = 1) ∧ (byteAt b (5 + 3 * i)).toNat ≤ 31 ∧ (byteAt b (6 + 3 * i)).toNat ≤ 15

/-- The i-th entry of a LOAD STATIONS body as it is stored. -/
def stationIn (b : List Byte) (i : Nat) : StationEntry :=
  if byteAt b (4 + 3 * i) = 1 then { loaded := true, zone := byteAt b (5 + 3 * i), group := byteAt b (6 + 3 * i) }
  else { loaded := false, zone := 0, group := 0 }

theorem readStation_of_fits {b : List Byte} {i : Nat} (h : stationFits b i) : readStation b (4 + 3 * i) = some (stationIn b i) := by
  obtain ⟨hmark, hzone, hgroup⟩ := h
  rw [show 5 + 3 * i = 4 + 3 * i + 1 by omega] at hzone
  rw [show 6 + 3 * i = 4 + 3 * i + 2 by omega] at hgroup
  rw [readStation, readMark_of_mark hmark, stationIn, show 5 + 3 * i = 4 + 3 * i + 1 by omega,
    show 6 + 3 * i = 4 + 3 * i + 2 by omega]
  simp [hzone, hgroup]

theorem readStation_of_not_fits {b : List Byte} {i : Nat} (h : ¬ stationFits b i) : readStation b (4 + 3 * i) = none := by
  rw [readStation, show 4 + 3 * i + 1 = 5 + 3 * i by omega, show 4 + 3 * i + 2 = 6 + 3 * i by omega]
  by_cases hmark : byteAt b (4 + 3 * i) = 0 ∨ byteAt b (4 + 3 * i) = 1
  · rw [readMark_of_mark hmark]
    exact if_neg fun hrest => h ⟨hmark, hrest⟩
  · rw [readMark_of_not_mark hmark]

/-- Numbers, count and entries of a LOAD STATIONS body are in range. -/
def stationsAccepted (b : List Byte) : Prop :=
  (halfAt b 0).toNat ≤ 1023 ∧ 1 ≤ (halfAt b 2).toNat ∧ (halfAt b 2).toNat ≤ 256 ∧ (halfAt b 0).toNat + (halfAt b 2).toNat ≤ 1024
    ∧ ∀ i < (halfAt b 2).toNat, stationFits b i

theorem readStations_of_accepted {b : List Byte} (h : stationsAccepted b) :
    readStations b = some ((halfAt b 0).toNat, (List.range (halfAt b 2).toNat).map (stationIn b)) := by
  obtain ⟨hfirst, hone, hcount, hsum, hall⟩ := h
  rw [readStations]
  simp only [if_pos (And.intro hfirst (And.intro hone (And.intro hcount hsum))),
    allSome_map_of_forall fun i hi => readStation_of_fits (hall i (List.mem_range.mp hi)), Option.map_some]

theorem readStations_of_refused {b : List Byte} (h : ¬ stationsAccepted b) : readStations b = none := by
  rw [readStations]
  by_cases hnum : (halfAt b 0).toNat ≤ 1023 ∧ 1 ≤ (halfAt b 2).toNat ∧ (halfAt b 2).toNat ≤ 256
      ∧ (halfAt b 0).toNat + (halfAt b 2).toNat ≤ 1024
  · have hex : ∃ i ∈ List.range (halfAt b 2).toNat, readStation b (4 + 3 * i) = none := by
      by_contra hno
      push Not at hno
      refine h ⟨hnum.1, hnum.2.1, hnum.2.2.1, hnum.2.2.2, fun i hi => ?_⟩
      by_contra hbad
      exact hno i (List.mem_range.mpr hi) (readStation_of_not_fits hbad)
    simp only [if_pos hnum, allSome_map_of_exists hex, Option.map_none]
  · simp only [if_neg hnum]

/-! ### LOAD BANDS (R59) -/

theorem readCell_of_le {b : List Byte} {i : Nat} (h : (byteAt b i).toNat ≤ 15) : readCell b i = some (byteAt b i) := if_pos h

/-- The r-th row of a LOAD BANDS body. -/
def bandRow (b : List Byte) (r : Nat) : Vector Byte 32 := Vector.ofFn fun c => byteAt b (2 + 32 * r + c.val)

/-- Count, rows and cells of a LOAD BANDS body are in range. -/
def bandsAccepted (b : List Byte) : Prop :=
  1 ≤ (byteAt b 1).toNat ∧ (byteAt b 1).toNat ≤ 16 ∧ (byteAt b 0).toNat + (byteAt b 1).toNat ≤ 32
    ∧ ∀ i < 32 * (byteAt b 1).toNat, (byteAt b (2 + i)).toNat ≤ 15

/-- A row as LOAD BANDS reads it. -/
def readRow (b : List Byte) (r : Nat) : Option (Vector Byte 32) :=
  (allSome ((List.range 32).map fun c => readCell b (2 + 32 * r + c))).map fun cells =>
    Vector.ofFn fun (c : Fin 32) => cells.getD c.val 15

theorem readRow_of_fits {b : List Byte} {r : Nat} (h : ∀ c < 32, (byteAt b (2 + 32 * r + c)).toNat ≤ 15) :
    readRow b r = some (bandRow b r) := by
  rw [readRow, allSome_map_of_forall fun c hc => readCell_of_le (h c (List.mem_range.mp hc)), Option.map_some, bandRow]
  congr 2
  funext c
  rw [List.getD_eq_getElem _ _ (by simp)]
  simp

theorem readRow_of_not_fits {b : List Byte} {r c : Nat} (hc : c < 32) (h : 15 < (byteAt b (2 + 32 * r + c)).toNat) :
    readRow b r = none := by
  rw [readRow, allSome_map_of_exists ⟨c, List.mem_range.mpr hc, if_neg (by omega)⟩, Option.map_none]

theorem readBands_eq (b : List Byte) :
    readBands b = if 1 ≤ (byteAt b 1).toNat ∧ (byteAt b 1).toNat ≤ 16 ∧ (byteAt b 0).toNat + (byteAt b 1).toNat ≤ 32 then
      (allSome ((List.range (byteAt b 1).toNat).map (readRow b))).map ((byteAt b 0).toNat, ·) else none := rfl

theorem readBands_of_accepted {b : List Byte} (h : bandsAccepted b) :
    readBands b = some ((byteAt b 0).toNat, (List.range (byteAt b 1).toNat).map (bandRow b)) := by
  obtain ⟨hone, hcount, hsum, hall⟩ := h
  rw [readBands_eq, if_pos ⟨hone, hcount, hsum⟩, allSome_map_of_forall fun r hr => readRow_of_fits fun c hc => ?_, Option.map_some]
  have hr := List.mem_range.mp hr
  rw [Nat.add_assoc]
  exact hall _ (by omega)

theorem readBands_of_refused {b : List Byte} (h : ¬ bandsAccepted b) : readBands b = none := by
  rw [readBands_eq]
  split
  · next hnum =>
    have hcell : ∃ i < 32 * (byteAt b 1).toNat, 15 < (byteAt b (2 + i)).toNat := by
      by_contra hno
      push Not at hno
      exact h ⟨hnum.1, hnum.2.1, hnum.2.2, hno⟩
    obtain ⟨i, hi, hbig⟩ := hcell
    have hrow : readRow b (i / 32) = none :=
      readRow_of_not_fits (Nat.mod_lt i (by omega)) (by rwa [Nat.add_assoc, Nat.div_add_mod])
    rw [allSome_map_of_exists ⟨i / 32, List.mem_range.mpr (by omega), hrow⟩, Option.map_none]
  · rfl

/-- A byte sent in two. -/
theorem natHalf_toNat (b : Byte) : natHalf b.toNat = [0, b] := by
  have hb := b.isLt
  rw [natHalf, halfBytes]
  congr 1
  · apply BitVec.eq_of_toNat_eq
    simp only [BitVec.extractLsb'_toNat, BitVec.ofNat_eq_ofNat, BitVec.toNat_ofNat, Nat.shiftRight_eq_div_pow]
    omega
  · congr 1
    apply BitVec.eq_of_toNat_eq
    simp only [BitVec.extractLsb'_toNat, BitVec.toNat_ofNat, Nat.shiftRight_eq_div_pow]
    omega

theorem loadStationsAndBandsReplaceWhatTheyName : Claims.LoadStationsAndBandsReplaceWhatTheyName := by
  refine ⟨?stations, ?bands⟩
  case stations =>
    intro s body hs first count hlen hfit accepted shown
    have hfits : stationsFit body = true := decide_eq_true ⟨hlen, hfit⟩
    refine ⟨fun h => ⟨replaceFrom s.fare.stations first ((List.range count).map (stationIn body)),
      fun n hn => getElem_replaceFrom _ _ _ _ n hn, ?_⟩, fun h => ?_⟩
    · exact whenRunning_takeRequest_of_listening hs hfits (by rw [readStations_of_accepted h]; rfl)
    · exact whenRunning_takeRequest_of_listening hs hfits (by rw [readStations_of_refused h]; rfl)
  case bands =>
    intro s body hs first count hlen hfit accepted
    have hfits : bandsFit body = true := decide_eq_true ⟨hlen, hfit⟩
    have hcount := natHalf_toNat (byteAt body 1)
    refine ⟨fun h => ⟨replaceFrom s.fare.bands first ((List.range count).map (bandRow body)), fun n m hn hm => ?_, ?_⟩, fun h => ?_⟩
    · rw [getElem_replaceFrom]
      split
      · exact Vector.getElem_ofFn ..
      · rfl
    · exact whenRunning_takeRequest_of_listening hs hfits (by rw [readBands_of_accepted h, hcount]; rfl)
    · exact whenRunning_takeRequest_of_listening hs hfits (by simp only [readBands_of_refused h, hcount])

/-! ### Bytes joined and taken apart (R210) -/

theorem extractLsb'_append_high {n m : Nat} (x : BitVec n) (y : BitVec m) : (x ++ y).extractLsb' m n = x := by
  apply BitVec.eq_of_getLsbD_eq
  intro i hi
  simp [BitVec.getLsbD_append, hi]

theorem extractLsb'_append_low {n m : Nat} (x : BitVec n) (y : BitVec m) : (x ++ y).extractLsb' 0 m = y := by
  apply BitVec.eq_of_getLsbD_eq
  intro i hi
  simp [BitVec.getLsbD_append, hi]

theorem halfBytes_append (a b : Byte) : halfBytes (a ++ b) = [a, b] := by
  rw [halfBytes, extractLsb'_append_high, extractLsb'_append_low]

theorem wordBytes_append (a b : Half) : wordBytes (a ++ b) = halfBytes a ++ halfBytes b := by
  rw [wordBytes, extractLsb'_append_high, extractLsb'_append_low]

theorem longBytes_append (a b : Word) : longBytes (a ++ b) = wordBytes a ++ wordBytes b := by
  rw [longBytes, extractLsb'_append_high, extractLsb'_append_low]

/-! ### LOAD CLASSES (R62) -/

/-- The values of the i-th entry of a LOAD CLASSES body as they are stored. -/
def classIn (b : List Byte) (i : Nat) : ClassEntry :=
  { discount := BitVec.ofNat 8 (min 100 (byteAt b (2 + 4 * i)).toNat), cap := halfAt b (3 + 4 * i) }

/-- Count and classes of a LOAD CLASSES body are in range. -/
def classesAccepted (b : List Byte) : Prop :=
  1 ≤ (byteAt b 0).toNat ∧ (byteAt b 0).toNat ≤ 8 ∧ ∀ i < (byteAt b 0).toNat, (byteAt b (1 + 4 * i)).toNat ≤ 7

theorem readClass_of_le {b : List Byte} {i : Nat} (h : (byteAt b (1 + 4 * i)).toNat ≤ 7) :
    readClass b (1 + 4 * i) = some (byteAt b (1 + 4 * i), classIn b i) := by
  rw [readClass, if_pos h, classIn, show 2 + 4 * i = 1 + 4 * i + 1 by omega, show 3 + 4 * i = 1 + 4 * i + 2 by omega]
  rfl

theorem readClasses_of_accepted {b : List Byte} (h : classesAccepted b) :
    readClasses b = some ((List.range (byteAt b 0).toNat).map fun i => (byteAt b (1 + 4 * i), classIn b i)) := by
  obtain ⟨hone, hcount, hall⟩ := h
  rw [readClasses]
  simp only [if_pos (And.intro hone hcount), allSome_map_of_forall fun i hi => readClass_of_le (hall i (List.mem_range.mp hi))]

theorem readClasses_of_refused {b : List Byte} (h : ¬ classesAccepted b) : readClasses b = none := by
  rw [readClasses]
  by_cases hnum : 1 ≤ (byteAt b 0).toNat ∧ (byteAt b 0).toNat ≤ 8
  · have hex : ∃ i ∈ List.range (byteAt b 0).toNat, readClass b (1 + 4 * i) = none := by
      by_contra hno
      push Not at hno
      refine h ⟨hnum.1, hnum.2, fun i hi => ?_⟩
      by_contra hbad
      exact hno i (List.mem_range.mpr hi) (if_neg hbad)
    simp only [if_pos hnum, allSome_map_of_exists hex]
  · simp only [if_neg hnum]

/-- A class has the last values that name it. -/
theorem getElem_applyClasses (v : Vector ClassEntry 8) (g : Nat → Byte × ClassEntry) (l : List Nat) (c : Nat) (hc : c < 8) :
    (applyClasses v (l.map g))[c] = match (l.filter fun i => decide ((g i).1.toNat = c)).getLast? with
      | some i => (g i).2
      | none => v[c] := by
  induction l using List.reverseRecOn with
  | nil => rfl
  | append_singleton l i ih =>
    have hlast : applyClasses v ((l ++ [i]).map g) = (applyClasses v (l.map g)).setIfInBounds (g i).1.toNat (g i).2 := by
      simp [applyClasses]
    rw [hlast, Vector.getElem_setIfInBounds hc, List.filter_append, List.filter_singleton]
    by_cases hi : (g i).1.toNat = c
    · simp [hi]
    · simp [hi, ih]

theorem State.classBytes_of_le (s : State) {c : Byte} (h : c.toNat ≤ 7) :
    s.classBytes c = let e := s.fare.classes.toList.getD c.toNat { discount := 0, cap := 0 }
      [c, e.discount] ++ halfBytes e.cap := by
  have hlt : c.toNat < s.fare.classes.toList.length := by simp; omega
  simp only [State.classBytes, List.getElem?_eq_getElem hlt, List.getD_eq_getElem _ _ hlt]

theorem State.namedClassBytes_of_le (s : State) {l : List Byte} (h : ∀ c ∈ l, c.toNat ≤ 7) :
    s.namedClassBytes l = l.map s.classBytes := by
  induction l with
  | nil => rfl
  | cons c l ih =>
    rw [State.namedClassBytes, if_pos (h c (by simp)), ih fun x hx => h x (by simp [hx]), List.map_cons]

/-- One item for each class, read off the same tables. -/
theorem State.namedClassBytes_items (s : State) (l : List Byte) : (s.namedClassBytes l).length = l.length ∧
    ∀ (i : Nat) (c : Byte), l[i]? = some c → ∃ u : State, u.fare = s.fare ∧ (s.namedClassBytes l)[i]? = some (u.classBytes c) := by
  induction l generalizing s with
  | nil => exact ⟨rfl, by simp⟩
  | cons x xs ih =>
    rw [State.namedClassBytes]
    have hfare : (if x.toNat ≤ 7 then s else s.drew 3).fare = s.fare := by split <;> rfl
    obtain ⟨hlen, hitems⟩ := ih (if x.toNat ≤ 7 then s else s.drew 3)
    refine ⟨congrArg Nat.succ hlen, fun i c hc => ?_⟩
    cases i with
    | zero =>
      obtain rfl : x = c := by simpa using hc
      exact ⟨s, rfl, rfl⟩
    | succ i =>
      obtain ⟨u, hu, hi⟩ := hitems i c (by simpa using hc)
      exact ⟨u, hu.trans hfare, by simpa using hi⟩

/-- A named class of the reply: what is stored, or free values of a class that does not exist. -/
theorem State.classBytes_cases (s : State) (c : Byte) : ∃ (d : Byte) (cap : Half), s.classBytes c = [c, d] ++ halfBytes cap
    ∧ (c.toNat > 7 → d.toNat ≤ 100)
    ∧ ∀ h : c.toNat < 8, d = s.fare.classes[c.toNat].discount ∧ cap = s.fare.classes[c.toNat].cap := by
  by_cases hc : c.toNat < 8
  · refine ⟨s.fare.classes[c.toNat].discount, s.fare.classes[c.toNat].cap, ?_, fun h => by omega, fun _ => ⟨rfl, rfl⟩⟩
    have hget : s.fare.classes.toList[c.toNat]? = some s.fare.classes[c.toNat] := by simp [hc]
    simp only [State.classBytes, hget]
  · refine ⟨s.freeCode 101, Config.freeByte (s.drew 1).freeCount ++ Config.freeByte ((s.drew 1).freeCount + 1), ?_,
      fun _ => ?_, fun h => absurd h hc⟩
    · have hget : s.fare.classes.toList[c.toNat]? = none := by simp; omega
      simp only [State.classBytes, hget, halfBytes_append]
      rfl
    · have := Nat.mod_lt (Config.freeChoice s.freeCount) (by decide : 0 < 101)
      simp only [State.freeCode, BitVec.toNat_ofNat]
      omega

theorem loadClassesKeepsTheLastValues : Claims.LoadClassesKeepsTheLastValues := by
  intro s body hs hlen count hfit accepted
  have hfits : classesFit body = true := decide_eq_true ⟨hlen, hfit⟩
  refine ⟨fun h => ?stored, fun h => ?refused⟩
  case stored =>
    set v := applyClasses s.fare.classes ((List.range count).map fun i => (byteAt body (1 + 4 * i), classIn body i)) with hv
    set u : State := { s with fare := { s.fare with classes := v } } with hu
    refine ⟨v, fun c hc => getElem_applyClasses _ _ _ c hc, ?_⟩
    have hnamed : ∀ c ∈ namedClasses body, c.toNat ≤ 7 := by
      simp only [namedClasses, List.mem_map, List.mem_range]
      rintro _ ⟨i, hi, rfl⟩
      exact h.2.2 i hi
    have hfields : counted (u.hunting.namedClassBytes (namedClasses body))
        = natHalf count ++ (List.range count).flatMap fun i =>
            let e := v.toList.getD (byteAt body (1 + 4 * i)).toNat { discount := 0, cap := 0 }
            [byteAt body (1 + 4 * i), e.discount] ++ halfBytes e.cap := by
      rw [State.namedClassBytes_of_le _ hnamed, counted_map]
      simp only [namedClasses, List.length_map, List.length_range, List.flatMap_map]
      congr 1
      refine List.flatMap_congr fun i hi => ?_
      exact State.classBytes_of_le u.hunting (h.2.2 i (List.mem_range.mp hi))
    rw [← hfields]
    exact whenRunning_takeRequest_of_listening hs hfits (by rw [readClasses_of_accepted h]; rfl)
  case refused =>
    set unknown := (namedClasses body).countP fun c => decide (7 < c.toNat) with hunknown
    obtain ⟨hlength, hitems⟩ := s.hunting.namedClassBytes_items (namedClasses body)
    have hcount : (s.hunting.namedClassBytes (namedClasses body)).length = count := by
      rw [hlength, namedClasses, List.length_map, List.length_range]
    refine ⟨s.hunting.namedClassBytes (namedClasses body), s.freeCount + 3 * unknown, ?_, hcount, fun i hi => ?_⟩
    · refine whenRunning_takeRequest_of_listening (u := s.drew (3 * unknown)) hs hfits ?_
      rw [readClasses_of_refused h, ← hcount]
      rfl
    · obtain ⟨u, hu, hitem⟩ := hitems i (byteAt body (1 + 4 * i)) (by simp [namedClasses, show i < (byteAt body 0).toNat from hi])
      obtain ⟨d, cap, hbytes, hfree, hstored⟩ := u.classBytes_cases (byteAt body (1 + 4 * i))
      rw [hbytes] at hitem
      refine ⟨d, cap, hitem, hfree, fun hc => ?_⟩
      have := hstored hc
      rwa [hu] at this

/-- Settles O12: the items of a body are read one after the other, and a body that is read replaces exactly what it names. -/
theorem tablesTakeWhatTheyAreLoaded : Obligations.TablesTakeWhatTheyAreLoaded :=
  ⟨loadStationsAndBandsReplaceWhatTheyName, loadClassesKeepsTheLastValues⟩

/-! ### LOAD FARES (R61) -/

theorem stepAllowed_iff (b : Byte) : stepAllowed b = true ↔ b.toNat ∈ [1, 5, 10, 20, 50, 100] := by
  simp only [stepAllowed, List.contains_eq_mem, List.mem_cons, List.not_mem_nil, or_false, decide_eq_true_eq, ← BitVec.toNat_inj]
  rfl

/-- Every value of a LOAD FARES body that is not clamped is in range. -/
def faresAccepted (b : List Byte) : Prop :=
  (byteAt b 0).toNat ∈ [1, 5, 10, 20, 50, 100] ∧ (byteAt b 3).toNat ≤ 120
    ∧ (byteAt b 10).toNat ≤ 60 ∧ (halfAt b 11).toNat ≤ 10000 ∧ (halfAt b 13).toNat ≤ 10000
    ∧ ∀ i < 4, (halfAt b (65 + 4 * i)).toNat ≤ 1440 ∧ (halfAt b (67 + 4 * i)).toNat ≤ 1440

/-- The values of a LOAD FARES body as they are stored. -/
def faresIn (b : List Byte) : Fares :=
  { step := byteAt b 0, transferCredit := halfAt b 1, transferWindow := byteAt b 3, incompleteFare := halfAt b 4
    overstayLimit := BitVec.ofNat 16 (clamp 30 600 (halfAt b 6).toNat), overstayCharge := halfAt b 8
    grace := byteAt b 10, floor := halfAt b 11, minEntry := halfAt b 13
    base := Vector.ofFn fun (i : Fin 16) => halfAt b (15 + 2 * i.val)
    minTravel := Vector.ofFn fun (i : Fin 16) => byteAt b (47 + i.val)
    peakPercent := BitVec.ofNat 16 (clamp 100 300 (halfAt b 63).toNat)
    windows := Vector.ofFn fun (i : Fin 4) => (halfAt b (65 + 4 * i.val), halfAt b (67 + 4 * i.val)) }

theorem readFares_of_accepted {b : List Byte} (h : faresAccepted b) : readFares b = some (faresIn b) := by
  simp only [faresAccepted, ← stepAllowed_iff] at h
  unfold readFares
  simp only [List.all_eq_true, List.mem_range, decide_eq_true_eq]
  exact if_pos h

theorem readFares_of_refused {b : List Byte} (h : ¬ faresAccepted b) : readFares b = none := by
  simp only [faresAccepted, ← stepAllowed_iff] at h
  unfold readFares
  simp only [List.all_eq_true, List.mem_range, decide_eq_true_eq]
  exact if_neg h

theorem toNat_ofNat_clamp {low high n : Nat} (h : low ≤ high) (hh : high < 2 ^ 16) :
    (BitVec.ofNat 16 (clamp low high n)).toNat = max low (min high n) := by
  rw [BitVec.toNat_ofNat, clamp]
  omega

theorem Fares.toBytes_eq (f : Fares) :
    f.toBytes = [f.step] ++ halfBytes f.transferCredit ++ [0, f.transferWindow] ++ halfBytes f.incompleteFare
      ++ halfBytes f.overstayLimit ++ halfBytes f.overstayCharge ++ [0, f.grace] ++ halfBytes f.floor ++ halfBytes f.minEntry
      ++ f.base.toList.flatMap halfBytes ++ (f.minTravel.toList.flatMap fun m => [0, m]) ++ halfBytes f.peakPercent
      ++ f.windows.toList.flatMap fun w => halfBytes w.1 ++ halfBytes w.2 := rfl

/-- Settles O11: a body in range is stored whole with its two clamped values, any other leaves every value. -/
theorem loadFaresReplacesEveryValue : Obligations.LoadFaresReplacesEveryValue := by
  intro s body hs hlen accepted shown
  refine ⟨fun h => ⟨faresIn body, ⟨rfl, rfl, rfl, rfl, ?_, rfl, rfl, rfl, rfl, fun i hi => ⟨?_, ?_⟩, ?_, fun i hi => ?_⟩, ?_⟩, fun h => ?_⟩
  · exact toNat_ofNat_clamp (by decide) (by decide)
  · exact Vector.getElem_ofFn ..
  · exact Vector.getElem_ofFn ..
  · exact toNat_ofNat_clamp (by decide) (by decide)
  · exact Vector.getElem_ofFn ..
  · exact whenRunning_request_of_listening hs hlen (by rw [readFares_of_accepted h]; rfl)
  · exact whenRunning_request_of_listening hs hlen (by rw [readFares_of_refused h]; rfl)

/-! ### RELEASE DAYS (R63) -/

theorem exec_releaseDays_of_action {s : State} {body : List Byte} {a : ReleaseAction} (hs : s.listening) (hlen : body.length = 5)
    (ha : decodeIn releaseActionList (byteAt body 0) = some a) :
    let pair := (halfAt body 1, halfAt body 3)
    let r := releaseDays a pair s.fare.released
    let carried := halfBytes pair.1 ++ halfBytes pair.2
    exec (.releaseDays body) s = .next (({ s with fare := { s.fare with released := r.2 } } : State).replying 0x0E r.1
      (byteAt body 0 :: optional 4 (if a = .clear then none else some carried) ++ natHalf r.2.length)) :=
  whenRunning_request_of_listening hs hlen (by rw [ha]; rfl)

/-- Settles O13: the three actions by their cases, and the free value in the reply to a fourth. -/
theorem releaseDaysKeepsTheList : Obligations.ReleaseDaysKeepsTheList := by
  intro s body hs hlen pair old given answers
  have acts {a : ReleaseAction} (ha : decodeIn releaseActionList (byteAt body 0) = some a) (hc : a ≠ .clear) {l r}
      (hr : releaseDays a pair old = (r, l)) : answers l r given := by
    have h := exec_releaseDays_of_action hs hlen ha
    simp only [if_neg hc] at h
    rw [show releaseDays a (halfAt body 1, halfAt body 3) s.fare.released = (r, l) from hr] at h
    exact h
  have add (h0 : byteAt body 0 = 0) {l r} (hr : releaseDays .add pair old = (r, l)) : answers l r given :=
    acts (a := .add) (by rw [h0]; rfl) nofun hr
  have remove (h1 : byteAt body 0 = 1) {l r} (hr : releaseDays .remove pair old = (r, l)) : answers l r given :=
    acts (a := .remove) (by rw [h1]; rfl) nofun hr
  refine ⟨fun h hbig => add h (if_pos hbig), fun h hle hmem => add h ?_, fun h hle hmem hfull => add h ?_,
    fun h hle hmem hroom => add h ?_, fun h hmem => remove h ?_, fun h hmem => remove h ?_, fun h => ?clear, fun h => ?unknown⟩
  · simp [releaseDays, hle, hmem]
  · simp [releaseDays, hle, hmem, releasedSize, hfull]
  · simp [releaseDays, hmem, releasedSize, Nat.not_lt.mpr hle, Nat.not_le.mpr hroom]
  · simp [releaseDays, hmem]
  · simp [releaseDays, hmem]
  case clear =>
    have hclear := exec_releaseDays_of_action (a := .clear) hs hlen (by rw [h]; rfl)
    rw [h] at hclear
    exact hclear
  case unknown =>
    have hnone : decodeIn releaseActionList (byteAt body 0) = none := List.getElem?_eq_none (show 3 ≤ _ from h)
    refine ⟨byteAt body 0 :: optional 4 (if s.freeCode 2 = 1 then some (halfBytes pair.1 ++ halfBytes pair.2) else none),
      s.freeCount + 1, ?_, ?_⟩
    · split
      · exact .inl rfl
      · exact .inr rfl
    · exact whenRunning_request_of_listening (u := s.drew 1) hs hlen (by rw [hnone]; rfl)

end Sys2Proof.Machine
end

section
/-! SUPPORT. The card check unit's and the watch unit's requests (1.6, 5.3, 5.4, 4.3, 6.2 and 6.6): key slots, policies, the hotlist, pushed
sightings, watches and their status. -/

namespace Sys2Proof.Machine

-- One declaration at a time: each waiting elaboration thread counts against the memory limit of the one text.
set_option Elab.async false

/-! ### Codes (Table 26) -/

theorem natByte_toNat (b : Byte) : natByte b.toNat = b := by rw [natByte, BitVec.ofNat_toNat, BitVec.setWidth_eq]

/-- A code that was read is sent as it came. -/
theorem codeIn_of_decodeIn {α : Type} [DecidableEq α] {l : List α} {b : Byte} {x : α} (hl : l.Nodup) (h : decodeIn l b = some x) :
    codeIn l x = b := by
  obtain ⟨hlt, rfl⟩ := List.getElem?_eq_some_iff.mp h
  rw [codeIn, hl.idxOf_getElem, natByte_toNat]

theorem decodeIn_eq_none_iff {α : Type} (l : List α) (b : Byte) : decodeIn l b = none ↔ l.length ≤ b.toNat :=
  List.getElem?_eq_none_iff

/-- A byte below the number of codes has a reading. -/
theorem decodeIn_of_lt {α : Type} {l : List α} {b : Byte} (h : b.toNat < l.length) : ∃ x, decodeIn l b = some x :=
  ⟨_, List.getElem?_eq_getElem h⟩

/-- A free code is one of the codes. -/
theorem State.freeCode_lt (s : State) {k : Nat} (hk : 0 < k) : ∃ i < k, s.freeCode k = BitVec.ofNat 8 i :=
  ⟨_, Nat.mod_lt _ hk, rfl⟩

/-! ### LOAD KEY (R17) -/

theorem State.keyFields_of_lt (s : State) {g : Byte} (h : g.toNat < 16) :
    s.keyFields g = [g, codeIn keyStateList s.check.keys[g.toNat].state] := by
  have hget : s.check.keys.toList[g.toNat]? = some s.check.keys[g.toNat] := by simp [h]
  simp only [State.keyFields, hget]

/-- The part with a key slot stored. -/
def State.withKey (s : State) (g : Byte) (slot : KeySlot) : State :=
  { s with check := { s.check with keys := s.check.keys.setIfInBounds g.toNat slot } }

theorem exec_loadKey_of_state {s : State} {body : List Byte} {k : KeyState} (hs : s.listening) (hlen : body.length = 6)
    (hg : (byteAt body 0).toNat ≤ 15) (hk : decodeIn keyStateList (byteAt body 1) = some k) :
    exec (.loadKey body) s = .next ((s.withKey (byteAt body 0) (keySlot k (wordAt body 2))).replying 0x08 .done
      [byteAt body 0, codeIn keyStateList k]) := by
  have hfields : (s.withKey (byteAt body 0) (keySlot k (wordAt body 2))).hunting.keyFields (byteAt body 0)
      = [byteAt body 0, codeIn keyStateList k] := by
    rw [State.keyFields_of_lt _ (by omega)]
    simp only [State.withKey, State.hunting, State.setLink_check, Vector.getElem_setIfInBounds_self]
    rfl
  rw [← hfields]
  exact whenRunning_request_of_listening hs hlen (by simp only [if_neg (Nat.not_lt.mpr hg), hk]; rfl)

theorem loadKeyStoresOneSlot : Claims.LoadKeyStoresOneSlot := by
  intro s body hs hlen g stored
  refine ⟨fun hg h => ?_, fun hg h => ?_, fun hg h => ?_, fun hg h => ?_, fun hg => ?_⟩
  · exact exec_loadKey_of_state (k := .empty) hs hlen hg (by rw [h]; rfl)
  · exact exec_loadKey_of_state (k := .active) hs hlen hg (by rw [h]; rfl)
  · exact exec_loadKey_of_state (k := .retired) hs hlen hg (by rw [h]; rfl)
  · have hnone : decodeIn keyStateList (byteAt body 1) = none := (decodeIn_eq_none_iff _ _).mpr h
    rw [← State.keyFields_of_lt s hg]
    exact whenRunning_request_of_listening hs hlen (by simp only [if_neg (show ¬ 15 < (byteAt body 0).toNat by omega), hnone]; rfl)
  · obtain ⟨k, hk, hfree⟩ := s.freeCode_lt (k := 3) (by decide)
    refine ⟨k, hk, ?_⟩
    have hfields : s.keyFields (byteAt body 0) = [byteAt body 0, BitVec.ofNat 8 k] := by
      have hget : s.check.keys.toList[(byteAt body 0).toNat]? = none := by simp; omega
      simp only [State.keyFields, hget, ← hfree]
      rfl
    rw [← hfields]
    exact whenRunning_request_of_listening (u := s.drew 1) hs hlen (if_pos hg)

/-! ### SET POLICY (R112) -/

theorem policyAccepted_iff (k : EvidenceKind) (p : Policy) :
    policyAccepted k p = true ↔ ((k = .blocked ∨ k = .forged) → p = .refuse) := by
  cases k <;> cases p <;> decide

theorem Policies.get_set (p : Policies) (k j : EvidenceKind) (x : Policy) : (p.set k x).get j = if j = k then x else p.get j := by
  cases k <;> cases j <;> rfl

theorem setPolicyStoresWhatItAccepts : Claims.SetPolicyStoresWhatItAccepts := by
  refine ⟨fun s body hs hlen => ⟨fun k p hk hp hok => ?stored, fun k hk hbad => ?refused, fun hnone => ?unknown⟩, rfl⟩
  case stored =>
    have hread : readPolicy body = some (k, p) := by
      simp only [readPolicy, hk, hp, (policyAccepted_iff k p).mpr hok, if_true]
    refine ⟨s.check.policies.set k p, fun j => Policies.get_set _ _ _ _, ?_⟩
    rw [← codeIn_of_decodeIn (by decide) hk, ← codeIn_of_decodeIn (by decide) hp]
    exact whenRunning_request_of_listening hs hlen (by simp only [hread]; rfl)
  case refused =>
    have hread : readPolicy body = none := by
      rw [readPolicy, hk]
      cases hp : decodeIn policyList (byteAt body 1) with
      | none => rfl
      | some p =>
        obtain ⟨hfixed, hne⟩ := hbad p hp
        exact if_neg fun hok => hne ((policyAccepted_iff k p).mp hok hfixed)
    rw [← codeIn_of_decodeIn (by decide) hk]
    exact whenRunning_request_of_listening hs hlen (by simp only [hread, hk]; rfl)
  case unknown =>
    have hread : readPolicy body = none := by rw [readPolicy, hnone]
    obtain ⟨k, hk, hfree⟩ := s.freeCode_lt (k := 3) (by decide)
    refine ⟨k, hk, ?_⟩
    rw [← hfree]
    exact whenRunning_request_of_listening (u := s.drew 1) hs hlen (by simp only [hread, hnone]; rfl)

/-- Settles O14: each request by what its codes read as. -/
theorem keysAndPoliciesAreStored : Obligations.KeysAndPoliciesAreStored := ⟨loadKeyStoresOneSlot, setPolicyStoresWhatItAccepts⟩

/-! ### The hotlist (R115 to R118, R120) -/

theorem eq_of_number {l : List HotEntry} (h : l.Pairwise fun a b => a.number.toNat < b.number.toNat) {a b : HotEntry} (ha : a ∈ l)
    (hb : b ∈ l) (hn : a.number = b.number) : a = b := by
  have hnodup : (l.map (·.number)).Nodup := by
    rw [List.Nodup, List.pairwise_map]
    exact h.imp fun hlt heq => by simp [heq] at hlt
  exact List.inj_on_of_nodup_map hnodup ha hb hn

theorem Hotlist.find_of_mem {h : Hotlist} (hord : h.entries.Pairwise fun a b => a.number.toNat < b.number.toNat) {e : HotEntry}
    (he : e ∈ h.entries) : h.find e.number = some e := by
  cases hf : h.find e.number with
  | none =>
    have hne : e.number ≠ e.number := by simpa using List.find?_eq_none.mp hf e he
    exact absurd rfl hne
  | some x =>
    have hx := List.mem_of_find?_eq_some hf
    have hn : x.number = e.number := by simpa using List.find?_some hf
    rw [eq_of_number hord hx he hn]

theorem Hotlist.mem_makeHost_self {h : Hotlist} {e : HotEntry} (he : e ∈ h.entries) :
    { number := e.number, origin := .host, ownBlock := false } ∈ (h.makeHost e.number).entries :=
  List.mem_map.mpr ⟨e, he, if_pos rfl⟩

theorem Hotlist.find_of_not_mem {h : Hotlist} {n : CardNumber} (hn : ∀ e ∈ h.entries, e.number ≠ n) : h.find n = none :=
  List.find?_eq_none.mpr fun e he => by simpa using hn e he

theorem Hotlist.mem_makeHost_of_ne {h : Hotlist} {n : CardNumber} {e : HotEntry} (hne : e.number ≠ n) :
    e ∈ (h.makeHost n).entries ↔ e ∈ h.entries := by
  simp only [Hotlist.makeHost, List.mem_map]
  constructor
  · rintro ⟨x, hx, rfl⟩
    split at hne
    · exact absurd ‹_› hne
    · rwa [if_neg hne]
  · exact fun he => ⟨e, he, if_neg hne⟩

theorem Hotlist.makeHost_numbers (h : Hotlist) (n : CardNumber) :
    (h.makeHost n).entries.map (·.number) = h.entries.map (·.number) := by
  simp only [Hotlist.makeHost, List.map_map]
  refine List.map_congr_left fun e _ => ?_
  simp only [Function.comp]
  split <;> rfl

theorem Hotlist.mem_addHost {h : Hotlist} {n : CardNumber} {e : HotEntry} :
    e ∈ (h.addHost n).entries ↔ e = { number := n, origin := .host, ownBlock := false } ∨ e ∈ h.entries := mem_insertHot _ _ _

theorem exec_hotlistAdd_of_listening {s : State} {body : List Byte} (hs : s.listening) (hlen : body.length = 8) :
    let r := hotlistAdd s.hotlist (longAt body 0)
    exec (.hotlistAdd body) s = .next (({ s with hotlist := r.2 } : State).replying 0x0F r.1
      (longBytes (longAt body 0) ++ r.2.originField (longAt body 0) ++ r.2.counts)) :=
  whenRunning_request_of_listening hs hlen rfl

theorem Hotlist.originField_of_host {h : Hotlist} {e : HotEntry}
    (hord : h.entries.Pairwise fun a b => a.number.toNat < b.number.toNat) (he : e ∈ h.entries) (ho : e.origin = .host) :
    h.originField e.number = [1, 0] := by
  rw [Hotlist.originField, Hotlist.find_of_mem hord he, Option.map_some, ho]
  rfl

theorem pairwise_of_numbers_eq {l m : List HotEntry} (h : l.map (·.number) = m.map (·.number))
    (hm : m.Pairwise fun a b => a.number.toNat < b.number.toNat) : l.Pairwise fun a b => a.number.toNat < b.number.toNat := by
  have hl : (l.map (·.number)).Pairwise fun a b => a.toNat < b.toNat := by
    rw [h, List.pairwise_map]
    exact hm
  exact List.pairwise_map (f := fun e : HotEntry => e.number) |>.mp hl

theorem hotlistAddAndRemoveChangeOneNumber : Claims.HotlistAddAndRemoveChangeOneNumber := by
  rintro s body hs hlen ⟨hsize, hord⟩ n counts added others
  have adds {r : Result} {h : Hotlist} {o : List Byte} (hr : hotlistAdd s.hotlist n = (r, h)) (ho : h.originField n = o) :
      exec (.hotlistAdd body) s
        = .next (({ s with hotlist := h } : State).replying 0x0F r (longBytes n ++ o ++ counts h)) := by
    have he := exec_hotlistAdd_of_listening hs hlen
    rw [show hotlistAdd s.hotlist (longAt body 0) = (r, h) from hr] at he
    rw [← ho]
    exact he
  refine ⟨?host, ?localNumber, fun hnone hroom => ?joins, fun hnone hfull => ?full, ?removed, fun hnone => ?absent⟩
  case host =>
    rintro ⟨e, he, hn, ho⟩
    refine adds ?_ (hn ▸ Hotlist.originField_of_host hord he ho)
    rw [hotlistAdd, ← hn, Hotlist.find_of_mem hord he]
    simp only [ho, if_true]
  case localNumber =>
    rintro ⟨e, he, hn, ho⟩
    have hmem := hn ▸ Hotlist.mem_makeHost_self he
    have hnumbers := s.hotlist.makeHost_numbers n
    refine ⟨s.hotlist.makeHost n, adds ?_ (Hotlist.originField_of_host (pairwise_of_numbers_eq hnumbers hord) hmem rfl),
      fun m hm x hx => Hotlist.mem_makeHost_of_ne (hx ▸ hm), hmem, hnumbers, rfl⟩
    rw [hotlistAdd, ← hn, Hotlist.find_of_mem hord he]
    simp [ho]
  case joins =>
    have hmem : { number := n, origin := .host, ownBlock := false } ∈ (s.hotlist.addHost n).entries := Hotlist.mem_addHost.mpr (.inl rfl)
    have hsorted : (s.hotlist.addHost n).entries.Pairwise fun a b => a.number.toNat < b.number.toNat :=
      insertHot_pairwise hord hnone
    refine ⟨s.hotlist.addHost n, adds ?_ (Hotlist.originField_of_host hsorted hmem rfl), fun m hm x hx => ?_, hmem,
      length_insertHot _ _, hsorted, rfl⟩
    · rw [hotlistAdd, Hotlist.find_of_not_mem hnone]
      exact if_pos hroom
    · rw [Hotlist.mem_addHost, or_iff_right]
      rintro rfl
      exact hm hx.symm
  case full =>
    refine adds (h := s.hotlist) ?_ ?_
    · rw [hotlistAdd, Hotlist.find_of_not_mem hnone]
      exact if_neg (by simpa [hotlistSize] using hfull)
    · rw [Hotlist.originField, Hotlist.find_of_not_mem hnone]
      rfl
  case removed =>
    intro hex
    refine ⟨s.hotlist.remove n, fun m hm x hx => ?_, fun e he => ?_, rfl, hord.sublist List.filter_sublist, ?_⟩
    · rw [Hotlist.remove, List.mem_filter, decide_eq_true_eq, and_iff_left]
      exact hx ▸ hm
    · exact of_decide_eq_true (List.mem_filter.mp he).2
    · exact whenRunning_request_of_listening hs hlen (if_pos ((Hotlist.listed_iff _ _).mpr hex))
  case absent =>
    refine whenRunning_request_of_listening hs hlen (if_neg ?_)
    rw [Hotlist.listed_iff]
    rintro ⟨e, he, hn⟩
    exact hnone e he hn

theorem State.rangeFields_of_lt (s : State) {slot : Byte} (h : slot.toNat < 8) :
    s.rangeFields slot = slot :: longBytes s.check.ranges[slot.toNat].low ++ longBytes s.check.ranges[slot.toNat].high
      ++ [markByte s.check.ranges[slot.toNat].enabled] := by
  have hget : s.check.ranges.toList[slot.toNat]? = some s.check.ranges[slot.toNat] := by simp [h]
  simp only [State.rangeFields, hget]

/-- The number that eight bytes are. -/
def longOfBytes (a b c d e f g h : Byte) : BitVec 64 :=
  ((a ++ b : Half) ++ (c ++ d : Half) : Word) ++ ((e ++ f : Half) ++ (g ++ h : Half) : Word)

theorem longBytes_longOfBytes (a b c d e f g h : Byte) : longBytes (longOfBytes a b c d e f g h) = [a, b, c, d, e, f, g, h] := by
  rw [longOfBytes, longBytes_append, wordBytes_append, wordBytes_append, halfBytes_append, halfBytes_append, halfBytes_append,
    halfBytes_append]
  rfl

/-- Sixteen free bytes are two numbers. -/
theorem State.freeBytes_sixteen (s : State) : ∃ low high : BitVec 64, s.freeBytes 16 = longBytes low ++ longBytes high := by
  let b (i : Nat) : Byte := Config.freeByte (s.freeCount + i)
  refine ⟨longOfBytes (b 0) (b 1) (b 2) (b 3) (b 4) (b 5) (b 6) (b 7),
    longOfBytes (b 8) (b 9) (b 10) (b 11) (b 12) (b 13) (b 14) (b 15), ?_⟩
  rw [longBytes_longOfBytes, longBytes_longOfBytes]
  rfl

/-- A free mark is a mark. -/
theorem State.freeCode_mark (s : State) : ∃ b : Bool, s.freeCode 2 = markByte b := by
  obtain ⟨i, hi, hfree⟩ := s.freeCode_lt (k := 2) (by decide)
  interval_cases i
  · exact ⟨false, hfree⟩
  · exact ⟨true, hfree⟩

theorem HotRange.covers_iff (r : HotRange) (n : CardNumber) : r.covers n = true ↔ r.low.toNat ≤ n.toNat ∧ n.toNat ≤ r.high.toNat :=
  decide_eq_true_iff

theorem State.hotlisted_iff (s : State) (n : CardNumber) : s.hotlisted n = true ↔
    (∃ e ∈ s.hotlist.entries, e.number = n) ∨ ∃ r ∈ s.check.ranges.toList, r.low.toNat ≤ n.toNat ∧ n.toNat ≤ r.high.toNat := by
  simp only [State.hotlisted, Bool.or_eq_true, Hotlist.listed_iff, List.any_eq_true, HotRange.covers_iff]

/-- The slots whose range covers a number. -/
theorem State.coveringSlots_eq (s : State) (n : CardNumber) : s.coveringSlots n = (List.range 8).filter fun i =>
    match s.check.ranges.toList[i]? with
    | some r => decide (r.low.toNat ≤ n.toNat ∧ n.toNat ≤ r.high.toNat)
    | none => false := by
  refine List.filter_congr fun i hi => ?_
  have hlt : i < s.check.ranges.toList.length := by simpa using hi
  rw [List.getElem?_eq_getElem hlt, List.getD_eq_getElem _ _ hlt]
  rfl

theorem hotlistRangesAndQuery : Claims.HotlistRangesAndQuery := by
  refine ⟨fun s body hs hlen => ⟨fun hslot => ?stored, fun hslot => ?unknown⟩, State.hotlisted_iff, fun s body hs hlen => ?query⟩
  case stored =>
    set u : State := { s with check := { s.check with
      ranges := s.check.ranges.setIfInBounds (byteAt body 0).toNat { low := longAt body 1, high := longAt body 9 } } } with hu
    have hfields : u.rangeFields (byteAt body 0) = byteAt body 0 :: longBytes (longAt body 1) ++ longBytes (longAt body 9)
        ++ [markByte (decide ((longAt body 1).toNat ≤ (longAt body 9).toNat))] := by
      rw [State.rangeFields_of_lt _ (by omega)]
      simp only [hu, Vector.getElem_setIfInBounds_self]
      rfl
    rw [← hfields]
    exact whenRunning_request_of_listening hs hlen (if_neg (Nat.not_lt.mpr hslot))
  case unknown =>
    obtain ⟨low, high, hnumbers⟩ := s.freeBytes_sixteen
    obtain ⟨b, hmark⟩ := (s.drew 16).freeCode_mark
    refine ⟨low, high, b, ?_⟩
    have hfields : s.hunting.rangeFields (byteAt body 0) = byteAt body 0 :: longBytes low ++ longBytes high ++ [markByte b] := by
      have hget : s.hunting.check.ranges.toList[(byteAt body 0).toNat]? = none := by simp; omega
      rw [List.cons_append, ← hnumbers, ← hmark]
      simp only [State.rangeFields, hget]
      rfl
    rw [← hfields]
    exact whenRunning_request_of_listening (u := s.drew 17) hs hlen (if_pos hslot)
  case query =>
    refine (whenRunning_request_of_listening (fields := s.hotlistFields (longAt body 0)) hs hlen rfl).trans ?_
    rw [State.hotlistFields, counted_map, State.coveringSlots_eq, Hotlist.counts, Hotlist.find]
    have hpresent : optional 2 ((s.hotlist.entries.find? fun e => decide (e.number = longAt body 0)).map
          fun e => [codeIn hotOriginList e.origin, markByte e.ownBlock])
        = match s.hotlist.entries.find? fun e => decide (e.number = longAt body 0) with
          | some e => [1, codeIn hotOriginList e.origin, markByte e.ownBlock]
          | none => [0, 0, 0] := by
      cases s.hotlist.entries.find? fun e => decide (e.number = longAt body 0) <;> rfl
    rw [hpresent]
    simp only [List.append_assoc, ← List.map_eq_flatMap]
    rfl

/-- Settles O15. -/
theorem hotlistRequestsAndLookups : Obligations.HotlistRequestsAndLookups :=
  ⟨hotlistAddAndRemoveChangeOneNumber, hotlistRangesAndQuery⟩

end Sys2Proof.Machine
end

section
/-! SUPPORT. PUSH SIGHTING, the watch unit's requests and the journal's (sections 4.3, 6.2, 6.6 and 9.4), with what a sightings entry is
found or made as. -/

namespace Sys2Proof.Machine

-- One declaration at a time: each waiting elaboration thread counts against the memory limit of the one text.
set_option Elab.async false

/-! ### An entry found, or made (R83, R84) -/

theorem findSighting_of_mem {l : List SightingEntry} (h : (l.map (·.number)).Nodup) {e : SightingEntry} (he : e ∈ l) :
    findSighting l e.number = some e := by
  cases hf : findSighting l e.number with
  | none => exact absurd rfl (findSighting_eq_none hf e he)
  | some x => rw [List.inj_on_of_nodup_map h (mem_of_findSighting hf) he (findSighting_number hf)]

theorem findSighting_of_absent {l : List SightingEntry} {n : CardNumber} (h : ∀ e ∈ l, e.number ≠ n) : findSighting l n = none :=
  List.find?_eq_none.mpr fun e he => by simpa using h e he

theorem findOrCreate_of_mem {l : List SightingEntry} (h : (l.map (·.number)).Nodup) {e : SightingEntry} (he : e ∈ l) :
    findOrCreate l e.number = some (e, l) := by
  rw [findOrCreate, findSighting_of_mem h he]

theorem findOrCreate_of_absent {l : List SightingEntry} {n : CardNumber} (h : ∀ e ∈ l, e.number ≠ n) :
    findOrCreate l n = (sightingRoom l).map fun room => (SightingEntry.fresh n, room) := by
  rw [findOrCreate, findSighting_of_absent h]

theorem sightingRoom_of_lt {l : List SightingEntry} (h : l.length < 256) : sightingRoom l = some l := if_pos h

theorem sightingRoom_of_held {l : List SightingEntry} (hlen : 256 ≤ l.length) (h : ∀ e ∈ l, e.hold ≠ .noHold) :
    sightingRoom l = none := by
  have hnone : l.find? (fun e => decide (e.hold = .noHold)) = none := List.find?_eq_none.mpr fun e he => by simpa using h e he
  rw [sightingRoom, if_neg (by simpa [sightingsSize] using hlen), hnone]

/-- A full table gives up its first entry without a hold. -/
theorem sightingRoom_of_victim {before after : List SightingEntry} {v : SightingEntry} (hlen : 256 ≤ (before ++ v :: after).length)
    (hnodup : ((before ++ v :: after).map (·.number)).Nodup) (hv : v.hold = .noHold) (hbefore : ∀ e ∈ before, e.hold ≠ .noHold) :
    sightingRoom (before ++ v :: after) = some (before ++ after) := by
  have hfind : (before ++ v :: after).find? (fun e => decide (e.hold = .noHold)) = some v := by
    rw [List.find?_append, List.find?_eq_none.mpr fun e he => by simpa using hbefore e he]
    simp [hv]
  rw [List.map_append, List.map_cons, List.nodup_append] at hnodup
  obtain ⟨-, hafter, hdisjoint⟩ := hnodup
  have hb : before.filter (fun x => decide (x.number ≠ v.number)) = before :=
    List.filter_eq_self.mpr fun x hx => decide_eq_true (hdisjoint _ (List.mem_map_of_mem hx) _ (by simp))
  have ha : after.filter (fun x => decide (x.number ≠ v.number)) = after :=
    List.filter_eq_self.mpr fun x hx =>
      decide_eq_true fun heq => (List.nodup_cons.mp hafter).1 (List.mem_map.mpr ⟨x, hx, heq⟩)
  rw [sightingRoom, if_neg (by simpa [sightingsSize] using hlen), hfind]
  change some ((before ++ v :: after).filter fun x => decide (x.number ≠ v.number)) = _
  rw [List.filter_append, hb, List.filter_cons_of_neg (by simp), ha]

theorem touchSighting_of_absent {l : List SightingEntry} {e : SightingEntry} (h : ∀ x ∈ l, x.number ≠ e.number) :
    touchSighting l e = l ++ [e] := by
  rw [touchSighting, List.filter_eq_self.mpr fun x hx => decide_eq_true (h x hx)]

/-! ### PUSH SIGHTING (R91) -/

/-- The sighting that a PUSH SIGHTING body carries. -/
def pushedSighting (b : List Byte) : Sighting :=
  { counter := halfAt b 8, chain := wordAt b 10, station := halfAt b 14, gate := none, day := halfAt b 16
    minute := halfAt b 18, direction := if byteAt b 20 = 0 then .entry else .exit, source := .remote }

/-- Station, minute and direction of a PUSH SIGHTING body are in range. -/
def pushAccepted (b : List Byte) : Prop :=
  (halfAt b 14).toNat ≤ 1023 ∧ (halfAt b 18).toNat ≤ 1439 ∧ (byteAt b 20).toNat ≤ 1

theorem byte_le_one {b : Byte} (h : b.toNat ≤ 1) : b = 0 ∨ b = 1 := by bv_omega

theorem readPush_of_accepted {b : List Byte} (h : pushAccepted b) :
    readPush b = some { number := longAt b 0, sighting := pushedSighting b } := by
  obtain ⟨hstation, hminute, hdirection⟩ := h
  rw [readPush, pushedSighting]
  rcases byte_le_one hdirection with h0 | h1
  · rw [h0]
    exact if_pos ⟨hstation, hminute⟩
  · rw [h1]
    exact if_pos ⟨hstation, hminute⟩

theorem readPush_of_refused {b : List Byte} (h : ¬ pushAccepted b) : readPush b = none := by
  rw [readPush]
  cases hd : decodeIn directionList (byteAt b 20) with
  | none => rfl
  | some d =>
    have hlt : (byteAt b 20).toNat < 2 := (List.getElem?_eq_some_iff.mp hd).1
    exact if_neg fun hok => h ⟨hok.1, hok.2, by omega⟩

theorem takesPush_iff (e : SightingEntry) (x : Sighting) :
    e.takesPush x = true ↔ ∀ old, e.sighting = some old → old.counter.toNat < x.counter.toNat := by
  rw [SightingEntry.takesPush]
  cases e.sighting <;> simp

theorem exec_pushSighting_of_taken {s : State} {body : List Byte} (hs : s.listening) (hlen : body.length = 21) (hok : pushAccepted body)
    {e : SightingEntry} {l : List SightingEntry} (hfound : findOrCreate s.sightings (longAt body 0) = some (e, l))
    (htakes : e.takesPush (pushedSighting body) = true) :
    exec (.pushSighting body) s
      = .next (({ s with sightings := touchSighting l { e with sighting := some (pushedSighting body) } } : State).replying 0x13 .done
        (0 :: (pushedSighting body).toBytes)) := by
  refine whenRunning_request_of_listening hs hlen ?_
  have hfound : findOrCreate s.hunting.sightings (longAt body 0) = some (e, l) := hfound
  simp only [readPush_of_accepted hok, hfound, if_pos htakes]
  rfl

/-- Settles O16: an entry is found or made, and takes the push by its counter. -/
theorem pushSightingRecordsTheNewer : Obligations.PushSightingRecordsTheNewer := by
  rintro s body hs hlen ⟨hsize, hnodup⟩ n accepted x shown replaced
  have fresh {l : List SightingEntry} (hok : accepted) (hroom : sightingRoom s.sightings = some l)
      (habsent : ∀ e ∈ s.sightings, e.number ≠ n) (hl : ∀ e ∈ l, e ∈ s.sightings) :
      replaced (l ++ [{ number := n, sighting := some x, hold := .noHold, displaced := none, contestNote := none }]) := by
    have htouch := touchSighting_of_absent (l := l) (e := { SightingEntry.fresh n with sighting := some x })
      fun y hy => habsent y (hl y hy)
    have htaken := exec_pushSighting_of_taken (e := SightingEntry.fresh n) (l := l) hs hlen hok
      (by rw [findOrCreate_of_absent habsent, hroom]; rfl) rfl
    exact (htouch ▸ htaken :)
  refine ⟨fun hbad => ?refused, fun hok e he hn => ⟨fun hnewer => ?newer, fun old hold hle => ?older⟩, fun hok habsent hroom => ?joins,
    fun hok habsent hfull hheld => ?full, fun hok habsent hfull before v after hsplit hv hbefore => ?victim⟩
  case refused => exact whenRunning_request_of_listening hs hlen (by rw [readPush_of_refused hbad])
  case newer =>
    have hfound : findOrCreate s.sightings n = some (e, s.sightings) := by rw [← hn]; exact findOrCreate_of_mem hnodup he
    rw [← hn]
    exact exec_pushSighting_of_taken hs hlen hok hfound ((takesPush_iff _ _).mpr hnewer)
  case older =>
    have hfound : findOrCreate s.sightings n = some (e, s.sightings) := by rw [← hn]; exact findOrCreate_of_mem hnodup he
    have hfound : findOrCreate s.hunting.sightings (longAt body 0) = some (e, s.sightings) := hfound
    have hno : ¬ e.takesPush (pushedSighting body) = true := fun htakes =>
      absurd ((takesPush_iff _ _).mp htakes old hold) (Nat.not_lt.mpr hle)
    refine whenRunning_request_of_listening hs hlen ?_
    simp only [readPush_of_accepted hok, hfound, if_neg hno, hold]
    rfl
  case joins => exact fresh hok (sightingRoom_of_lt hroom) habsent fun _ => id
  case full =>
    have hfound : findOrCreate s.hunting.sightings (longAt body 0) = none :=
      (findOrCreate_of_absent habsent).trans (by rw [sightingRoom_of_held hfull.ge hheld]; rfl)
    exact whenRunning_request_of_listening hs hlen (by simp only [readPush_of_accepted hok, hfound])
  case victim =>
    have hroom : sightingRoom s.sightings = some (before ++ after) := by
      rw [hsplit] at hfull hnodup ⊢
      exact sightingRoom_of_victim hfull.ge hnodup hv hbefore
    refine fresh hok hroom habsent fun e he => ?_
    rw [hsplit]
    rcases List.mem_append.mp he with h | h <;> simp [h]

/-! ### SET WATCH (R128, R129) -/

/-- Field, sense, kind filter and group of a SET WATCH body are in range. -/
def watchUnitOk (b : List Byte) : Prop :=
  (byteAt b 1).toNat ≤ 5 ∧ (byteAt b 18).toNat ≤ 1 ∧ (byteAt b 19).toNat ≤ 2 ∧ (byteAt b 20).toNat ≤ 3

theorem readWatchUnit_of_ok {b : List Byte} (h : watchUnitOk b) : ∃ w, readWatchUnit b = some w
    ∧ decodeIn watchFieldList (byteAt b 1) = some w.field ∧ w.low = longAt b 2 ∧ w.high = longAt b 10
    ∧ decodeIn senseList (byteAt b 18) = some w.sense ∧ decodeIn kindFilterList (byteAt b 19) = some w.kind
    ∧ w.group = byteAt b 20 := by
  obtain ⟨hfield, hsense, hkind, hgroup⟩ := h
  obtain ⟨field, hfield⟩ := decodeIn_of_lt (l := watchFieldList) (b := byteAt b 1) (show _ < 6 by omega)
  obtain ⟨sense, hsense⟩ := decodeIn_of_lt (l := senseList) (b := byteAt b 18) (show _ < 2 by omega)
  obtain ⟨kind, hkind⟩ := decodeIn_of_lt (l := kindFilterList) (b := byteAt b 19) (show _ < 3 by omega)
  refine ⟨{ field := field, low := longAt b 2, high := longAt b 10, sense := sense, kind := kind, group := byteAt b 20 }, ?_,
    hfield, rfl, rfl, hsense, hkind, rfl⟩
  simp only [readWatchUnit, hfield, hsense, hkind, if_pos hgroup]

theorem readWatchUnit_of_not_ok {b : List Byte} (h : ¬ watchUnitOk b) : readWatchUnit b = none := by
  rw [readWatchUnit]
  split
  · next hfield hsense hkind =>
    have hfield : (byteAt b 1).toNat < 6 := (List.getElem?_eq_some_iff.mp hfield).1
    have hsense : (byteAt b 18).toNat < 2 := (List.getElem?_eq_some_iff.mp hsense).1
    have hkind : (byteAt b 19).toNat < 3 := (List.getElem?_eq_some_iff.mp hkind).1
    exact if_neg fun hgroup => h ⟨by omega, by omega, by omega, hgroup⟩
  · rfl

theorem State.watchUnitFields_of_lt (s : State) {target : Byte} (h : target.toNat < 8) :
    s.watchUnitFields target = target :: s.watch.units[target.toNat].toBytes := by
  have hget : s.watch.units.toList[target.toNat]? = some s.watch.units[target.toNat] := by simp [h]
  simp only [State.watchUnitFields, hget]

theorem target_ne_common {b : List Byte} (h : (byteAt b 0).toNat < 255) : byteAt b 0 ≠ commonTarget := by
  intro heq
  rw [heq] at h
  exact absurd h (by decide)

theorem State.program_of_unit {t : State} {b : List Byte} (h : (byteAt b 0).toNat < 255) : t.program b = t.programUnit b :=
  if_neg (target_ne_common h)

theorem exec_setWatchUnit_of_listening {s u : State} {body : List Byte} {r : Result} {fields : List Byte} (hs : s.listening)
    (hlen : body.length = 25) (h : (byteAt body 0).toNat < 255)
    (hans : s.hunting.programUnit body = { result := r, fields := fields, after := u.hunting }) :
    exec (.setWatchUnit body) s = .next (u.replying 0x14 r fields) :=
  whenRunning_request_of_listening hs hlen ((State.program_of_unit h).trans hans)

/-- A free code of an enumeration is the code of one of its values. -/
theorem State.freeCode_codeIn (s : State) {α : Type} [DecidableEq α] {l : List α} (hl : l.Nodup) (hne : 0 < l.length) :
    ∃ x, s.freeCode l.length = codeIn l x := by
  obtain ⟨i, hi, hfree⟩ := s.freeCode_lt hne
  refine ⟨l[i], ?_⟩
  rw [codeIn, hl.idxOf_getElem]
  exact hfree

/-- The free values of a unit that does not exist are a unit's values. -/
theorem State.watchUnitFields_of_ge (s : State) {target : Byte} (h : 8 ≤ target.toNat) : ∃ (w : WatchUnit) (enabled : Bool),
    w.group.toNat ≤ 3 ∧ s.watchUnitFields target
      = target :: codeIn watchFieldList w.field :: longBytes w.low ++ longBytes w.high
        ++ [codeIn senseList w.sense, codeIn kindFilterList w.kind, w.group, markByte enabled] := by
  obtain ⟨field, hfield⟩ := s.freeCode_codeIn (l := watchFieldList) (by decide) (by decide)
  obtain ⟨low, high, hbounds⟩ := (s.drew 1).freeBytes_sixteen
  obtain ⟨sense, hsense⟩ := (s.drew 17).freeCode_codeIn (l := senseList) (by decide) (by decide)
  obtain ⟨kind, hkind⟩ := (s.drew 18).freeCode_codeIn (l := kindFilterList) (by decide) (by decide)
  obtain ⟨g, hg, hgroup⟩ := (s.drew 19).freeCode_lt (k := 4) (by decide)
  obtain ⟨enabled, hmark⟩ := (s.drew 20).freeCode_mark
  refine ⟨{ field := field, low := low, high := high, sense := sense, kind := kind, group := BitVec.ofNat 8 g }, enabled, ?_, ?_⟩
  · simp only [BitVec.toNat_ofNat]
    omega
  · have hget : s.watch.units.toList[target.toNat]? = none := by simp [h]
    simp only [State.watchUnitFields, hget, hfield, hbounds, hsense, hkind, hgroup, hmark, List.cons_append]

theorem exec_setWatchCommon_of_listening {s u : State} {body : List Byte} {r : Result} {fields : List Byte} (hs : s.listening)
    (hlen : body.length = 25) (h : (byteAt body 0).toNat = 255)
    (hans : s.hunting.programCommon body = { result := r, fields := fields, after := u.hunting }) :
    exec (.setWatchCommon body) s = .next (u.replying 0x14 r fields) := by
  have hcommon : byteAt body 0 = commonTarget := BitVec.eq_of_toNat_eq h
  exact whenRunning_request_of_listening hs hlen ((if_pos hcommon).trans hans)

theorem setWatchStoresOneTarget : Claims.SetWatchStoresOneTarget := by
  intro s body hs hlen target unitOk commonOk
  refine ⟨fun ht hok => ?stored, fun ht hbad => ?refused, fun hge hlt => ?unknown, fun ht hok => ?common, fun ht hbad => ?commonRefused⟩
  case stored =>
    obtain ⟨w, hread, hfield, hlow, hhigh, hsense, hkind, hgroup⟩ := readWatchUnit_of_ok hok
    refine ⟨w, hfield, hlow, hhigh, hsense, hkind, hgroup, ?_⟩
    set u : State := { s with watch := { s.watch with units := s.watch.units.setIfInBounds (byteAt body 0).toNat w } } with hu
    have hfields : u.watchUnitFields (byteAt body 0) = byteAt body 0 :: byteAt body 1 :: longBytes w.low ++ longBytes w.high
        ++ [byteAt body 18, byteAt body 19, byteAt body 20, markByte w.enabled] := by
      rw [State.watchUnitFields_of_lt _ (show _ < 8 by omega)]
      simp only [hu, Vector.getElem_setIfInBounds_self, WatchUnit.toBytes, codeIn_of_decodeIn (by decide) hfield,
        codeIn_of_decodeIn (by decide) hsense, codeIn_of_decodeIn (by decide) hkind, hgroup, List.cons_append]
    rw [← hfields]
    refine exec_setWatchUnit_of_listening hs hlen (by omega) ?_
    rw [State.programUnit]
    simp only [if_neg (show ¬ 7 < (byteAt body 0).toNat by omega), hread]
    rfl
  case refused =>
    intro w
    have hfields := s.watchUnitFields_of_lt (target := byteAt body 0) ht
    simp only [WatchUnit.toBytes] at hfields
    simp only [List.cons_append] at hfields ⊢
    rw [← hfields]
    refine exec_setWatchUnit_of_listening hs hlen (by omega) ?_
    rw [State.programUnit]
    simp only [if_neg (show ¬ 7 < (byteAt body 0).toNat by omega), readWatchUnit_of_not_ok hbad]
    rfl
  case unknown =>
    obtain ⟨w, enabled, hgroup, hfields⟩ := s.watchUnitFields_of_ge (target := byteAt body 0) hge
    refine ⟨w, enabled, s.freeCount + 21, hgroup, ?_⟩
    rw [← hfields]
    refine exec_setWatchUnit_of_listening (u := s.drew 21) hs hlen hlt ?_
    exact if_pos hge
  case common =>
    obtain ⟨hcombine, haction⟩ := hok
    obtain ⟨c, hc⟩ := decodeIn_of_lt (l := combineList) (b := byteAt body 21) (show _ < 2 by omega)
    obtain ⟨a, ha⟩ := decodeIn_of_lt (l := watchActionList) (b := byteAt body 22) (show _ < 3 by omega)
    refine ⟨c, a, hc, ha, ?_⟩
    rw [← codeIn_of_decodeIn (by decide) hc, ← codeIn_of_decodeIn (by decide) ha]
    refine exec_setWatchCommon_of_listening hs hlen ht ?_
    simp only [State.programCommon, readWatchCommon, hc, ha]
    rfl
  case commonRefused =>
    refine exec_setWatchCommon_of_listening hs hlen ht ?_
    have hread : readWatchCommon body = none := by
      rw [readWatchCommon]
      split
      · next hc ha =>
        have hc : (byteAt body 21).toNat < 2 := (List.getElem?_eq_some_iff.mp hc).1
        have ha : (byteAt body 22).toNat < 3 := (List.getElem?_eq_some_iff.mp ha).1
        exact absurd ⟨by omega, by omega⟩ hbad
      · rfl
    rw [State.programCommon, hread]
    rfl

theorem watchStatusAndClearWatch : Claims.WatchStatusAndClearWatch := by
  refine fun s hs => ⟨?_, whenRunning_request_of_listening hs rfl rfl⟩
  refine (whenRunning_request_of_listening (fields := s.watchFields) hs rfl rfl).trans ?_
  rw [State.watchFields]
  cases s.watch.status <;> simp only [Option.map, List.append_assoc] <;> rfl

/-- Settles O17. -/
theorem watchRequestsStoreAndReport : Obligations.WatchRequestsStoreAndReport := ⟨setWatchStoresOneTarget, watchStatusAndClearWatch⟩

/-! ### READ JOURNAL (R190) and a record's slot (Table 28) -/

theorem recordKind_bytes (k : RecordKind) :
    [recordKindByte k, recordOutcomeByte k] = match k with
      | .transaction o => [0, codeIn txOutcomeList o]
      | .tear o => [1, codeIn tearOutcomeList o]
      | .passage o => [2, codeIn passageOutcomeList o]
      | .lateAlert => [3, 0] := by
  cases k <;> rfl

/-- The number that bits from the lowest on are. -/
theorem presenceBits_eq (x : RecordFields) :
    let bit := fun (n : Nat) (b : Bool) => if b then 2 ^ n else 0
    halfBytes (presenceBits x) = natHalf (bit 0 x.number.isSome + bit 1 x.cls.isSome + bit 2 x.evidence.isSome
      + bit 3 x.reason.isSome + bit 4 x.watchUnits.isSome + bit 5 x.fare.isSome + bit 6 x.balanceAfter.isSome
      + bit 7 x.counterAfter.isSome + bit 8 x.entryStation.isSome + bit 9 x.reference.isSome) := by
  intro bit
  have double (n : Nat) (b : Bool) : 2 * bit n b = bit (n + 1) b := by cases b <;> simp [bit, pow_succ, Nat.mul_comm]
  have lowest (b : Bool) : (if b then 1 else 0) = bit 0 b := by cases b <;> rfl
  rw [presenceBits, natHalf]
  simp only [List.foldr_cons, List.foldr_nil, Nat.mul_zero, Nat.add_zero, Nat.mul_add, lowest, double, Nat.add_assoc]

theorem recordMarks_eq (r : Record) :
    let bit := fun (n : Nat) (b : Bool) => if b then 2 ^ n else 0
    recordMarks r = BitVec.ofNat 8 (bit 0 r.stamp.isNone + bit 1 r.fields.bypassed + bit 2 r.fields.freePassage) := rfl

theorem recordBody_eq (r : Record) :
    let x := r.fields
    let bit := fun (n : Nat) (b : Bool) => if b then 2 ^ n else 0
    recordBody r = wordBytes r.sequence
      ++ (match r.kind with
        | .transaction o => [0, codeIn txOutcomeList o]
        | .tear o => [1, codeIn tearOutcomeList o]
        | .passage o => [2, codeIn passageOutcomeList o]
        | .lateAlert => [3, 0])
      ++ [codeIn faceList r.face, BitVec.ofNat 8 (bit 0 r.stamp.isNone + bit 1 x.bypassed + bit 2 x.freePassage)]
      ++ (match r.stamp with
        | some (day, minute) => halfBytes day ++ halfBytes minute
        | none => [0, 0, 0, 0])
      ++ natHalf (bit 0 x.number.isSome + bit 1 x.cls.isSome + bit 2 x.evidence.isSome + bit 3 x.reason.isSome
        + bit 4 x.watchUnits.isSome + bit 5 x.fare.isSome + bit 6 x.balanceAfter.isSome + bit 7 x.counterAfter.isSome
        + bit 8 x.entryStation.isSome + bit 9 x.reference.isSome)
      ++ longBytes (x.number.getD 0)
      ++ [x.cls.getD 0, (x.evidence.map (codeIn evidenceList)).getD 0, (x.reason.map (codeIn reasonList)).getD 0, x.watchUnits.getD 0]
      ++ halfBytes (x.fare.getD 0) ++ wordBytes (x.balanceAfter.getD 0) ++ halfBytes (x.counterAfter.getD 0)
      ++ halfBytes (x.entryStation.getD 0) ++ wordBytes (x.reference.getD 0) ++ List.replicate 42 0 := by
  intro x bit
  rw [← recordKind_bytes, ← presenceBits_eq, ← recordMarks_eq, recordBody]
  cases r.stamp <;> simp only [List.append_assoc, List.cons_append, List.nil_append, x] <;> rfl

theorem Journal.oldest_eq (j : Journal) : j.oldest = match j.records with
    | r :: _ => r.sequence
    | [] => 0 := by
  rw [Journal.oldest]
  cases j.records <;> rfl

theorem exec_readJournal_of_count {s : State} {body : List Byte} (hs : s.listening) (hlen : body.length = 5)
    (h : 1 ≤ (byteAt body 4).toNat ∧ (byteAt body 4).toNat ≤ 8) :
    exec (.readJournal body) s = .next (s.replying 0x1B .done
      (s.journalFields (wordAt body 0) (byteAt body 4) (s.journal.from (wordAt body 0) (byteAt body 4).toNat))) :=
  whenRunning_request_of_listening hs hlen (if_pos h)

theorem exec_readJournal_of_refused {s : State} {body : List Byte} (hs : s.listening) (hlen : body.length = 5)
    (h : ¬ (1 ≤ (byteAt body 4).toNat ∧ (byteAt body 4).toNat ≤ 8)) :
    exec (.readJournal body) s = .next (s.replying 0x1B .outOfRange (s.journalFields (wordAt body 0) (byteAt body 4) [])) :=
  whenRunning_request_of_listening hs hlen (if_neg h)

theorem Journal.more_iff (j : Journal) (returned : List Record) {last final : Record} (hlast : returned.getLast? = some last)
    (hfinal : j.records.getLast? = some final) : j.more returned = true ↔ last.sequence ≠ final.sequence := by
  simp only [Journal.more, hlast, hfinal, decide_eq_true_eq]

theorem readJournalReturnsOldestFirst : Claims.ReadJournalReturnsOldestFirst := by
  intro s body hs hlen start count found oldest slot fixed
  have hslot (r : Record) : recordBytes r = slot r := by
    simp only [recordBytes, recordBody_eq, slot] <;> rfl
  have hfields (returned : List Record) : s.journalFields start count returned
      = fixed returned (s.journal.more returned) ++ returned.flatMap slot := by
    have hflat : (returned.map recordBytes).flatten = returned.flatMap slot := by
      rw [List.flatMap, List.map_congr_left fun r _ => hslot r]
    rw [State.journalFields, hflat, Journal.oldest_eq]
    simp only [fixed, oldest, natByte, List.append_assoc, List.cons_append, List.nil_append] <;> rfl
  refine ⟨fun hone hle => ⟨s.journal.more found, fun last final hlast hfinal => Journal.more_iff _ _ hlast hfinal, fun hnil => ?_, ?_⟩,
    fun hbad => ?_⟩
  · rw [hnil]
    rfl
  · rw [← hfields]
    exact exec_readJournal_of_count hs hlen ⟨hone, hle⟩
  · have hnone := hfields []
    rw [List.flatMap_nil, List.append_nil] at hnone
    rw [← show fixed [] (s.journal.more []) = fixed [] false from rfl, ← hnone]
    have hbad : (byteAt body 4).toNat = 0 ∨ 8 < (byteAt body 4).toNat := hbad
    exact exec_readJournal_of_refused hs hlen (by omega)

/-! ### FREE JOURNAL (R191) -/

theorem Journal.free_of_split {j : Journal} {upTo : Word} {gone kept : List Record} (h : j.records = gone ++ kept)
    (hgone : ∀ r ∈ gone, (upTo - r.sequence).toNat < 2 ^ 31)
    (hkept : ∀ r, kept.head? = some r → 2 ^ 31 ≤ (upTo - r.sequence).toNat) : j.free upTo = { j with records := kept } := by
  rw [Journal.free, h, List.dropWhile_append_of_pos (p := fun r => atOrAfter upTo r.sequence) fun r hr => decide_eq_true (hgone r hr)]
  cases kept with
  | nil => rfl
  | cons r rs => rw [List.dropWhile_cons_of_neg (by simpa [atOrAfter] using hkept r rfl)]

theorem freeJournalRemovesTheOldest : Claims.FreeJournalRemovesTheOldest := by
  intro s body hs hlen gone kept hsplit hgone hkept
  have hfree : s.hunting.journal.free (wordAt body 0) = { s.journal with records := kept } := Journal.free_of_split hsplit hgone hkept
  have hcount : s.hunting.journal.records.length - kept.length = gone.length := by
    change s.journal.records.length - _ = _
    rw [hsplit, List.length_append, Nat.add_sub_cancel]
  refine whenRunning_request_of_listening hs hlen ?_
  simp only [hfree, hcount, Journal.oldest_eq]
  cases kept <;> rfl

/-- Settles O19: the records by their slots, and the removal up to the first record after the sequence. -/
theorem journalIsReadAndFreedInOrder : Obligations.JournalIsReadAndFreedInOrder :=
  ⟨readJournalReturnsOldestFirst, freeJournalRemovesTheOldest⟩

end Sys2Proof.Machine
end

section
/-! SUPPORT. The reader faces (sections 1.1 to 1.3): deadlines as propositions, polls and how they end, front-end responses, and the
replies and timeouts of card commands. -/

namespace Sys2Proof.Machine

-- One declaration at a time: each waiting elaboration thread counts against the memory limit of the one text.
set_option Elab.async false

/-! ### Deadlines (R174) -/

theorem reached_iff (now start : Word) (d : Nat) : reached now start d = true ↔ d ≤ (now - start).toNat := decide_eq_true_iff

theorem due_iff (now : Word) (start : Option Word) (d : Nat) :
    due now start d = true ↔ ∃ t, start = some t ∧ d ≤ (now - t).toNat := by
  cases start <;> simp [due, reached_iff]

/-! ### Faces and contexts set twice -/

@[simp] theorem State.setFace_setFace (s : State) (f : Face) (u v : FaceUnit) : (s.setFace f u).setFace f v = s.setFace f v := by
  cases f <;> rfl

@[simp] theorem State.setContext_setContext (s : State) (f : Face) (c d : Context) :
    (s.setContext f c).setContext f d = s.setContext f d := by
  cases f <;> rfl

@[simp] theorem State.setContext_self (s : State) (f : Face) : s.setContext f (s.context f) = s := by
  cases f <;> rfl

@[simp] theorem State.setFace_self (s : State) (f : Face) : s.setFace f (s.face f) = s := by
  cases f <;> rfl

theorem CtxState.waiting_iff (st : CtxState) : st.waiting = true ↔ st = .removalWait ∨ st = .refusedShown := by
  cases st <;> decide

/-- Card removed (R49), as one update of the context. -/
theorem State.cardRemoved_eq (s : State) (f : Face) :
    s.cardRemoved f = s.setContext f
      (if (s.context f).state = .removalWait ∨ (s.context f).state = .refusedShown then Context.idle else s.context f) := by
  unfold State.cardRemoved
  by_cases h : (s.context f).state.waiting = true
  · rw [if_pos h, if_pos ((CtxState.waiting_iff _).mp h)]
  · rw [if_neg h, if_neg (mt (CtxState.waiting_iff _).mpr h), State.setContext_self]

/-! ### Polls (R2, R4, R7, R8) -/

theorem settlingAndPollIntervalStartPolls : Claims.SettlingAndPollIntervalStartPolls := by
  intro s f hp u polls settled dueNow
  have settling : exec (.settlingTimeExpiry f) s = .next
      (if u.state = .settling ∧ due s.now u.settleStart settlingTime = true then
        s.setFace f (({ u with state := .polling, settleStart := none } : FaceUnit).startPoll s.now) else s) :=
    whenRunning_of_running _ hp
  have interval : exec (.pollDue f) s = .next
      (if (u.state = .polling ∨ u.state = .watching) ∧ due s.now u.pollStart pollInterval = true then
        s.setFace f (u.startPoll s.now) else s) := whenRunning_of_running _ hp
  have hsettled : u.state = .settling ∧ due s.now u.settleStart settlingTime = true ↔ settled := and_congr_right' (due_iff ..)
  have hdue : (u.state = .polling ∨ u.state = .watching) ∧ due s.now u.pollStart pollInterval = true ↔ dueNow :=
    and_congr_right' (due_iff ..)
  refine ⟨fun h => ?_, fun h => settling.trans (congrArg _ (if_neg (mt hsettled.mp h))), fun h => ?_,
    fun h => interval.trans (congrArg _ (if_neg (mt hdue.mp h)))⟩
  · rw [settling, if_pos (hsettled.mpr h)]
    simp only [polls, if_pos h.1]
    rfl
  · have hne : u.state ≠ .settling := by rcases h.1 with h | h <;> simp [h]
    rw [interval, if_pos (hdue.mpr h)]
    simp only [polls, if_neg hne]
    rfl

theorem exec_wakeTimeout_of_reached {s : State} {f : Face} {p : Poll} (hp : s.power = .running) (hpoll : (s.face f).poll = some p)
    (ht : 25 ≤ (s.now - p.sentAt).toNat) :
    exec (.wakeTimeout f) s = .next (if p.second then s.pollUnanswered f p
      else s.setFace f { s.face f with poll := some { p with second := true, sentAt := s.now } }) := by
  change execWakeTimeout f s = _
  have hreached : ¬ reached s.now p.sentAt replyTimeout = false := by
    rw [Bool.not_eq_false, reached_iff]
    exact ht
  rw [execWakeTimeout, whenRunning_of_running _ hp]
  simp only [hpoll, if_neg hreached]

theorem wakeTimeoutsEndAPollUnanswered : Claims.WakeTimeoutsEndAPollUnanswered := by
  intro s f p hp hpoll ht u misses faced
  have wakes := exec_wakeTimeout_of_reached hp hpoll ht
  have unanswered (hsecond : p.second = true) (hfew : misses < 3) :
      exec (.wakeTimeout f) s = .next (if u.state = .watching then
        if 2 ≤ u.unanswered + 1 then
          (s.setFace f { u with
            poll := none, missCount := misses, state := .polling, pollStart := some s.now, unanswered := 0
            lastOutcome := .noOutcome }).cardRemoved f
        else s.setFace f { u with poll := none, missCount := misses, unanswered := u.unanswered + 1 }
        else s.setFace f { u with poll := none, missCount := misses }) := by
    rw [wakes, if_pos hsecond, State.pollUnanswered]
    exact congrArg _ (if_neg (Nat.not_le.mpr hfew))
  refine ⟨fun h => ?_, fun h hfew hpolling => ?_, fun h hfew hwatch hfirst => ?_, fun h hfew hwatch hagain => ?_⟩
  · rw [wakes, h]
    rfl
  · rw [unanswered h hfew, if_neg (by simp [hpolling])]
    rfl
  · rw [unanswered h hfew, if_pos hwatch, if_neg (by omega), hfirst]
    rfl
  · intro c
    rw [unanswered h hfew, if_pos hwatch, if_pos (by omega), State.cardRemoved_eq]
    rfl

/-- A fault that finds the slot empty fills it (R178). -/
theorem State.raiseFault_of_empty {s : State} (k : FaultKind) (hstate : s.service.state ≠ .lockdown) (hslot : s.service.faultSlot = none) :
    s.raiseFault k = s.fillFaultSlot (s.faultRecord k) := by
  have hfull : ¬ s.service.faultSlot.isSome = true := by simp [hslot]
  unfold State.raiseFault
  cases h : s.service.state with
  | lockdown => exact absurd h hstate
  | _ => exact if_neg hfull

theorem CtxState.committed_iff (st : CtxState) : st.committed = true ↔ st = .settling ∨ st = .confirming := by
  cases st <;> decide

theorem State.faultRecord_recoverable (s : State) (k : FaultKind) : (s.faultRecord k).recoverable = false ↔
    s.contexts.street.state = .settling ∨ s.contexts.street.state = .confirming
      ∨ s.contexts.paid.state = .settling ∨ s.contexts.paid.state = .confirming := by
  simp only [State.faultRecord, Bool.not_eq_false', Bool.or_eq_true, CtxState.committed_iff, or_assoc]

theorem thirdDeadPollIsAReaderFault : Claims.ThirdDeadPollIsAReaderFault := by
  intro s f p hp hpoll ht hsecond hsilent hmisses faulted c
  have hexec : exec (.wakeTimeout f) s = .next { faulted with
      contexts := faulted.contexts.set f (if c.state = .removalWait ∨ c.state = .refusedShown then Context.idle else c) } := by
    have hthree : 3 ≤ if p.responded then (s.face f).missCount else (s.face f).missCount + 1 := by
      rw [hsilent]
      exact Nat.succ_le_succ hmisses
    rw [exec_wakeTimeout_of_reached hp hpoll ht, if_pos hsecond, State.pollUnanswered]
    refine congrArg Host.Outcome.next ((if_pos hthree).trans ?_)
    rw [State.readerFault, State.cardRemoved_eq, State.setFace_setFace, State.setFace_face]
    rfl
  refine ⟨hexec, fun hstate hslot => ⟨_, hexec, ?_⟩⟩
  set disabled : State :=
    { s with faces := s.faces.set f { Claims.fieldGone (s.face f) with state := .disabled, missCount := 3 } } with hdisabled
  have hfilled : faulted = disabled.fillFaultSlot (disabled.faultRecord (.readerFault f)) := State.raiseFault_of_empty _ hstate hslot
  have hface : disabled.face f = { Claims.fieldGone (s.face f) with state := .disabled, missCount := 3 } := PerFace.get_set _ _ _
  have hother : disabled.face f.other = s.face f.other := PerFace.get_set_other _ _ _
  have hcontext : faulted.contexts = s.contexts := by rw [hfilled]; rfl
  have hc : c = s.context f := congrArg (PerFace.get · f) hcontext
  have hfaces : faulted.faces = disabled.faces := by rw [hfilled]; rfl
  have hface' : faulted.face f = { Claims.fieldGone (s.face f) with state := .disabled, missCount := 3 } :=
    (congrArg (PerFace.get · f) hfaces).trans hface
  refine ⟨congrArg FaceUnit.state hface', congrArg FaceUnit.poll hface', congrArg FaceUnit.exchange hface', ?dark,
    (congrArg (PerFace.get · f.other) hfaces).trans hother, ?otherContext, fun hwait => ?freed, ?flags, ?state, ?record, ?rest⟩
  case dark =>
    have hdark : (faulted.face f).state = .disabled := congrArg FaceUnit.state hface'
    change (decide _ && decide ((faulted.face f).state ≠ .off ∧ (faulted.face f).state ≠ .disabled)) = false
    simp [hdark]
  case otherContext => exact (PerFace.get_set_other _ _ _).trans (congrArg (PerFace.get · f.other) hcontext)
  case freed =>
    refine (PerFace.get_set _ _ _).trans (if_pos ?_)
    rw [hc]
    exact hwait
  case flags => change faulted.service.flags = _; rw [hfilled]; rfl
  case state => change faulted.service.state = _; rw [hfilled]; rfl
  case record =>
    refine ⟨disabled.faultRecord (.readerFault f), ?_, rfl, rfl, rfl, rfl, rfl, State.faultRecord_recoverable _ _⟩
    change faulted.service.faultSlot = _
    rw [hfilled]
    rfl
  case rest => refine ⟨?_, ?_, ?_, ?_, ?_⟩ <;> simp only [hfilled] <;> rfl

/-- Settles O24. -/
theorem pollsRunAndEndUnanswered : Obligations.PollsRunAndEndUnanswered :=
  ⟨settlingAndPollIntervalStartPolls, wakeTimeoutsEndAPollUnanswered, thirdDeadPollIsAReaderFault⟩

/-! ### Front-end responses (R4 to R8, R24) -/

theorem State.responded_of_on {s : State} {f : Face} (hoff : (s.face f).state ≠ .off) (hdis : (s.face f).state ≠ .disabled) :
    s.responded f = s.setFace f (s.face f).responded := if_neg (not_or.mpr ⟨hoff, hdis⟩)

theorem exec_presenceAnswer_of_running {s : State} (f : Face) (hp : s.power = .running) : exec (.presenceAnswer f) s
    = .next (if (s.face f).poll.isSome then (s.responded f).pollAnswered f else s.responded f) := by
  change execPresenceAnswer f s = _
  rw [execPresenceAnswer, whenRunning_of_running _ hp]

/-- A collision and a garbled answer are one thing to a poll (log entry 27). -/
theorem exec_collision_of_running {s : State} {f : Face} {c : Instr} (hp : s.power = .running)
    (hc : c ∈ [Instr.collisionReport f, .garbledReply f]) :
    exec c s = .next (if (s.face f).poll.isSome then (s.responded f).pollCollision f else s.responded f) := by
  simp only [List.mem_cons, List.not_mem_nil, or_false] at hc
  rcases hc with rfl | rfl
  · change execCollisionReport f s = _
    rw [execCollisionReport, whenRunning_of_running _ hp]
  · change execGarbledReply f s = _
    rw [execGarbledReply, whenRunning_of_running _ hp]

theorem State.pollAnswered_of_polling {s : State} {f : Face} (h : (s.face f).state = .polling) : s.pollAnswered f = { s with
    faces := s.faces.set f { s.face f with
      state := .serving, poll := none, pollStart := none, offPending := false
      exchange := some { command := .name, sentAt := s.now, resent := false } }
    contexts := s.contexts.set f { Context.idle with state := .naming } } := by
  simp only [State.pollAnswered, h, State.ask, State.setContext_face, State.setFace_face]
  simp only [State.setFace, State.setContext, PerFace.set_set]

theorem State.pollAnswered_of_watching {s : State} {f : Face} (h : (s.face f).state = .watching) :
    s.pollAnswered f = s.setFace f { s.face f with poll := none, unanswered := 0 } := by
  simp only [State.pollAnswered, h]

theorem State.pollCollision_of_polling {s : State} {f : Face} (h : (s.face f).state = .polling) : s.pollCollision f
    = (s.setFace f { s.face f with state := .watching, poll := none, unanswered := 0, lastOutcome := .twoCards }).askTone f .refuse := by
  simp only [State.pollCollision, h]

theorem State.pollCollision_of_watching {s : State} {f : Face} (h : (s.face f).state = .watching) :
    s.pollCollision f = s.setFace f { s.face f with poll := none, unanswered := 0 } := by
  simp only [State.pollCollision, h]

/-- Settles O25: what a response finds is the face with its response noted, and its poll then ends by the face's state. -/
theorem frontEndResponsesEndPolls : Obligations.FrontEndResponsesEndPolls := by
  intro s f hp u faced heard
  have noted (hoff : u.state ≠ .off) (hdis : u.state ≠ .disabled) : s.responded f = s.setFace f u.responded :=
    State.responded_of_on hoff hdis
  have notedState {st : FaceState} (hst : u.state = st) (hoff : st ≠ .off) (hdis : st ≠ .disabled) :
      s.responded f = s.setFace f u.responded ∧ ((s.setFace f u.responded).face f).state = st :=
    ⟨noted (hst ▸ hoff) (hst ▸ hdis), by rw [State.setFace_face]; exact hst⟩
  have isSome {p : Poll} (hpoll : u.poll = some p) : (s.face f).poll.isSome = true := by rw [show (s.face f).poll = _ from hpoll]; rfl
  refine ⟨fun p hpoll hst => ?answered, fun p hpoll hst c hc => ?collided, fun p hpoll hst c hc => ?watched, fun hoff hdis => ?silence,
    fun hpoll hoff hdis c hc => ?discarded⟩
  case answered =>
    obtain ⟨hnoted, hstate⟩ := notedState hst nofun nofun
    rw [exec_presenceAnswer_of_running f hp, if_pos (isSome hpoll), hnoted, State.pollAnswered_of_polling hstate]
    simp only [State.setFace_face]
    simp only [State.setFace, PerFace.set_set]
    rfl
  case collided =>
    obtain ⟨hnoted, hstate⟩ := notedState hst nofun nofun
    rw [exec_collision_of_running hp hc, if_pos (isSome hpoll), hnoted, State.pollCollision_of_polling hstate, State.setFace_face,
      State.setFace_setFace]
    rfl
  case watched =>
    obtain ⟨hnoted, hstate⟩ := notedState hst nofun nofun
    rcases List.mem_cons.mp hc with rfl | hc
    · rw [exec_presenceAnswer_of_running f hp, if_pos (isSome hpoll), hnoted, State.pollAnswered_of_watching hstate, State.setFace_face,
        State.setFace_setFace]
      rfl
    · rw [exec_collision_of_running hp hc, if_pos (isSome hpoll), hnoted, State.pollCollision_of_watching hstate, State.setFace_face,
        State.setFace_setFace]
      rfl
  case silence =>
    change execSilenceNotice f s = _
    rw [execSilenceNotice, whenRunning_of_running _ hp, noted hoff hdis]
    rfl
  case discarded =>
    have hnone : ¬ (s.face f).poll.isSome = true := by rw [show (s.face f).poll = _ from hpoll]; nofun
    have hface : s.setFace f u.responded = faced { u with missCount := 0, poll := none } := by
      rw [FaceUnit.responded, hpoll]
      rfl
    rw [← hface, ← noted hoff hdis]
    rcases List.mem_cons.mp hc with rfl | hc
    · exact (exec_presenceAnswer_of_running f hp).trans (congrArg _ (if_neg hnone))
    · exact (exec_collision_of_running hp hc).trans (congrArg _ (if_neg hnone))

/-! ### Card replies that nothing expects (R8, R10) -/

theorem State.exchanged_responded (s : State) (f : Face) : (s.responded f).exchanged f = s.exchanged f := by
  unfold State.responded
  split
  · rfl
  · rw [State.exchanged, State.setFace_face]
    rfl

theorem State.cardReply_of_unexpected {s : State} {f : Face} {expected : CardCommand → Bool} (act : State → State)
    (h : ∀ e, (s.face f).exchange = some e → expected e.command = false) : s.cardReply f expected act = s.responded f := by
  unfold State.cardReply
  cases he : (s.face f).exchange with
  | none =>
    have hnone : (s.responded f).exchanged f = none := by rw [State.exchanged_responded, State.exchanged, he]; rfl
    simp only [hnone]
  | some e =>
    have hsome : (s.responded f).exchanged f = some e.command := by rw [State.exchanged_responded, State.exchanged, he]; rfl
    simp only [hsome, h e he, Bool.false_eq_true, if_false]

theorem unexpectedRepliesAreDiscarded : Claims.UnexpectedRepliesAreDiscarded := by
  intro s f hp u discarded awaits
  have discards {c : Instr} {expected : CardCommand → Bool} {act : State → State} {p : CardCommand → Prop}
      (hexec : exec c s = whenRunning s fun s => s.cardReply f expected act) (hno : ¬ awaits p)
      (hexp : ∀ x, expected x = true → p x) : discarded c := by
    rw [whenRunning_of_running _ hp, State.cardReply_of_unexpected act fun e he =>
      Bool.eq_false_iff.mpr fun ht => hno ⟨e, he, hexp _ ht⟩] at hexec
    exact hexec
  refine ⟨fun h n k g st => discards rfl h fun x hx => of_decide_eq_true hx,
    fun h image => discards rfl h fun x hx => (of_decide_eq_true hx).1,
    fun h p => discards (p := fun c => ∃ v, c = .prove v) rfl h fun x hx => ?prove,
    fun h => ⟨discards (p := fun c => ∃ i n, c = .stage i n) rfl h fun x hx => ?ready,
      discards (p := fun c => ∃ i n, c = .stage i n) rfl h fun x hx => ?stale⟩,
    fun h n => discards rfl h fun x hx => of_decide_eq_true hx⟩
  case prove =>
    cases x with
    | prove v => exact ⟨v, rfl⟩
    | _ => cases hx
  case ready =>
    cases x with
    | stage i n => exact ⟨i, n, rfl⟩
    | _ => cases hx
  case stale =>
    cases x with
    | stage i n => exact ⟨i, n, rfl⟩
    | _ => cases hx

/-! ### A context that is done (R3, R7, R44) -/

theorem State.leaveServing_of_serving {s : State} {f : Face} (hs : (s.face f).state = .serving) :
    s.leaveServing f = if (s.face f).offPending then (s.setFace f (Claims.fieldGone (s.face f))).cardRemoved f
      else s.setFace f (Claims.faceAfter (s.face f) s.now (decide ((s.context f).state = .idle))) := by
  unfold State.leaveServing Claims.faceAfter
  simp only [hs, if_true]
  by_cases hoff : (s.face f).offPending = true
  · rw [if_pos hoff, if_pos hoff]
    rfl
  · rw [if_neg hoff, if_neg hoff, if_neg hoff]
    by_cases hidle : (s.context f).state = .idle
    · rw [if_pos hidle, if_pos (decide_eq_true hidle)]
    · rw [if_neg hidle, if_neg (by simpa using hidle)]

/-- A SERVING face lets a context go that is IDLE, or waits for its card's removal. -/
theorem State.leaveServing_eq {s : State} {f : Face} (hs : (s.face f).state = .serving)
    (hc : s.context f = Context.idle ∨ (s.context f).state = .removalWait ∨ (s.context f).state = .refusedShown) :
    s.leaveServing f = { s with
      faces := s.faces.set f (Claims.faceAfter (s.face f) s.now (decide ((s.context f).state = .idle)))
      contexts := s.contexts.set f (Claims.contextAfter (s.face f) (s.context f)) } := by
  rw [State.leaveServing_of_serving hs, Claims.contextAfter]
  by_cases hoff : (s.face f).offPending = true
  · have hgone : Claims.faceAfter (s.face f) s.now (decide ((s.context f).state = .idle)) = Claims.fieldGone (s.face f) := if_pos hoff
    have hidle : (if (s.context f).state = .removalWait ∨ (s.context f).state = .refusedShown then Context.idle else s.context f)
        = Context.idle := by
      rcases hc with hc | hc
      · rw [hc, ite_self]
      · exact if_pos hc
    rw [if_pos hoff, if_pos hoff, State.cardRemoved_eq, State.setFace_context, hidle, hgone]
    rfl
  · rw [if_neg hoff, if_neg hoff]
    exact (State.setContext_self (s.setFace f _) f).symm

/-! ### Timeouts (R11) -/

theorem exec_commandTimeout_of_reached {s : State} {f : Face} {e : Exchange} (hp : s.power = .running)
    (he : (s.face f).exchange = some e) (ht : 25 ≤ (s.now - e.sentAt).toNat) :
    exec (.commandTimeout f) s = .next
      (if e.command.isResent = true ∧ e.resent = false then
        s.setFace f { s.face f with exchange := some { e with sentAt := s.now, resent := true } }
      else if e.command = .settle then (s.closeExchange f).settleTimeout f
      else (s.closeExchange f).cardLost f) := by
  change execCommandTimeout f s = _
  have hreached : ¬ reached s.now e.sentAt replyTimeout = false := by
    rw [Bool.not_eq_false, reached_iff]
    exact ht
  rw [execCommandTimeout, whenRunning_of_running _ hp]
  simp only [he, if_neg hreached]

theorem State.cardLost_of_naming {s : State} {f : Face} (hs : (s.face f).state = .serving) (hc : (s.context f).state = .naming) :
    s.cardLost f = { s with
      contexts := s.contexts.set f Context.idle, faces := s.faces.set f (Claims.faceAfter (s.face f) s.now true) } := by
  have hconclude : s.cardLost f = (s.setContext f Context.idle).leaveServing f := by
    simp only [State.cardLost, hc, State.conclude, if_true]
  have hafter : Claims.contextAfter (s.face f) Context.idle = Context.idle := ite_self _
  rw [hconclude, State.leaveServing_eq (by exact hs) (.inl (State.setContext_context _ _ _)), State.setContext_context,
    State.setContext_face, hafter]
  simp only [State.setContext_contexts, PerFace.set_set]
  rfl

theorem replyTimeoutsByCommand : Claims.ReplyTimeoutsByCommand := by
  intro s f e hp he ht u c asking closed takes lost
  have times := exec_commandTimeout_of_reached hp he ht
  have hclosed : s.closeExchange f = closed := rfl
  have losing (hne : e.command ≠ .settle) (hlost : lost) {t : State} (h : closed.cardLost f = t) : takes t := by
    have hnot : ¬ (e.command.isResent = true ∧ e.resent = false) := by
      rintro ⟨hresent, hfirst⟩
      rcases hlost with h | ⟨v, h⟩
      · simp [h] at hfirst
      · rw [h] at hresent
        cases hresent
    rw [if_neg hnot, if_neg hne, hclosed, h] at times
    exact times
  have hcontext (g : Face) : closed.context g = s.context g := rfl
  refine ⟨fun hfirst hcommand => ?resent, fun hcommand => ?settle, fun hne hlost hstate hserving => losing hne hlost ?naming,
    fun hne hlost hstate hb => losing hne hlost ?lost, fun hne hlost hstate hb => losing hne hlost ?lostOnBlockPath,
    fun hne hlost hstate => losing hne hlost ?staging, fun hne hlost hstate => losing hne hlost ?confirming⟩
  case resent =>
    have hresent : e.command.isResent = true := by
      rcases hcommand with h | h | h | ⟨_, _, h⟩ <;> rw [h] <;> rfl
    rw [if_pos ⟨hresent, hfirst⟩] at times
    exact times
  case settle =>
    rw [if_neg (by simp [hcommand, CardCommand.isResent]), if_pos hcommand] at times
    refine times.trans (congrArg _ ?_)
    simp only [State.settleTimeout, State.ask, State.closeExchange, State.setContext_face, State.setFace_face, State.setFace_context]
    simp only [State.setFace, State.setContext, PerFace.set_set]
    rfl
  case naming =>
    have hserving : (closed.face f).state = .serving := by
      rw [← hclosed, State.closeExchange, State.setFace_face]
      exact hserving
    have hface : Claims.faceAfter (closed.face f) closed.now true = Claims.faceAfter u s.now true := by
      rw [← hclosed, State.closeExchange, State.setFace_face]
      rfl
    rw [State.cardLost_of_naming hserving hstate, hface, ← hclosed]
    simp only [State.closeExchange, State.setFace, PerFace.set_set]
  case lost =>
    rcases hstate with h | h <;> simp only [State.cardLost, hcontext, h, State.endLost, hb, Bool.false_eq_true, if_false, c]
  case lostOnBlockPath =>
    rcases hstate with h | h <;> simp only [State.cardLost, hcontext, h, State.endLost, hb, if_true, c]
  case staging => simp only [State.cardLost, hcontext, show (s.context f).state = _ from hstate] <;> rfl
  case confirming => simp only [State.cardLost, hcontext, show (s.context f).state = _ from hstate]

/-- Settles O27. -/
theorem cardRepliesAreExpectedOrTimeOut : Obligations.CardRepliesAreExpectedOrTimeOut :=
  ⟨unexpectedRepliesAreDiscarded, replyTimeoutsByCommand⟩

end Sys2Proof.Machine
end

section
/-! SUPPORT. Bytes in and out: the receive buffer and TXD (section 10), what the collector makes of the bytes of a frame, what ring-in makes
of the bytes of a message, and the card image in its 64 bytes (section 11). -/

namespace Sys2Proof.Machine

-- One declaration at a time: each waiting elaboration thread counts against the memory limit of the one text.
set_option Elab.async false

/-! ### The receive buffer (R198, R200 to R202) -/

theorem State.takeFrame_of_busy {s : State} (act : State → State × Reply) (hbusy : s.link.busy = true) : s.takeFrame act
    = { s with link := { s.link with collector := .hunting, overrun := min 255 (s.link.overrun + 1) } } := by
  rw [State.takeFrame, hbusy]
  rfl

/-- What every request does with its body: it is handed to the receive buffer, and answered as a request only at the length its kind
requires. -/
def IsRequest (kind : Byte) (body : List Byte) (c : Instr) : Prop :=
  ∃ fits answer, (∀ s, exec c s = whenRunning s fun t => t.takeRequest kind fits answer)
    ∧ (fits = true → body.length = requestLength kind body)

theorem isRequest_of_length {kind : Byte} {body : List Byte} {c : Instr} {n : Nat} (answer : State → Answer)
    (h : ∀ s, exec c s = whenRunning s fun t => t.request kind n body answer) (hn : n = requestLength kind body) :
    IsRequest kind body c :=
  ⟨_, answer, h, fun hfits => (of_decide_eq_true hfits).trans hn⟩

theorem requestKind_iff (kind : Byte) : requestKind kind = true ↔ 1 ≤ kind.toNat ∧ kind.toNat ≤ 32 := decide_eq_true_iff

/-- The request kinds, as their places in Table 27. -/
theorem exists_of_requestKind {kind : Byte} (h : requestKind kind = true) : ∃ n < 32, kind = BitVec.ofNat 8 (n + 1) := by
  obtain ⟨hlow, hhigh⟩ := (requestKind_iff kind).mp h
  exact ⟨kind.toNat - 1, by omega, by bv_omega⟩

/-- The places in Table 27 of the kinds that are one command each, of a body length of their own. -/
def fixedKinds : List Nat := [0, 1, 2, 5, 7, 8, 9, 10, 11, 12, 13, 14, 15, 16, 17, 18, 20, 21, 22, 23, 24, 25, 26, 27, 28, 29, 30, 31]

/-- The others are the three loads of a counted list, and SET WATCH, which is one command for a unit and another for the common
settings. -/
theorem kind_places {n : Nat} (hn : n < 32) : n = 3 ∨ n = 4 ∨ n = 6 ∨ n = 19 ∨ n ∈ fixedKinds := by
  revert n
  decide

theorem isRequest_requestCommand (body : List Byte) {kind : Byte} (h : requestKind kind = true) :
    IsRequest kind body (requestCommand kind body) := by
  obtain ⟨n, hn, rfl⟩ := exists_of_requestKind h
  obtain rfl | rfl | rfl | rfl | hfixed := kind_places hn
  · exact ⟨_, _, fun _ => rfl, fun hfits => (of_decide_eq_true hfits).2⟩
  · exact ⟨_, _, fun _ => rfl, fun hfits => (of_decide_eq_true hfits).2⟩
  · exact ⟨_, _, fun _ => rfl, fun hfits => (of_decide_eq_true hfits).2⟩
  · by_cases hc : byteAt body 0 = commonTarget
    · have hcommon : requestCommand (BitVec.ofNat 8 (19 + 1)) body = .setWatchCommon body := if_pos hc
      exact isRequest_of_length _ (fun s => by rw [hcommon]; rfl) rfl
    · have hunit : requestCommand (BitVec.ofNat 8 (19 + 1)) body = .setWatchUnit body := if_neg hc
      exact isRequest_of_length _ (fun s => by rw [hunit]; rfl) rfl
  · rw [fixedKinds] at hfixed
    fin_cases hfixed
    all_goals exact isRequest_of_length _ (fun _ => rfl) rfl

/-- Every other kind byte is an unknown request (Table 27). -/
theorem requestCommand_of_unknown (body : List Byte) {kind : Byte} (h : requestKind kind = false) :
    requestCommand kind body = .unknownRequest kind := by
  have hout : ¬ (1 ≤ kind.toNat ∧ kind.toNat ≤ 32) := by
    rw [← requestKind_iff, h]
    nofun
  unfold requestCommand
  split
  case h_33 => rfl
  all_goals omega

/-- Every frame command is one `takeFrame`. -/
theorem exec_requestCommand_takesFrame (kind : Byte) (body : List Byte) :
    ∃ act, ∀ s, exec (requestCommand kind body) s = whenRunning s fun t => t.takeFrame act := by
  cases h : requestKind kind with
  | true =>
    obtain ⟨_, _, hexec, -⟩ := isRequest_requestCommand body h
    exact ⟨_, hexec⟩
  | false =>
    rw [requestCommand_of_unknown body h]
    exact ⟨_, fun _ => rfl⟩

theorem busyBufferCountsAnOverrun : Claims.BusyBufferCountsAnOverrun := by
  intro s hp hbusy t
  have discarded {c : Instr} {act : State → State × Reply} (h : exec c s = whenRunning s fun t => t.takeFrame act) :
      exec c s = .next t := by
    rw [h, whenRunning_of_running _ hp, State.takeFrame_of_busy act hbusy]
  refine ⟨fun kind body => ?request, fun kind => discarded rfl, fun kind => discarded rfl, discarded rfl, ?overrun, fun hc => ?gap⟩
  case request =>
    obtain ⟨act, hexec⟩ := exec_requestCommand_takesFrame kind body
    exact discarded (hexec s)
  case overrun =>
    change execFrameOverrun s = _
    rw [execFrameOverrun, whenRunning_of_running _ hp, if_pos hbusy, State.takeFrame_of_busy _ hbusy]
  case gap =>
    change execFrameGapTimeout s = _
    rw [execFrameGapTimeout, whenRunning_of_running _ hp, if_pos hc, State.takeFrame_of_busy _ hbusy]

theorem wrongLengthIsOutOfRange : Claims.WrongLengthIsOutOfRange := by
  intro s kind body ⟨hp, hfree⟩ hkind hlength
  obtain ⟨fits, answer, hexec, hfits⟩ := isRequest_requestCommand body hkind
  have hno : fits = false := Bool.eq_false_iff.mpr (mt hfits hlength)
  rw [hexec, whenRunning_of_running _ hp, State.takeRequest, State.takeFrame_of_free _ hfree, hno]
  rfl

theorem damagedAndUnknownFramesAreAnswered : Claims.DamagedAndUnknownFramesAreAnswered := by
  intro s ⟨hp, hfree⟩ answered
  have answers {c : Instr} {r : Reply} (h : exec c s = whenRunning s fun t => t.takeFrame fun u => (u, r)) :
      exec c s = .next (answered r.kind r.body) := by
    rw [h, whenRunning_of_running _ hp, State.takeFrame_of_free _ hfree]
    rfl
  refine ⟨answers (r := badFrame framingBody) rfl, fun hc => ?gap, fun kind => answers (r := badFrame (checkBody kind)) rfl, fun kind => ?unknown, ?start⟩
  case gap =>
    change execFrameGapTimeout s = _
    rw [execFrameGapTimeout, whenRunning_of_running _ hp, if_pos hc, State.takeFrame_of_free _ hfree]
    rfl
  case unknown => exact answers (r := { kind := kind, body := [resultByte .unknownRequest] }) rfl
  case start =>
    change execFrameStart s = _
    rw [execFrameStart, whenRunning_of_running _ hp]
    rfl

theorem replySentFreesOrReportsOverrun : Claims.ReplySentFreesOrReportsOverrun := by
  intro s hp hreset
  have hexec : exec .replySent s = .next
      (if s.link.reply = none then s
      else if 0 < s.link.overrun then
        s.setLink { s.link with reply := some (badFrame (overrunBody s.link.overrun)), overrun := 0 }
      else s.setLink { s.link with reply := none, busy := false }) := by
    change execReplySent s = _
    rw [execReplySent, whenRunning_of_running _ hp, hreset]
    rfl
  refine ⟨fun hreply hzero => ?_, fun hreply hcount => ?_, fun hnone => ?_⟩
  · rw [hexec, if_neg hreply, if_neg (by omega)]
    rfl
  · rw [hexec, if_neg hreply, if_pos hcount]
    rfl
  · rw [hexec, if_pos hnone]

/-! ### TXD (R197) -/

theorem lineBits_length (b : Byte) : (lineBits b).length = 10 := rfl

/-- The bit times of the i-th of several bytes sent one after the other. -/
theorem getD_flatMap_lineBits (l : List Byte) {i j : Nat} (hj : j < 10) :
    (l.flatMap lineBits).getD (10 * i + j) stopLevel = (l[i]?.map fun b => (lineBits b).getD j stopLevel).getD stopLevel := by
  induction l generalizing i with
  | nil => rfl
  | cons b l ih =>
    rw [List.flatMap_cons]
    cases i with
    | zero =>
      rw [List.getD_append _ _ _ _ (by rw [lineBits_length]; omega), Nat.mul_zero, Nat.zero_add]
      rfl
    | succ i =>
      have hshift : 10 * (i + 1) + j - 10 = 10 * i + j := by omega
      rw [List.getD_append_right _ _ _ _ (by rw [lineBits_length]; omega), lineBits_length, hshift, ih, List.getElem?_cons_succ]

theorem length_flatMap_lineBits (l : List Byte) : (l.flatMap lineBits).length = 10 * l.length := by
  induction l with
  | nil => rfl
  | cons b l ih =>
    rw [List.flatMap_cons, List.length_append, ih, lineBits_length, List.length_cons]
    omega

theorem State.txd_of_reply {s : State} {r : Reply} (hp : s.power = .running) (hr : s.link.reply = some r) (n : Nat) :
    s.txd n = (r.frame.flatMap lineBits).getD n stopLevel := by
  simp only [State.txd, hr, hp, if_true, Reply.levels]

theorem LineByte.ofBits_lineBits (late : Bool) (b : Byte) :
    LineByte.ofBits late (lineBits b) = { byte := b, stopGood := true, late := late } := by
  have hlevels (l : List Bool) : l.foldr (fun b n => b.toNat + 2 * n) 0 = l.foldr (fun b n => (if b = true then 1 else 0) + 2 * n) 0 := by
    congr 1
    funext b n
    cases b <;> rfl
  have hbyte : BitVec.ofNat 8 (((List.range 8).map b.getLsbD).foldr (fun b n => b.toNat + 2 * n) 0) = b := by
    apply BitVec.eq_of_getLsbD_eq
    intro i hi
    rw [hlevels, BitVec.getLsbD_ofNat, testBit_foldr_lowestFirst, decide_eq_true hi, List.getElem?_map, List.getElem?_range hi]
    simp
  change LineByte.mk (BitVec.ofNat 8 (((List.range 8).map b.getLsbD).foldr (fun b n => b.toNat + 2 * n) 0)) true late = _
  rw [hbyte]

theorem txdCarriesTheReply : Claims.TxdCarriesTheReply := by
  refine ⟨fun s r hp hr => ⟨fun i b hb => ?_, fun n hn => ?_⟩, fun s n hr => ?_, fun b late => LineByte.ofBits_lineBits late b⟩
  · have level {j : Nat} (hj : j < 10) : s.txd (10 * i + j) = (lineBits b).getD j stopLevel := by
      rw [State.txd_of_reply hp hr, getD_flatMap_lineBits _ hj, hb]
      rfl
    refine ⟨level (j := 0) (by decide), fun j hj => ?_, level (j := 9) (by decide)⟩
    have hdata : (lineBits b).getD (1 + j) stopLevel = b.getLsbD j := by
      interval_cases j <;> rfl
    rw [Nat.add_assoc, level (by omega), hdata]
  · rw [State.txd_of_reply hp hr, List.getD_eq_default _ _ (by rw [length_flatMap_lineBits]; exact hn)]
    rfl
  · simp only [State.txd, hr]
    rfl

/-- Settles O5. -/
theorem framesMeetTheReceiveBuffer : Obligations.FramesMeetTheReceiveBuffer :=
  ⟨busyBufferCountsAnOverrun, wrongLengthIsOutOfRange, damagedAndUnknownFramesAreAnswered, replySentFreesOrReportsOverrun,
    txdCarriesTheReply⟩

/-! ### Fields, most significant byte first (R210) -/

theorem append_extractLsb' {n m : Nat} (x : BitVec (n + m)) : x.extractLsb' m n ++ x.extractLsb' 0 m = x := by
  apply BitVec.eq_of_getLsbD_eq
  intro i hi
  rw [BitVec.getLsbD_append]
  by_cases h : i < m
  · simp [h]
  · simp [h, show i - m < n by omega, show m + (i - m) = i by omega]

theorem byteAt_append_left {a : List Byte} (b : List Byte) {i : Nat} (h : i < a.length) : byteAt (a ++ b) i = byteAt a i :=
  List.getD_append _ _ _ _ h

theorem byteAt_append_right (a b : List Byte) (i : Nat) : byteAt (a ++ b) (a.length + i) = byteAt b i := by
  rw [byteAt, List.getD_append_right _ _ _ _ (Nat.le_add_right ..), Nat.add_sub_cancel_left]
  rfl

theorem halfAt_append_left {a : List Byte} (b : List Byte) {i : Nat} (h : i + 1 < a.length) : halfAt (a ++ b) i = halfAt a i := by
  rw [halfAt, byteAt_append_left _ (by omega), byteAt_append_left _ h]
  rfl

theorem halfAt_append_right (a b : List Byte) (i : Nat) : halfAt (a ++ b) (a.length + i) = halfAt b i := by
  rw [halfAt, byteAt_append_right, Nat.add_assoc, byteAt_append_right]
  rfl

theorem halfAt_halfBytes (x : Half) (later : List Byte) : halfAt (halfBytes x ++ later) 0 = x := append_extractLsb' (n := 8) (m := 8) x

theorem toNat_halfAt_natHalf {n : Nat} (h : n < 65536) (later : List Byte) : (halfAt (natHalf n ++ later) 0).toNat = n := by
  rw [natHalf, halfAt_halfBytes, BitVec.toNat_ofNat, Nat.mod_eq_of_lt h]

theorem halfBytes_length (x : Half) : (halfBytes x).length = 2 := rfl

theorem natHalf_length (n : Nat) : (natHalf n).length = 2 := rfl

theorem extractLsb'_extractLsb' {w : Nat} (x : BitVec w) {i n j m : Nat} (h : j + m ≤ n) :
    (x.extractLsb' i n).extractLsb' j m = x.extractLsb' (i + j) m := by
  apply BitVec.eq_of_getLsbD_eq
  intro k hk
  simp [hk, show j + k < n by omega, Nat.add_assoc]

theorem halfBytes_extractLsb' {w : Nat} (x : BitVec w) (i : Nat) :
    halfBytes (x.extractLsb' i 16) = [x.extractLsb' (i + 8) 8, x.extractLsb' i 8] := by
  rw [halfBytes, extractLsb'_extractLsb' x (by decide), extractLsb'_extractLsb' x (by decide)]
  rfl

theorem wordBytes_extractLsb' {w : Nat} (x : BitVec w) (i : Nat) : wordBytes (x.extractLsb' i 32)
    = [x.extractLsb' (i + 24) 8, x.extractLsb' (i + 16) 8, x.extractLsb' (i + 8) 8, x.extractLsb' i 8] := by
  rw [wordBytes, extractLsb'_extractLsb' x (by decide), extractLsb'_extractLsb' x (by decide), halfBytes_extractLsb',
    halfBytes_extractLsb']
  rfl

theorem crcShift_eq (r : Half) : crcShift r = if r.getLsbD 15 then (r <<< 1) ^^^ 0x1021 else r <<< 1 := by
  rw [crcShift, BitVec.msb_eq_getLsbD_last]

theorem append_zeroByte (b : Byte) : b ++ (0 : Byte) = (b.zeroExtend 16 <<< 8 : Half) := by
  apply BitVec.eq_of_getLsbD_eq
  intro i hi
  rw [BitVec.getLsbD_append, BitVec.getLsbD_shiftLeft]
  by_cases h : i < 8
  · simp [h]
  · simp [h, hi, show i - 8 < 16 by omega]

theorem bytesGoMostSignificantFirst : Claims.BytesGoMostSignificantFirst := by
  refine ⟨fun x => rfl, fun x => ?word, fun x => ?long, rfl, rfl, rfl, fun bs b => ?crc, fun kind body => rfl⟩
  case word =>
    rw [wordBytes, halfBytes_extractLsb', halfBytes_extractLsb']
    rfl
  case long =>
    rw [longBytes, wordBytes_extractLsb', wordBytes_extractLsb']
    rfl
  case crc =>
    rw [crc16, crc16, List.foldl_append, ← funext crcShift_eq, ← append_zeroByte]
    rfl

theorem kindsNameTheirCommands : Claims.KindsNameTheirCommands := by
  refine fun b => ⟨rfl, fun kind hkind => requestCommand_of_unknown b ?_⟩
  rw [Bool.eq_false_iff, Ne, requestKind_iff]
  rcases hkind with rfl | hkind
  · decide
  · omega

/-! ### Frames byte by byte (R198, R199) -/

theorem linkCommands_hunting (b : LineByte) (bs : List LineByte) :
    linkCommands .hunting (b :: bs) = (hunt b).1 ++ linkCommands (hunt b).2 bs := rfl

theorem linkCommands_collecting (got : List Byte) (b : LineByte) (bs : List LineByte) :
    linkCommands (.collecting got) (b :: bs) = (collect got b).1 ++ linkCommands (collect got b).2 bs := rfl

theorem halfAt_append_of_le (a b : List Byte) (h : 2 ≤ a.length) : halfAt (a ++ b) 0 = halfAt a 0 := halfAt_append_left b h

theorem unfinished_of_append {a b : List Byte} (h : Claims.unfinished (a ++ b)) : Claims.unfinished a := by
  rw [Claims.unfinished, List.length_append] at h
  by_cases hshort : a.length < 2
  · exact .inl hshort
  · rw [halfAt_append_of_le a b (by omega)] at h
    exact .inr (by omega)

/-- A byte in its turn that leaves the frame unfinished is gathered. -/
theorem collect_plain_of_unfinished {got : List Byte} {b : Byte} (h : Claims.unfinished (got ++ [b])) :
    collect got (.plain b) = ([], .collecting (got ++ [b])) := by
  unfold collect LineByte.plain
  simp only [Bool.false_eq_true, Bool.true_eq_false, if_false]
  rcases h with h | ⟨hlow, hhigh, hlength⟩
  · exact if_pos h
  · by_cases hshort : (got ++ [b]).length < 2
    · exact if_pos hshort
    · rw [if_neg hshort, if_neg (by unfold largestLength; omega), if_pos hlength]

theorem linkCommands_gathers (pre rest : List Byte) (later : List LineByte) (h : Claims.unfinished (pre ++ rest)) :
    linkCommands (.collecting pre) (rest.map LineByte.plain ++ later) = linkCommands (.collecting (pre ++ rest)) later := by
  induction rest generalizing pre with
  | nil => rw [List.append_nil]; rfl
  | cons b rest ih =>
    have hsplit : pre ++ b :: rest = pre ++ [b] ++ rest := by simp
    rw [hsplit] at h ⊢
    rw [List.map_cons, List.cons_append, linkCommands_collecting, collect_plain_of_unfinished (unfinished_of_append h)]
    exact ih _ h

theorem linkCommands_start (got : List Byte) (later : List LineByte) (h : Claims.unfinished got) :
    linkCommands .hunting ((0xA5 :: got).map LineByte.plain ++ later) = .frameStart :: linkCommands (.collecting got) later :=
  congrArg _ (linkCommands_gathers [] got later h)

/-- The last byte of a frame whose length field is in range makes it complete. -/
theorem collect_plain_of_complete {got : List Byte} {b : Byte} (hlow : 1 ≤ (halfAt (got ++ [b]) 0).toNat)
    (hhigh : (halfAt (got ++ [b]) 0).toNat ≤ 1025) (hlength : (got ++ [b]).length = (halfAt (got ++ [b]) 0).toNat + 4) :
    collect got (.plain b) = ([frameCommand (got ++ [b])], .hunting) := by
  unfold collect LineByte.plain
  simp only [Bool.false_eq_true, Bool.true_eq_false, if_false]
  rw [if_neg (by omega), if_neg (by unfold largestLength; omega), if_neg (by omega)]

/-- The bytes a frame's check covers: the length of kind and body, the kind, the body (R199). -/
def checkedBytes (kind : Byte) (body : List Byte) : List Byte := natHalf (body.length + 1) ++ kind :: body

theorem checkedBytes_length (kind : Byte) (body : List Byte) : (checkedBytes kind body).length = body.length + 3 := by
  rw [checkedBytes, List.length_append, natHalf_length, List.length_cons]
  omega

theorem frameCommand_checkedBytes (kind : Byte) (body : List Byte) (c : Half) :
    frameCommand (checkedBytes kind body ++ halfBytes c)
      = if c = crc16 (checkedBytes kind body) then requestCommand kind body else .checkMismatch kind := by
  have hlength : (checkedBytes kind body ++ halfBytes c).length - 2 = (checkedBytes kind body).length := by
    rw [List.length_append, halfBytes_length, Nat.add_sub_cancel]
  have hcheck : halfAt (checkedBytes kind body ++ halfBytes c) (checkedBytes kind body).length = c := by
    have h := halfAt_append_right (checkedBytes kind body) (halfBytes c) 0
    rw [Nat.add_zero] at h
    rw [h, ← List.append_nil (halfBytes c), halfAt_halfBytes]
  simp only [frameCommand, hlength, hcheck, List.take_left]
  rfl

/-- A frame of any kind and body, whatever its two check bytes, is read whole. -/
theorem linkCommands_frame (kind : Byte) {body : List Byte} (c : Half) (later : List LineByte) (hbody : body.length ≤ 1024) :
    linkCommands .hunting ((0xA5 :: (checkedBytes kind body ++ halfBytes c)).map LineByte.plain ++ later)
      = .frameStart :: frameCommand (checkedBytes kind body ++ halfBytes c) :: linkCommands .hunting later := by
  have hfield (after : List Byte) : (halfAt (checkedBytes kind body ++ after) 0).toNat = body.length + 1 := by
    rw [checkedBytes, List.append_assoc, toNat_halfAt_natHalf (by omega)]
  have hsplit : checkedBytes kind body ++ halfBytes c = (checkedBytes kind body ++ [c.extractLsb' 8 8]) ++ [c.extractLsb' 0 8] := by
    rw [List.append_assoc]
    rfl
  have hunfinished : Claims.unfinished (checkedBytes kind body ++ [c.extractLsb' 8 8]) := by
    refine .inr ⟨?_, ?_, ?_⟩ <;> rw [hfield]
    · omega
    · omega
    · rw [List.length_append, checkedBytes_length, List.length_singleton]
      omega
  have hcomplete := collect_plain_of_complete (got := checkedBytes kind body ++ [c.extractLsb' 8 8]) (b := c.extractLsb' 0 8)
  rw [← hsplit, hfield] at hcomplete
  rw [hsplit, ← List.cons_append, List.map_append, List.append_assoc, linkCommands_start _ _ hunfinished, List.map_singleton,
    List.singleton_append, linkCommands_collecting, hcomplete (by omega) (by omega) ?length, hsplit]
  · rfl
  case length =>
    rw [List.length_append, checkedBytes_length, halfBytes_length]

theorem framesAreRead : Claims.FramesAreRead := by
  intro kind body later hbody
  have h := linkCommands_frame kind (crc16 (checkedBytes kind body)) later hbody
  rw [frameCommand_checkedBytes, if_pos rfl] at h
  exact h

/-- A length of 0 or above 1 025 is seen at its second byte. -/
theorem collect_plain_of_badLength {a b : Byte} (h : (halfAt [a, b] 0).toNat = 0 ∨ 1025 < (halfAt [a, b] 0).toNat) :
    collect [a] (.plain b) = ([.framingError], .hunting) := by
  unfold collect LineByte.plain
  simp only [Bool.false_eq_true, Bool.true_eq_false, if_false]
  exact (if_neg (Nat.lt_irrefl 2)).trans (if_pos h)

theorem hunt_eq_of_passed {b : LineByte} (h : b.byte ≠ 0xA5 ∨ b.stopGood = false) : hunt b = ([], .hunting) := by
  refine if_neg fun ⟨hbyte, hstop⟩ => ?_
  rcases h with h | h
  · exact h hbyte
  · rw [h] at hstop
    cases hstop

theorem collect_of_badStop {got : List Byte} {b : LineByte} (hlate : b.late = false) (hstop : b.stopGood = false) :
    collect got b = ([.framingError], .hunting) := by
  rw [collect, hlate, hstop]
  rfl

theorem collect_of_late {got : List Byte} {b : LineByte} (hlate : b.late = true) :
    collect got b = (.frameGapTimeout :: (hunt b).1, (hunt b).2) := by
  rw [collect, hlate]
  rfl

theorem damagedFramesAreFound : Claims.DamagedFramesAreFound := by
  unfold Claims.DamagedFramesAreFound
  intro sent
  refine ⟨fun kind body c later hbody => ?mismatch, fun n later hn => ?length, fun got b later hgot => ⟨fun hlate hstop => ?stop,
    fun hlate => ?gap⟩, fun b later h => ?passed⟩
  case mismatch =>
    intro checked hc
    have h := linkCommands_frame kind c later hbody
    rw [frameCommand_checkedBytes] at h
    exact h.trans (congrArg (fun x => Instr.frameStart :: x :: linkCommands .hunting later) (if_neg hc))
  case length =>
    have hbad : (halfAt (halfBytes n) 0).toNat = 0 ∨ 1025 < (halfAt (halfBytes n) 0).toNat := by
      rw [← List.append_nil (halfBytes n), halfAt_halfBytes]
      exact hn
    refine (linkCommands_start [n.extractLsb' 8 8] (.plain (n.extractLsb' 0 8) :: later) (.inl (Nat.lt_succ_self 1))).trans ?_
    rw [linkCommands_collecting, collect_plain_of_badLength hbad]
    rfl
  case stop =>
    refine (linkCommands_start got (b :: later) hgot).trans ?_
    rw [linkCommands_collecting, collect_of_badStop hlate hstop]
    rfl
  case gap =>
    refine (linkCommands_start got (b :: later) hgot).trans ?_
    rw [linkCommands_collecting, collect_of_late hlate]
    rfl
  case passed =>
    rw [linkCommands_hunting, hunt_eq_of_passed h]
    rfl

/-- Settles O55. -/
theorem framesAreReadAsTheirCommands : Obligations.FramesAreReadAsTheirCommands :=
  ⟨bytesGoMostSignificantFirst, by unfold Claims.CodesFollowTable26; decide, kindsNameTheirCommands, framesAreRead,
    damagedFramesAreFound⟩

/-! ### Ring messages byte by byte (R92, R94, R211) -/

theorem wordAt_wordBytes (x : Word) (later : List Byte) : wordAt (wordBytes x ++ later) 0 = x := by
  have hhigh : halfAt (wordBytes x ++ later) 0 = x.extractLsb' 16 16 := halfAt_halfBytes _ (halfBytes (x.extractLsb' 0 16) ++ later)
  have hlow : halfAt (wordBytes x ++ later) 2 = x.extractLsb' 0 16 := halfAt_halfBytes _ later
  rw [wordAt, hhigh, hlow]
  exact append_extractLsb' (n := 16) (m := 16) x

theorem longAt_longBytes (x : BitVec 64) (later : List Byte) : longAt (longBytes x ++ later) 0 = x := by
  have hhigh : wordAt (longBytes x ++ later) 0 = x.extractLsb' 32 32 := wordAt_wordBytes _ (wordBytes (x.extractLsb' 0 32) ++ later)
  have hlow : wordAt (longBytes x ++ later) 4 = x.extractLsb' 0 32 := wordAt_wordBytes _ later
  rw [longAt, hhigh, hlow]
  exact append_extractLsb' (n := 32) (m := 32) x

theorem unreadAt_unreadBytes (x : BitVec 104) (later : List Byte) : unreadAt (unreadBytes x ++ later) 0 = x := by
  have hhigh : longAt (unreadBytes x ++ later) 0 = x.extractLsb' 40 64 := 
    longAt_longBytes _ (wordBytes (x.extractLsb' 8 32) ++ [x.extractLsb' 0 8] ++ later)
  have hmid : wordAt (unreadBytes x ++ later) 8 = x.extractLsb' 8 32 := wordAt_wordBytes _ ([x.extractLsb' 0 8] ++ later)
  have hlow : byteAt (unreadBytes x ++ later) 12 = x.extractLsb' 0 8 := rfl
  have hlast : x.extractLsb' 8 32 ++ x.extractLsb' 0 8 = (x.extractLsb' 0 40 : BitVec (32 + 8)) := by
    have h := append_extractLsb' (n := 32) (m := 8) (x.extractLsb' 0 40)
    rw [extractLsb'_extractLsb' x (by decide), extractLsb'_extractLsb' x (by decide)] at h
    exact h
  rw [unreadAt, hhigh, hmid, hlow, hlast]
  exact append_extractLsb' (n := 64) (m := 40) x

/-- A ring message with a given check (R211). -/
def checkedRing (bs : List Byte) (c : Half) : List Byte := 0x5A :: (bs ++ halfBytes c)

theorem checkedRing_length (bs : List Byte) (c : Half) : (checkedRing bs c).length = bs.length + 3 := by
  rw [checkedRing, List.length_cons, List.length_append, halfBytes_length]

theorem checkedRing_covered (bs : List Byte) (c : Half) :
    ((checkedRing bs c).drop 1).take ((checkedRing bs c).length - 3) = bs := by
  rw [checkedRing_length, Nat.add_sub_cancel]
  exact List.take_left

theorem checkedRing_check (bs : List Byte) (c : Half) : halfAt (checkedRing bs c) ((checkedRing bs c).length - 2) = c := by
  rw [checkedRing_length]
  exact (halfAt_append_right (0x5A :: bs) (halfBytes c) 0).trans (append_extractLsb' (n := 8) (m := 8) c)

theorem ringCommand_of_badCheck {bs : List Byte} {c : Half} (hc : c ≠ crc16 bs) : ringCommand (checkedRing bs c) = .badRingMessage := by
  rw [ringCommand, checkedRing_covered, checkedRing_check]
  exact if_neg hc

/-- With a good check the kind byte tells the message (Table 30). -/
theorem ringCommand_hold {bs : List Byte} {c : Half} (hc : c = crc16 bs) (hk : byteAt (checkedRing bs c) 1 = 0) :
    ringCommand (checkedRing bs c) = .hold (byteAt (checkedRing bs c) 2) (byteAt (checkedRing bs c) 3) (longAt (checkedRing bs c) 4)
      (halfAt (checkedRing bs c) 12) { mark := byteAt (checkedRing bs c) 14, gate := byteAt (checkedRing bs c) 15 } := by
  rw [ringCommand, checkedRing_covered, checkedRing_check, if_pos hc, hk]
  rfl

theorem ringCommand_release {bs : List Byte} {c : Half} {body : ReleaseBody} (hc : c = crc16 bs) (hk : byteAt (checkedRing bs c) 1 = 1)
    (hr : ringRelease (checkedRing bs c) = some body) : ringCommand (checkedRing bs c)
      = .release (byteAt (checkedRing bs c) 2) (byteAt (checkedRing bs c) 3) (longAt (checkedRing bs c) 4) body := by
  rw [ringCommand, checkedRing_covered, checkedRing_check, if_pos hc, hk]
  simp only [hr]
  rfl

theorem ringCommand_release_bad {bs : List Byte} {c : Half} (hc : c = crc16 bs) (hk : byteAt (checkedRing bs c) 1 = 1)
    (hr : ringRelease (checkedRing bs c) = none) : ringCommand (checkedRing bs c) = .badRingMessage := by
  rw [ringCommand, checkedRing_covered, checkedRing_check, if_pos hc, hk]
  simp only [hr]
  rfl

theorem ringCommand_alert {bs : List Byte} {c : Half} {k : EvidenceKind} (hc : c = crc16 bs) (hk : byteAt (checkedRing bs c) 1 = 2)
    (he : decodeIn evidenceList (byteAt (checkedRing bs c) 12) = some k) : ringCommand (checkedRing bs c)
      = .alert (byteAt (checkedRing bs c) 2) (byteAt (checkedRing bs c) 3) (longAt (checkedRing bs c) 4) k
          (byteAt (checkedRing bs c) 13) := by
  rw [ringCommand, checkedRing_covered, checkedRing_check, if_pos hc, hk]
  simp only [he]
  rfl

theorem ringCommand_alert_bad {bs : List Byte} {c : Half} (hc : c = crc16 bs) (hk : byteAt (checkedRing bs c) 1 = 2)
    (he : decodeIn evidenceList (byteAt (checkedRing bs c) 12) = none) : ringCommand (checkedRing bs c) = .badRingMessage := by
  rw [ringCommand, checkedRing_covered, checkedRing_check, if_pos hc, hk]
  simp only [he]
  rfl

theorem ringCommand_census {bs : List Byte} {c : Half} (hc : c = crc16 bs) (hk : byteAt (checkedRing bs c) 1 = 3) :
    ringCommand (checkedRing bs c) = .census (byteAt (checkedRing bs c) 2) (byteAt (checkedRing bs c) 3) := by
  rw [ringCommand, checkedRing_covered, checkedRing_check, if_pos hc, hk]
  rfl

theorem ringRelease_of_releaseBody {m later : List Byte} {body : ReleaseBody} (h : ∀ i, byteAt m (12 + i) = byteAt (releaseBytes body ++ later) i) :
    ringRelease m = some body := by
  have half (i : Nat) : halfAt m (12 + i) = halfAt (releaseBytes body ++ later) i := by
    rw [halfAt, halfAt, h, Nat.add_assoc, h]
  have word (i : Nat) : wordAt m (12 + i) = wordAt (releaseBytes body ++ later) i := by
    rw [wordAt, wordAt, half, Nat.add_assoc, half]
  have unread : unreadAt m (12 + 1) = unreadAt (releaseBytes body ++ later) 1 := by
    rw [unreadAt, unreadAt, longAt, longAt, word, Nat.add_assoc, word, Nat.add_assoc, word, Nat.add_assoc, h]
  unfold ringRelease
  rw [show (12 : Nat) = 12 + 0 from rfl, h]
  cases body with
  | committed counter chain station day minute direction =>
    have hcounter := (half 1).trans (append_extractLsb' (n := 8) (m := 8) counter)
    have hchain := (word 3).trans
      (wordAt_wordBytes chain (halfBytes station ++ halfBytes day ++ halfBytes minute ++ [direction] ++ later))
    have hstation := (half 7).trans (append_extractLsb' (n := 8) (m := 8) station)
    have hday := (half 9).trans (append_extractLsb' (n := 8) (m := 8) day)
    have hminute := (half 11).trans (append_extractLsb' (n := 8) (m := 8) minute)
    have hdirection : byteAt m 25 = direction := h 13
    exact congrArg some (by rw [hcounter, hchain, hstation, hday, hminute, hdirection])
  | dropped x => exact congrArg (some ∘ ReleaseBody.dropped) (unread.trans (unreadAt_unreadBytes x later))
  | uncertain x => exact congrArg (some ∘ ReleaseBody.uncertain) (unread.trans (unreadAt_unreadBytes x later))

theorem decodeIn_codeIn_evidence (k : EvidenceKind) : decodeIn evidenceList (codeIn evidenceList k) = some k := by
  cases k <;> rfl

theorem ringCommand_ringBytes (m : RingMessage) : ringCommand (ringBytes m) = m.command := by
  change ringCommand (checkedRing (ringBody m) (crc16 (ringBody m))) = _
  cases m with
  | hold o h n c x =>
    have hnumber := longAt_longBytes n (halfBytes c ++ [x.mark, x.gate] ++ halfBytes (crc16 (ringBody (.hold o h n c x))))
    have hcounter := halfAt_halfBytes c ([x.mark, x.gate] ++ halfBytes (crc16 (ringBody (.hold o h n c x))))
    refine (ringCommand_hold rfl rfl).trans ?_
    exact congrArg₂ (fun a b => Instr.hold o h a b x) hnumber hcounter
  | release o h n body =>
    have hnumber := longAt_longBytes n (releaseBytes body ++ halfBytes (crc16 (ringBody (.release o h n body))))
    refine (ringCommand_release (body := body) rfl rfl (ringRelease_of_releaseBody (later := halfBytes (crc16 (ringBody (.release o h n body)))) fun i => ?_)).trans ?_
    · exact byteAt_append_right (0x5A :: ([1, o, h] ++ longBytes n)) _ i
    · exact congrArg (fun a => Instr.release o h a body) hnumber
  | alert o h n k b =>
    have hnumber := longAt_longBytes n ([codeIn evidenceList k, b] ++ halfBytes (crc16 (ringBody (.alert o h n k b))))
    refine (ringCommand_alert (bs := ringBody (.alert o h n k b)) rfl rfl (decodeIn_codeIn_evidence k)).trans ?_
    exact congrArg (fun a => Instr.alert o h a k b) hnumber
  | census o h => exact ringCommand_census rfl rfl

/-! ### Ring-in (R94, R211) -/

theorem ringLength_pos {kind : Byte} {n : Nat} (h : ringLength kind = some n) : 0 < n := by
  unfold ringLength at h
  split at h <;> cases h <;> decide

/-- Fuel for every byte is fuel enough. -/
theorem ringCommandsFuel_eq {n m : Nat} {bs : List Byte} (hn : bs.length ≤ n) (hm : bs.length ≤ m) :
    ringCommandsFuel n bs = ringCommandsFuel m bs := by
  induction n generalizing m bs with
  | zero =>
    obtain rfl := List.length_eq_zero_iff.mp (Nat.le_zero.mp hn)
    cases m <;> rfl
  | succ n ih =>
    cases bs with
    | nil => cases m <;> rfl
    | cons b bs =>
      obtain ⟨m, rfl⟩ : ∃ k, m = k + 1 := ⟨m - 1, by rw [List.length_cons] at hm; omega⟩
      rw [List.length_cons] at hn hm
      have rest := ih (bs := bs) (m := m) (by omega) (by omega)
      unfold ringCommandsFuel
      by_cases hb : b = 0x5A
      · rw [if_pos hb, if_pos hb]
        cases bs with
        | nil => rfl
        | cons kind bs =>
          cases hlength : ringLength kind with
          | none => simp only [hlength, rest]
          | some k =>
            have hk := ringLength_pos hlength
            have after := ih (bs := (b :: kind :: bs).drop k) (m := m) (by simp only [List.length_drop, List.length_cons] at *; omega)
              (by simp only [List.length_drop, List.length_cons] at *; omega)
            simp only [hlength, rest, after]
      · rw [if_neg hb, if_neg hb, rest]

theorem ringCommands_of_passed {b : Byte} (later : List Byte) (hb : b ≠ 0x5A) : ringCommands (b :: later) = ringCommands later :=
  if_neg hb

theorem ringCommands_of_unknownKind {kind : Byte} (later : List Byte) (h : ringLength kind = none) :
    ringCommands (0x5A :: kind :: later) = .badRingMessage :: ringCommands (kind :: later) := by
  rw [ringCommands, List.length_cons, ringCommandsFuel, if_pos rfl]
  simp only [h]
  rfl

/-- A whole message is read, and what follows it; a bad one is passed over from the byte after its start byte. -/
theorem ringCommands_checkedRing {bs : List Byte} (c : Half) (later : List Byte) (h : ringLength (byteAt bs 0) = some (bs.length + 3))
    (hbs : bs ≠ []) : ringCommands (checkedRing bs c ++ later)
      = if ringCommand (checkedRing bs c) = .badRingMessage then .badRingMessage :: ringCommands (bs ++ halfBytes c ++ later)
        else ringCommand (checkedRing bs c) :: ringCommands later := by
  obtain ⟨kind, fields, rfl⟩ := List.exists_cons_of_ne_nil hbs
  have hkind : ringLength kind = some ((kind :: fields).length + 3) := h
  have htake : (checkedRing (kind :: fields) c ++ later).take ((kind :: fields).length + 3) = checkedRing (kind :: fields) c :=
    List.take_left' (checkedRing_length _ _)
  have hdrop : (checkedRing (kind :: fields) c ++ later).drop ((kind :: fields).length + 3) = later :=
    List.drop_left' (checkedRing_length _ _)
  have hlength : ¬ (checkedRing (kind :: fields) c ++ later).length < (kind :: fields).length + 3 := by
    rw [List.length_append, checkedRing_length]
    omega
  have hlist : checkedRing (kind :: fields) c ++ later = 0x5A :: kind :: (fields ++ halfBytes c ++ later) := rfl
  have hafter : ringCommandsFuel (kind :: (fields ++ halfBytes c ++ later)).length later = ringCommands later :=
    ringCommandsFuel_eq (by simp only [List.length_cons, List.length_append]; omega) le_rfl
  rw [hlist] at htake hdrop hlength ⊢
  rw [ringCommands, List.length_cons, ringCommandsFuel, if_pos rfl]
  simp only [hkind, htake, hdrop, if_neg hlength, hafter]
  rfl

theorem ringCommands_ringBytes (m : RingMessage) (later : List Byte) :
    ringCommands (ringBytes m ++ later) = m.command :: ringCommands later := by
  have hlength : ringLength (byteAt (ringBody m) 0) = some ((ringBody m).length + 3) := by
    cases m with
    | release o h n body => cases body <;> rfl
    | _ => rfl
  have hne : ringBody m ≠ [] := by cases m <;> nofun
  have hread := ringCommand_ringBytes m
  have hgood : m.command ≠ .badRingMessage := by cases m <;> nofun
  refine (ringCommands_checkedRing (crc16 (ringBody m)) later hlength hne).trans ?_
  change (if ringCommand (ringBytes m) = _ then _ else ringCommand (ringBytes m) :: _) = _
  rw [hread, if_neg hgood]

theorem badRingMessagesAreFound : Claims.BadRingMessagesAreFound := by
  unfold Claims.BadRingMessagesAreFound
  intro bad
  refine ⟨fun kind later hkind => ringCommands_of_unknownKind later ?unknown, fun body c later hshape => ?shaped,
    fun b later hb => ringCommands_of_passed later hb⟩
  case unknown =>
    unfold ringLength
    split
    case h_5 => rfl
    all_goals omega
  case shaped =>
    have hlength : ringLength (byteAt body 0) = some (body.length + 3) := by
      rcases hshape with ⟨h, hl⟩ | ⟨h, hl⟩ | ⟨h, hl⟩ | ⟨h, hl⟩ <;> rw [h, hl] <;> rfl
    have hne : body ≠ [] := by
      rintro rfl
      simp at hshape
    have found (h : ringCommand (checkedRing body c) = .badRingMessage) : bad body c later :=
      (ringCommands_checkedRing c later hlength hne).trans (if_pos h)
    have hbyte {i : Nat} (hi : i < body.length) : byteAt (checkedRing body c) (i + 1) = byteAt body i := byteAt_append_left _ hi
    refine ⟨fun hc => found (ringCommand_of_badCheck hc), fun hk hout => found ?_, fun hk hkind => found ?_⟩
    · by_cases hc : c = crc16 body
      · have hl : body.length = 25 := by
          rcases hshape with ⟨h, -⟩ | ⟨-, hl⟩ | ⟨h, -⟩ | ⟨h, -⟩
          · rw [hk] at h; cases h
          · exact hl
          · rw [hk] at h; cases h
          · rw [hk] at h; cases h
        refine ringCommand_release_bad hc ((hbyte (i := 0) (by omega)).trans hk) ?_
        have h12 : byteAt (checkedRing body c) 12 = byteAt body 11 := hbyte (by omega)
        unfold ringRelease
        rw [h12]
        split
        case h_4 => rfl
        all_goals omega
      · exact ringCommand_of_badCheck hc
    · by_cases hc : c = crc16 body
      · have hl : body.length = 13 := by
          rcases hshape with ⟨h, -⟩ | ⟨h, -⟩ | ⟨-, hl⟩ | ⟨h, -⟩
          · rw [hk] at h; cases h
          · rw [hk] at h; cases h
          · exact hl
          · rw [hk] at h; cases h
        refine ringCommand_alert_bad hc ((hbyte (i := 0) (by omega)).trans hk) ?_
        rw [show byteAt (checkedRing body c) 12 = byteAt body 11 from hbyte (by omega), decodeIn_eq_none_iff]
        exact hkind
      · exact ringCommand_of_badCheck hc

/-- Settles O56. -/
theorem ringMessagesAreReadAsSent : Obligations.RingMessagesAreReadAsSent := by
  refine ⟨ringCommands_ringBytes, ?layout, fun b => by cases b <;> rfl, fun d => by cases d <;> rfl, badRingMessagesAreFound⟩
  exact ⟨fun _ _ _ _ _ => rfl, fun _ _ _ _ _ _ _ _ _ => rfl, fun _ _ _ => rfl, fun _ _ _ => rfl, fun _ _ _ _ _ => rfl,
    fun _ _ => rfl⟩

/-! ### The card image (Table 29) -/

theorem entryBytes_length (e : Option EntryRecord) : (entryBytes e).length = 9 := by cases e <;> rfl

theorem passBytes_length (p : Option Pass) : (passBytes p).length = 5 := by cases p <;> rfl

theorem historySlot_length (h : List Journey) (i : Nat) : (historySlot h i).length = 8 := by
  unfold historySlot
  split <;> rfl

/-- The three slots hold the journeys, then zeros. -/
theorem historySlots_eq {h : List Journey} (hl : h.length ≤ 3) : historySlot h 0 ++ historySlot h 1 ++ historySlot h 2
    = h.flatMap journeyBytes ++ List.replicate (24 - 8 * h.length) 0 := by
  match h with
  | [] => rfl
  | [a] => rfl
  | [a, b] => rfl
  | [a, b, c] => rfl
  | _ :: _ :: _ :: _ :: _ =>
    simp only [List.length_cons] at hl
    omega

/-- Table 29's fields before the entry record, which stand at fixed places. -/
def CardImage.headBytes (c : CardImage) : List Byte :=
  longBytes c.number ++ [c.cls, c.generation, codeIn cardStatusList c.status] ++ wordBytes c.balance
    ++ halfBytes c.counter ++ wordBytes c.chain ++ halfBytes c.spendDay ++ halfBytes c.daySpend

/-- Table 29's trip history: its count and its three slots. -/
def historyBytes (h : List Journey) : List Byte := natByte h.length :: (historySlot h 0 ++ historySlot h 1 ++ historySlot h 2)

theorem historyBytes_length (h : List Journey) : (historyBytes h).length = 25 := by
  simp only [historyBytes, List.length_cons, List.length_append, historySlot_length]

theorem CardImage.toBytes_eq (c : CardImage) :
    c.toBytes = c.headBytes ++ (entryBytes c.entry ++ (historyBytes c.history ++ passBytes c.pass)) := by
  simp only [CardImage.toBytes, CardImage.headBytes, historyBytes, List.append_assoc, List.cons_append]

theorem CardImage.headBytes_length (c : CardImage) : c.headBytes.length = 25 := rfl

theorem CardImage.toBytes_length (c : CardImage) : c.toBytes.length = 64 := by
  rw [CardImage.toBytes_eq, List.length_append, List.length_append, List.length_append, entryBytes_length, historyBytes_length,
    passBytes_length]
  rfl

theorem readEntry_toBytes (c : CardImage) : readEntry c.toBytes = some c.entry := by
  have byte (i : Nat) : byteAt c.toBytes (25 + i) = byteAt (entryBytes c.entry ++ (historyBytes c.history ++ passBytes c.pass)) i := by
    rw [CardImage.toBytes_eq]
    exact byteAt_append_right c.headBytes _ i
  have half (i : Nat) : halfAt c.toBytes (25 + i) = halfAt (entryBytes c.entry ++ (historyBytes c.history ++ passBytes c.pass)) i := by
    rw [halfAt, halfAt, byte, Nat.add_assoc, byte]
  cases he : c.entry with
  | none =>
    rw [he] at byte
    have hpresent : byteAt c.toBytes 25 = 0 := byte 0
    have hmark : readMark (byteAt c.toBytes 25) = some false := by rw [hpresent]; rfl
    simp only [readEntry, hmark]
  | some r =>
    rw [he] at byte half
    have hpresent : byteAt c.toBytes 25 = 1 := byte 0
    have hpresence : readMark (byteAt c.toBytes 25) = some true := by rw [hpresent]; rfl
    have hbyte : byteAt c.toBytes 33 = markByte r.transferMark := byte 8
    have hmark : readMark (byteAt c.toBytes 33) = some r.transferMark := by rw [hbyte]; cases r.transferMark <;> rfl
    have hstation : halfAt c.toBytes 26 = r.station := (half 1).trans (append_extractLsb' (n := 8) (m := 8) r.station)
    have hgate : byteAt c.toBytes 28 = r.gate := byte 3
    have hday : halfAt c.toBytes 29 = r.day := (half 4).trans (append_extractLsb' (n := 8) (m := 8) r.day)
    have hminute : halfAt c.toBytes 31 = r.minute := (half 6).trans (append_extractLsb' (n := 8) (m := 8) r.minute)
    simp only [readEntry, hpresence, hmark, hstation, hgate, hday, hminute]

theorem readPass_toBytes (c : CardImage) : readPass c.toBytes = some c.pass := by
  have hsplit : c.toBytes = (c.headBytes ++ entryBytes c.entry ++ historyBytes c.history) ++ passBytes c.pass := by
    simp only [CardImage.toBytes_eq, List.append_assoc]
  have hlength : (c.headBytes ++ entryBytes c.entry ++ historyBytes c.history).length = 59 := by
    rw [List.length_append, List.length_append, entryBytes_length, historyBytes_length]
    rfl
  have byte (i : Nat) : byteAt c.toBytes (59 + i) = byteAt (passBytes c.pass) i := by
    rw [hsplit, ← hlength]
    exact byteAt_append_right _ _ i
  cases hp : c.pass with
  | none =>
    rw [hp] at byte
    have hpresent : byteAt c.toBytes 59 = 0 := byte 0
    have hmark : readMark (byteAt c.toBytes 59) = some false := by rw [hpresent]; rfl
    simp only [readPass, hmark]
  | some p =>
    rw [hp] at byte
    have hpresent : byteAt c.toBytes 59 = 1 := byte 0
    have hmark : readMark (byteAt c.toBytes 59) = some true := by rw [hpresent]; rfl
    have hlow : byteAt c.toBytes 60 = p.zoneLow := byte 1
    have hhigh : byteAt c.toBytes 61 = p.zoneHigh := byte 2
    have hday : halfAt c.toBytes 62 = p.lastDay := by
      rw [halfAt, byte 3, byte 4]
      exact append_extractLsb' (n := 8) (m := 8) p.lastDay
    simp only [readPass, hmark, hlow, hhigh, hday]

theorem journeyAt_of_split {bs front later : List Byte} {j : Journey} (h : bs = front ++ (journeyBytes j ++ later)) :
    journeyAt bs front.length = j := by
  have half (k : Nat) : halfAt bs (front.length + k) = halfAt (journeyBytes j ++ later) k := by rw [h, halfAt_append_right]
  have hstation : halfAt bs front.length = j.station := (half 0).trans (append_extractLsb' (n := 8) (m := 8) j.station)
  have hday := (half 2).trans (append_extractLsb' (n := 8) (m := 8) j.day)
  have hminute := (half 4).trans (append_extractLsb' (n := 8) (m := 8) j.minute)
  have hfare := (half 6).trans (append_extractLsb' (n := 8) (m := 8) j.fare)
  rw [journeyAt, hstation, hday, hminute, hfare]

theorem journeyAt_toBytes (c : CardImage) {i : Nat} (hi : i < 3) {j : Journey} (h : c.history[i]? = some j) :
    journeyAt c.toBytes (35 + 8 * i) = j := by
  have hslot : historySlot c.history i = journeyBytes j := by simp only [historySlot, h]
  have hfront : (c.headBytes ++ entryBytes c.entry).length = 34 := by
    rw [List.length_append, entryBytes_length]
    rfl
  obtain ⟨front, later, hlength, hsplit⟩ : ∃ front later, front.length = 35 + 8 * i
      ∧ c.toBytes = front ++ (historySlot c.history i ++ later) := by
    have hbytes : c.toBytes = c.headBytes ++ entryBytes c.entry ++ natByte c.history.length :: (historySlot c.history 0
        ++ (historySlot c.history 1 ++ (historySlot c.history 2 ++ passBytes c.pass))) := by
      simp only [CardImage.toBytes_eq, historyBytes, List.append_assoc, List.cons_append]
    have hi : i = 0 ∨ i = 1 ∨ i = 2 := by omega
    rcases hi with rfl | rfl | rfl
    · refine ⟨c.headBytes ++ entryBytes c.entry ++ [natByte c.history.length], _, ?_, hbytes.trans (List.append_cons ..)⟩
      rw [List.length_append, hfront]
      rfl
    · refine ⟨c.headBytes ++ entryBytes c.entry ++ natByte c.history.length :: historySlot c.history 0, _, ?_,
        hbytes.trans (List.append_assoc _ (_ :: _) _).symm⟩
      rw [List.length_append, List.length_cons, hfront, historySlot_length]
    · refine ⟨c.headBytes ++ entryBytes c.entry ++ natByte c.history.length :: (historySlot c.history 0 ++ historySlot c.history 1),
        passBytes c.pass, ?_, hbytes.trans ?_⟩
      · simp only [List.length_append, List.length_cons, CardImage.headBytes_length, entryBytes_length, historySlot_length]
      · simp only [List.append_assoc, List.cons_append]
  rw [hslot] at hsplit
  rw [← hlength]
  exact journeyAt_of_split hsplit

theorem readHistory_toBytes (c : CardImage) (hl : c.history.length ≤ 3) : readHistory c.toBytes = some c.history := by
  have hcount : byteAt c.toBytes 34 = natByte c.history.length := by
    have h := byteAt_append_right (c.headBytes ++ entryBytes c.entry) (historyBytes c.history ++ passBytes c.pass) 0
    rw [List.append_assoc, ← CardImage.toBytes_eq, List.length_append, entryBytes_length] at h
    exact h
  have hnat : (byteAt c.toBytes 34).toNat = c.history.length := by
    rw [hcount, natByte, BitVec.toNat_ofNat, Nat.mod_eq_of_lt (by omega)]
  have journey {i : Nat} (hi : i < 3) {j : Journey} : c.history[i]? = some j → journeyAt c.toBytes (35 + 8 * i) = j :=
    journeyAt_toBytes c hi
  rw [readHistory, hnat, if_pos hl]
  generalize c.history = h at hl journey ⊢
  match h with
  | [] => rfl
  | [a] => rw [journey (i := 0) (by decide) rfl]; rfl
  | [a, b] => rw [journey (i := 0) (by decide) rfl, journey (i := 1) (by decide) rfl]; rfl
  | [a, b, d] =>
    rw [journey (i := 0) (by decide) rfl, journey (i := 1) (by decide) rfl, journey (i := 2) (by decide) rfl]
    rfl
  | _ :: _ :: _ :: _ :: _ =>
    simp only [List.length_cons] at hl
    omega

/-- A field of the first 25 bytes is read from them alone. -/
theorem CardImage.halfAt_toBytes (c : CardImage) {i : Nat} (hi : i < 24) : halfAt c.toBytes i = halfAt c.headBytes i := by
  rw [CardImage.toBytes_eq, halfAt_append_left _ (by rw [CardImage.headBytes_length]; omega)]

theorem CardImage.wordAt_toBytes (c : CardImage) {i : Nat} (hi : i < 22) : wordAt c.toBytes i = wordAt c.headBytes i := by
  rw [wordAt, wordAt, c.halfAt_toBytes (by omega), c.halfAt_toBytes (by omega)]

theorem imageNumber_toBytes (c : CardImage) : imageNumber c.toBytes = c.number := longAt_longBytes c.number []

theorem imageCounter_toBytes (c : CardImage) : imageCounter c.toBytes = c.counter :=
  (c.halfAt_toBytes (by decide)).trans (append_extractLsb' (n := 8) (m := 8) c.counter)

theorem imageChain_toBytes (c : CardImage) : imageChain c.toBytes = c.chain :=
  (c.wordAt_toBytes (by decide)).trans (wordAt_wordBytes c.chain [])

theorem ofBytes_toBytes (c : CardImage) (hl : c.history.length ≤ 3) : CardImage.ofBytes c.toBytes = some c := by
  have hstatus : decodeIn cardStatusList (byteAt c.toBytes 10) = some c.status := by
    have hbyte : byteAt c.toBytes 10 = codeIn cardStatusList c.status := rfl
    rw [hbyte]
    cases c.status <;> rfl
  have hclass : byteAt c.toBytes 8 = c.cls := rfl
  have hgeneration : byteAt c.toBytes 9 = c.generation := rfl
  have hbalance : wordAt c.toBytes 11 = c.balance := (c.wordAt_toBytes (by decide)).trans (wordAt_wordBytes c.balance [])
  have hspendDay : halfAt c.toBytes 21 = c.spendDay :=
    (c.halfAt_toBytes (by decide)).trans (append_extractLsb' (n := 8) (m := 8) c.spendDay)
  have hdaySpend : halfAt c.toBytes 23 = c.daySpend :=
    (c.halfAt_toBytes (by decide)).trans (append_extractLsb' (n := 8) (m := 8) c.daySpend)
  simp only [CardImage.ofBytes, CardImage.toBytes_length, if_true, hstatus, readEntry_toBytes, readHistory_toBytes c hl,
    readPass_toBytes, hclass, hgeneration, imageNumber_toBytes, imageCounter_toBytes, imageChain_toBytes, hbalance, hspendDay, hdaySpend]

/-- Settles O57. -/
theorem cardImagesAreReadAsStaged : Obligations.CardImagesAreReadAsStaged := by
  intro c hl
  refine ⟨?layout, CardImage.toBytes_length c, ofBytes_toBytes c hl, imageNumber_toBytes c, imageCounter_toBytes c, imageChain_toBytes c⟩
  have hstatus : codeIn cardStatusList c.status = if c.status = .active then 0 else 1 := by cases c.status <;> rfl
  have hentry : entryBytes c.entry = match c.entry with
      | some e => 1 :: halfBytes e.station ++ [e.gate] ++ halfBytes e.day ++ halfBytes e.minute ++ [markByte e.transferMark]
      | none => List.replicate 9 0 := by
    cases c.entry <;> rfl
  have hpass : passBytes c.pass = match c.pass with
      | some p => [1, p.zoneLow, p.zoneHigh] ++ halfBytes p.lastDay
      | none => List.replicate 5 0 := by
    cases c.pass <;> rfl
  have hhistory : historyBytes c.history
      = BitVec.ofNat 8 c.history.length :: (c.history.flatMap journeyBytes ++ List.replicate (24 - 8 * c.history.length) 0) := by
    rw [historyBytes, historySlots_eq hl]
    rfl
  rw [CardImage.toBytes_eq, hhistory, CardImage.headBytes, hstatus, hentry, hpass]
  simp only [List.append_assoc, List.cons_append, List.nil_append]
  rfl

end Sys2Proof.Machine
end

section
/-! SUPPORT. Deadlines: the millisecond that passes on an empty queue and the expiries it hands in (R174, R175), and the expiries that end
one thing by itself. -/

namespace Sys2Proof.Machine

-- One declaration at a time: each waiting elaboration thread counts against the memory limit of the one text.
set_option Elab.async false

/-! ### The deadlines the clocks have reached (log entry 7) -/

theorem mem_whenDue {b : Bool} {c d : Instr} : c ∈ whenDue b d ↔ c = d ∧ b = true := by
  cases b <;> simp [whenDue]

theorem due_iff_passed (now : Word) (start : Option Word) (life : Nat) :
    due now start life = true ↔ Claims.passed now start life := due_iff now start life

theorem due_map_iff {α : Type} (now : Word) (x : Option α) (at' : α → Word) (life : Nat) :
    due now (x.map at') life = true ↔ ∃ p, x = some p ∧ life ≤ (now - at' p).toNat := by
  cases x <;> simp [due, reached_iff]

theorem Context.timedOut_iff (c : Context) (now : Word) : c.timedOut now = true
    ↔ c.state = .holding ∧ ∃ start life, c.ringTimer = some (start, life) ∧ life ≤ (now - start).toNat := by
  rw [Context.timedOut, Bool.and_eq_true, decide_eq_true_iff]
  refine and_congr_right' ?_
  cases c.ringTimer with
  | none => simp
  | some x =>
    obtain ⟨start, life⟩ := x
    simp only [reached_iff, Option.some.injEq, Prod.mk.injEq]
    exact ⟨fun h => ⟨_, _, ⟨rfl, rfl⟩, h⟩, by rintro ⟨_, _, ⟨rfl, rfl⟩, h⟩; exact h⟩

theorem toneTime_eq (tone : ShortTone) : toneTime tone = if tone = .accept then 120 else 360 := by cases tone <;> rfl

theorem mem_faceDeadlines (s : State) (f : Face) (c : Instr) : c ∈ s.faceDeadlines f ↔
    (c = .settlingTimeExpiry f ∧ (s.face f).state = .settling ∧ Claims.passed s.now (s.face f).settleStart 20)
    ∨ (c = .pollDue f ∧ ((s.face f).state = .polling ∨ (s.face f).state = .watching) ∧ Claims.passed s.now (s.face f).pollStart 100)
    ∨ (c = .wakeTimeout f ∧ ∃ p, (s.face f).poll = some p ∧ 25 ≤ (s.now - p.sentAt).toNat)
    ∨ (c = .commandTimeout f ∧ ∃ e, (s.face f).exchange = some e ∧ 25 ≤ (s.now - e.sentAt).toNat)
    ∨ (c = .ringTimeout f ∧ (s.context f).state = .holding
        ∧ ∃ start life, (s.context f).ringTimer = some (start, life) ∧ life ≤ (s.now - start).toNat)
    ∨ (c = .shortToneEnd f ∧ ∃ tone t, s.aisle.tones.get f = some (tone, t)
        ∧ (if tone = .accept then 120 else 360) ≤ (s.now - t).toNat) := by
  simp only [State.faceDeadlines, List.mem_append, or_assoc, mem_whenDue, Bool.and_eq_true, decide_eq_true_iff]
  refine or_congr (and_congr_right' (and_congr_right' (due_iff_passed ..))) (or_congr (and_congr_right' (and_congr_right' (due_iff_passed ..)))
    (or_congr (and_congr_right' (due_map_iff ..)) (or_congr (and_congr_right' (due_map_iff ..))
      (or_congr (and_congr_right' (Context.timedOut_iff ..)) ?_))))
  cases s.aisle.tones.get f with
  | none => simp
  | some x =>
    obtain ⟨tone, t⟩ := x
    simp only [mem_whenDue, reached_iff, toneTime_eq, Option.some.injEq, Prod.mk.injEq]
    exact and_congr_right' ⟨fun h => ⟨_, _, ⟨rfl, rfl⟩, h⟩, by rintro ⟨_, _, ⟨rfl, rfl⟩, h⟩; exact h⟩

theorem mem_entryDeadlines (e : SightingEntry) (now : Word) (c : Instr) : c ∈ e.deadlines now ↔
    (c = .peerHoldExpiry e.number ∧ ∃ o t, e.hold = .peer o t ∧ 5000 ≤ (now - t).toNat)
    ∨ (c = .displacedHoldExpiry e.number ∧ ∃ o t, e.displaced = some (o, t) ∧ 5000 ≤ (now - t).toNat) := by
  rw [SightingEntry.deadlines, List.mem_append]
  refine or_congr ?_ ?_
  · cases e.hold <;> simp [mem_whenDue, reached_iff, peerHoldLife]
  · cases e.displaced with
    | none => simp
    | some x =>
      obtain ⟨o, t⟩ := x
      simp only [mem_whenDue, reached_iff, Option.some.injEq, Prod.mk.injEq]
      exact and_congr_right' ⟨fun h => ⟨_, _, ⟨rfl, rfl⟩, h⟩, by rintro ⟨_, _, ⟨rfl, rfl⟩, h⟩; exact h⟩

theorem State.windowPassed_iff (s : State) (e : TearEntry) : s.windowPassed e = true
    ↔ ∃ t q, e.state = .torn t q ∧ s.setup.tearWindow * 1000 ≤ (s.now - t).toNat := by
  unfold State.windowPassed
  cases e.state <;> simp [reached_iff, State.tearWindowMs]

theorem mem_grantDeadlines (e : QueueEntry) (d : Direction) (now : Word) (c : Instr) : c ∈ e.deadlines d now ↔
    ∃ q, c = .grantExpiry d q ∧ ∃ t life, e.state = .granted q t life false ∧ life ≤ (now - t).toNat := by
  unfold QueueEntry.deadlines
  cases e.state with
  | reserved => simp
  | granted q t life deferred => cases deferred <;> simp [mem_whenDue, reached_iff]

theorem mem_beamDeadlines (s : State) (b : Beam) (c : Instr) : c ∈ s.beamDeadlines b ↔
    (c = .beamDebounceExpiry b ∧ Claims.passed s.now (s.aisle.beams.get b).pendingSince 30)
    ∨ (c = .beamStuck b ∧ (s.aisle.beams.get b).blocked = true ∧ (s.aisle.beams.get b).stuck = false
      ∧ 60000 ≤ (s.now - (s.aisle.beams.get b).blockedSince).toNat) := by
  simp only [State.beamDeadlines, List.mem_append, mem_whenDue, due_iff_passed, Bool.and_eq_true, Bool.not_eq_true', reached_iff,
    and_assoc]
  rfl

theorem exists_beam {p : Beam → Prop} : (∃ b, p b) ↔ p .beam1 ∨ p .beam2 ∨ p .beam3 ∨ p .beam4 :=
  ⟨fun ⟨b, h⟩ => by cases b <;> simp [h], by rintro (h | h | h | h) <;> exact ⟨_, h⟩⟩

theorem exists_face {p : Face → Prop} : (∃ f, p f) ↔ p .street ∨ p .paid :=
  ⟨fun ⟨f, h⟩ => by cases f <;> simp [h], by rintro (h | h) <;> exact ⟨_, h⟩⟩

theorem exists_direction {p : Direction → Prop} : (∃ d, p d) ↔ p .entry ∨ p .exit :=
  ⟨fun ⟨d, h⟩ => by cases d <;> simp [h], by rintro (h | h) <;> exact ⟨_, h⟩⟩

theorem mem_aisleDeadlines (s : State) (c : Instr) : c ∈ s.aisleDeadlines
    ∨ (c = .emergencyDebounceExpiry ∧ Claims.passed s.now s.service.emergency.pendingSince 30) ↔ Claims.aisleExpired s c := by
  have hbeams : c ∈ [Beam.beam1, .beam2, .beam3, .beam4].flatMap s.beamDeadlines ↔
      (∃ b, c = .beamDebounceExpiry b ∧ Claims.passed s.now (s.aisle.beams.get b).pendingSince 30)
      ∨ (∃ b, c = .beamStuck b ∧ (s.aisle.beams.get b).blocked = true ∧ (s.aisle.beams.get b).stuck = false
        ∧ 60000 ≤ (s.now - (s.aisle.beams.get b).blockedSince).toNat) := by
    rw [← exists_or, exists_beam]
    simp only [List.mem_flatMap, List.mem_cons, List.not_mem_nil, or_false, exists_eq_or_imp, exists_eq_left, mem_beamDeadlines]
  have hgrants : c ∈ s.aisle.queues.entry.flatMap (fun e => e.deadlines .entry s.now)
        ∨ c ∈ s.aisle.queues.exit.flatMap (fun e => e.deadlines .exit s.now) ↔
      ∃ d q, c = .grantExpiry d q
        ∧ ∃ e ∈ s.aisle.queues.get d, ∃ t life, e.state = .granted q t life false ∧ life ≤ (s.now - t).toNat := by
    rw [exists_direction]
    simp only [List.mem_flatMap, mem_grantDeadlines]
    refine or_congr ?_ ?_ <;>
      exact ⟨fun ⟨e, he, q, hc, h⟩ => ⟨q, hc, e, he, h⟩, fun ⟨q, hc, e, he, h⟩ => ⟨e, he, q, hc, h⟩⟩
  unfold State.aisleDeadlines Claims.aisleExpired
  simp only [List.mem_append, hbeams, mem_whenDue, due_iff_passed, Bool.and_eq_true, decide_eq_true_iff, or_assoc]
  refine or_congr_right (or_congr_right (or_congr_right (or_congr_right (or_congr_right (or_congr_right ?_)))))
  rw [← or_assoc, hgrants]
  refine or_congr_right (or_congr ?_ Iff.rfl)
  cases s.aisle.passageAlarm <;> simp [mem_whenDue, reached_iff, alarmTime]

theorem mem_deadlines (s : State) (c : Instr) : c ∈ s.deadlines ↔ Claims.expired s c := by
  have hface : Claims.faceExpired s c ↔ c ∈ s.faceDeadlines .street ∨ c ∈ s.faceDeadlines .paid := by
    rw [mem_faceDeadlines, mem_faceDeadlines]
    exact exists_face
  have hsightings : c ∈ s.sightings.flatMap (fun e => e.deadlines s.now) ↔
      (∃ e ∈ s.sightings, c = .peerHoldExpiry e.number ∧ ∃ o t, e.hold = .peer o t ∧ 5000 ≤ (s.now - t).toNat)
      ∨ (∃ e ∈ s.sightings, c = .displacedHoldExpiry e.number ∧ ∃ o t, e.displaced = some (o, t) ∧ 5000 ≤ (s.now - t).toNat) := by
    simp only [List.mem_flatMap, mem_entryDeadlines, and_or_left, exists_or]
  have htears : c ∈ s.tears.flatMap (fun e => whenDue (s.windowPassed e) (.tearWindowExpiry e.number)) ↔
      ∃ e ∈ s.tears, c = .tearWindowExpiry e.number
        ∧ ∃ t q, e.state = .torn t q ∧ s.setup.tearWindow * 1000 ≤ (s.now - t).toNat := by
    simp only [List.mem_flatMap, mem_whenDue, State.windowPassed_iff]
  have hcensus : due s.now s.ring.censusStart censusInterval = true ↔ Claims.passed s.now s.ring.censusStart 2000 := due_iff_passed ..
  have hemergency : due s.now s.service.emergency.pendingSince debounceTime = true
      ↔ Claims.passed s.now s.service.emergency.pendingSince 30 := due_iff_passed ..
  rw [Claims.expired, Claims.tableExpired, ← mem_aisleDeadlines, hface]
  simp only [State.deadlines, List.mem_append, mem_whenDue, hsightings, htears, hcensus, hemergency, Bool.and_eq_true,
    decide_eq_true_iff, or_assoc]
  refine or_congr_right (or_congr_right (or_congr_right (or_congr_right (or_congr_right (or_congr_right ?_)))))
  rw [← or_assoc]
  exact or_comm

/-! ### No expiry waits twice -/

/-- The place of a face's expiries in the order in which the deadlines are listed. -/
def faceRank : Face → Nat
  | .street => 0
  | .paid => 6

/-- The place of an expiry's kind in that order. -/
def deadlineRank : Instr → Nat
  | .settlingTimeExpiry f => faceRank f
  | .pollDue f => faceRank f + 1
  | .wakeTimeout f => faceRank f + 2
  | .commandTimeout f => faceRank f + 3
  | .ringTimeout f => faceRank f + 4
  | .shortToneEnd f => faceRank f + 5
  | .censusDue => 12
  | .peerHoldExpiry _ => 13
  | .displacedHoldExpiry _ => 14
  | .tearWindowExpiry _ => 15
  | .beamDebounceExpiry b => 2 * (beamNumber b).toNat + 14
  | .beamStuck b => 2 * (beamNumber b).toNat + 15
  | .limitDebounceExpiry .openLimit => 24
  | .limitDebounceExpiry .closedLimit => 25
  | .travelTimeout => 26
  | .closeDelayExpiry => 27
  | .grantExpiry .entry _ => 28
  | .grantExpiry .exit _ => 29
  | .passageAlarmEnd => 30
  | .watchAlarmEnd => 31
  | .emergencyDebounceExpiry => 32
  | .minuteTick => 33
  | _ => 34

/-- A list without repeats whose expiries have ranks from `low` to below `high`. -/
def Ranked (low high : Nat) (l : List Instr) : Prop := l.Nodup ∧ ∀ c ∈ l, low ≤ deadlineRank c ∧ deadlineRank c < high

theorem Ranked.append {a b c : Nat} {l m : List Instr} (hl : Ranked a b l) (hm : Ranked b c m) (hab : a ≤ b) (hbc : b ≤ c) :
    Ranked a c (l ++ m) := by
  refine ⟨List.nodup_append'.mpr ⟨hl.1, hm.1, fun x hx hy => ?_⟩, fun x hx => ?_⟩
  · have h1 := (hl.2 x hx).2
    have h2 := (hm.2 x hy).1
    omega
  · rcases List.mem_append.mp hx with hx | hx
    · have h := hl.2 x hx
      omega
    · have h := hm.2 x hx
      omega

theorem Ranked.nil (a b : Nat) : Ranked a b [] := ⟨List.nodup_nil, nofun⟩

theorem ranked_whenDue (b : Bool) {c : Instr} {n : Nat} (h : deadlineRank c = n) : Ranked n (n + 1) (whenDue b c) := by
  refine ⟨by cases b <;> simp [whenDue], fun d hd => ?_⟩
  obtain ⟨rfl, -⟩ := mem_whenDue.mp hd
  omega

/-- The expiries of several things that have none in common. -/
theorem ranked_flatMap {α : Type} {l : List α} {f : α → List Instr} {a b : Nat} (hself : ∀ x ∈ l, Ranked a b (f x))
    (hpairs : l.Pairwise fun x y => (f x).Disjoint (f y)) : Ranked a b (l.flatMap f) := by
  refine ⟨List.nodup_flatMap.mpr ⟨fun x hx => (hself x hx).1, hpairs⟩, fun c hc => ?_⟩
  obtain ⟨x, hx, hc⟩ := List.mem_flatMap.mp hc
  exact (hself x hx).2 c hc

theorem ranked_faceDeadlines (s : State) (f : Face) : Ranked (faceRank f) (faceRank f + 6) (s.faceDeadlines f) := by
  have tone : Ranked (faceRank f + 5) (faceRank f + 6) (match s.aisle.tones.get f with
      | some (tone, t) => whenDue (reached s.now t (toneTime tone)) (.shortToneEnd f)
      | none => []) := by
    cases s.aisle.tones.get f with
    | none => exact Ranked.nil _ _
    | some x => exact ranked_whenDue _ rfl
  have next (n : Nat) {l : List Instr} (hl : Ranked (faceRank f) (faceRank f + n) l) (b : Bool) {c : Instr}
      (hc : deadlineRank c = faceRank f + n) : Ranked (faceRank f) (faceRank f + n + 1) (l ++ whenDue b c) :=
    hl.append (ranked_whenDue b hc) (by omega) (by omega)
  exact (next 4 (next 3 (next 2 (next 1 (ranked_whenDue _ rfl) _ rfl) _ rfl) _ rfl) _ rfl).append tone (by omega) (by omega)

theorem ranked_entryDeadlines (e : SightingEntry) (now : Word) : Ranked 13 15 (e.deadlines now) := by
  refine Ranked.append (b := 14) ?_ ?_ (by decide) (by decide)
  · cases e.hold with
    | peer o t => exact ranked_whenDue _ rfl
    | _ => exact Ranked.nil _ _
  · cases e.displaced with
    | none => exact Ranked.nil _ _
    | some x => exact ranked_whenDue _ rfl

theorem ranked_sightingDeadlines {l : List SightingEntry} (now : Word) (h : (l.map (·.number)).Nodup) :
    Ranked 13 15 (l.flatMap fun e => e.deadlines now) := by
  refine ranked_flatMap (fun e _ => ranked_entryDeadlines e now) ((List.pairwise_map.mp h).imp fun {x y} hne c hx hy => ?_)
  rcases (mem_entryDeadlines x now c).mp hx with ⟨rfl, -⟩ | ⟨rfl, -⟩
  · rcases (mem_entryDeadlines y now _).mp hy with ⟨he, -⟩ | ⟨he, -⟩
    · exact hne (Instr.peerHoldExpiry.inj he)
    · cases he
  · rcases (mem_entryDeadlines y now _).mp hy with ⟨he, -⟩ | ⟨he, -⟩
    · cases he
    · exact hne (Instr.displacedHoldExpiry.inj he)

theorem ranked_tearDeadlines (s : State) (h : (s.tears.map (·.number)).Nodup) :
    Ranked 15 16 (s.tears.flatMap fun e => whenDue (s.windowPassed e) (.tearWindowExpiry e.number)) := by
  refine ranked_flatMap (fun e _ => ranked_whenDue _ rfl) ((List.pairwise_map.mp h).imp fun {x y} hne c hx hy => ?_)
  obtain ⟨rfl, -⟩ := mem_whenDue.mp hx
  obtain ⟨he, -⟩ := mem_whenDue.mp hy
  injection he with he
  exact hne he

/-- A grant's expiry names its sequence. -/
theorem sequence_of_mem_grantDeadlines {e : QueueEntry} {d : Direction} {now : Word} {c : Instr} (h : c ∈ e.deadlines d now) :
    ∃ q, e.sequence = some q ∧ c = .grantExpiry d q := by
  obtain ⟨q, hc, t, life, he, -⟩ := (mem_grantDeadlines e d now c).mp h
  exact ⟨q, by rw [QueueEntry.sequence, he], hc⟩

theorem ranked_grantDeadlines {l : List QueueEntry} (d : Direction) (now : Word) (h : (l.filterMap QueueEntry.sequence).Nodup)
    {n : Nat} (hn : ∀ q, deadlineRank (.grantExpiry d q) = n) : Ranked n (n + 1) (l.flatMap fun e => e.deadlines d now) := by
  refine ranked_flatMap (fun e _ => ?_) ((List.pairwise_filterMap.mp h).imp fun {x y} hne c hx hy => ?_)
  · unfold QueueEntry.deadlines
    cases e.state with
    | reserved => exact Ranked.nil _ _
    | granted q t life deferred =>
      cases deferred with
      | true => exact Ranked.nil _ _
      | false => exact ranked_whenDue _ (hn q)
  · obtain ⟨q, hq, rfl⟩ := sequence_of_mem_grantDeadlines hx
    obtain ⟨r, hr, he⟩ := sequence_of_mem_grantDeadlines hy
    injection he with _ he
    exact hne q hq r hr he

theorem ranked_beamDeadlines (s : State) (b : Beam) {n : Nat} (hn : n = 2 * (beamNumber b).toNat + 14) :
    Ranked n (n + 2) (s.beamDeadlines b) := by
  subst hn
  exact Ranked.append (ranked_whenDue _ rfl) (ranked_whenDue _ rfl) (Nat.le_succ _) (Nat.le_succ _)

theorem ranked_aisleDeadlines (s : State) (h : ∀ d, ((s.aisle.queues.get d).filterMap QueueEntry.sequence).Nodup) :
    Ranked 16 32 s.aisleDeadlines := by
  have beams : Ranked 16 24 ([Beam.beam1, .beam2, .beam3, .beam4].flatMap s.beamDeadlines) :=
    (ranked_beamDeadlines s .beam1 rfl).append ((ranked_beamDeadlines s .beam2 rfl).append ((ranked_beamDeadlines s .beam3 rfl).append
      ((ranked_beamDeadlines s .beam4 rfl).append (Ranked.nil 24 24) (by decide) (by decide)) (by decide) (by decide)) (by decide)
      (by decide)) (by decide) (by decide)
  have alarm : Ranked 30 31 (match s.aisle.passageAlarm with
      | .since t => whenDue (reached s.now t alarmTime) .passageAlarmEnd
      | _ => []) := by
    cases s.aisle.passageAlarm with
    | since t => exact ranked_whenDue _ rfl
    | _ => exact Ranked.nil _ _
  exact (((((((beams.append (ranked_whenDue _ rfl) (by decide) (by decide)).append (ranked_whenDue _ rfl) (by decide) (by decide)).append
    (ranked_whenDue _ rfl) (by decide) (by decide)).append (ranked_whenDue _ rfl) (by decide) (by decide)).append
    (ranked_grantDeadlines .entry s.now (h .entry) fun _ => rfl) (by decide) (by decide)).append
    (ranked_grantDeadlines .exit s.now (h .exit) fun _ => rfl) (by decide) (by decide)).append alarm (by decide) (by decide)).append
    (ranked_whenDue _ rfl) (by decide) (by decide)

theorem nodup_deadlines (s : State) (hsightings : (s.sightings.map (·.number)).Nodup) (htears : (s.tears.map (·.number)).Nodup)
    (hgrants : ∀ d, ((s.aisle.queues.get d).filterMap QueueEntry.sequence).Nodup) : s.deadlines.Nodup := by
  have faces : Ranked 0 12 (s.faceDeadlines .street ++ s.faceDeadlines .paid) :=
    (ranked_faceDeadlines s .street).append (ranked_faceDeadlines s .paid) (by decide) (by decide)
  exact ((((((faces.append (ranked_whenDue _ rfl) (by decide) (by decide)).append (ranked_sightingDeadlines s.now hsightings) (by decide)
    (by decide)).append (ranked_tearDeadlines s htears) (by decide) (by decide)).append (ranked_aisleDeadlines s hgrants) (by decide)
    (by decide)).append (ranked_whenDue _ rfl) (by decide) (by decide)).append (ranked_whenDue _ rfl) (by decide) (by decide)).1

/-- Settles O3: the queue is the list of the deadlines reached, in a free order. -/
theorem emptyQueueLetsAMillisecondPass : Obligations.EmptyQueueLetsAMillisecondPass := by
  intro s hempty hp k later
  have hstep : step s = .next s.millisecond := by
    unfold step
    rw [hempty]
  have hperm := freelyOrdered_perm s.freeCount later.deadlines
  refine ⟨freelyOrdered s.freeCount later.deadlines, s.freeCount + later.deadlines.length, hstep.trans ?_,
    fun c => hperm.mem_iff.trans (mem_deadlines later c), fun h1 h2 h3 => hperm.nodup_iff.mpr (nodup_deadlines later h1 h2 h3)⟩
  exact congrArg _ (if_pos hp)

end Sys2Proof.Machine
end

section
/-! SUPPORT. How a transaction ends (sections 2.6, 2.7, 2.9 and 2.10): each part of an end as one update of the state, and the REFUSED and
ABANDONED ends put together from them. -/

namespace Sys2Proof.Machine

-- One declaration at a time: each waiting elaboration thread counts against the memory limit of the one text.
set_option Elab.async false

/-! ### The ring-out queue, the lock and the place (R94, R152, R156) -/

theorem State.send_eq (s : State) (m : RingMessage) : s.send m = { s with ring := Claims.joined s.ring m } := by
  unfold State.send Claims.joined
  by_cases h : s.ringRoom = true
  · rw [if_pos h, if_pos (s.ringRoom_iff.mp h)]
    rfl
  · rw [if_neg h, if_neg (mt s.ringRoom_iff.mpr h)]

theorem State.sendDropped_eq (s : State) (f : Face) : s.sendDropped f = { s with
    ring := if (s.context f).holdSent then Claims.joined s.ring (.release s.gate 0 (s.context f).number (.dropped 0)) else s.ring } := by
  unfold State.sendDropped
  split
  · exact State.send_eq s _
  · rfl

theorem Aisle.checkLock_eq (a : Aisle) : a.checkLock = { a with
    lock := if a.mode = .bidirectional ∧ a.queues.entry = [] ∧ a.queues.exit = [] ∧ a.clear = true then .unlocked else a.lock } := by
  unfold Aisle.checkLock
  split <;> rfl

theorem Claims.placeGivenUp_of_held {s : State} {f : Face} (h : (s.context f).reservation = .held) :
    s.dropReserved f = { s with aisle := Claims.placeGivenUp s f } := by
  unfold Claims.placeGivenUp
  rw [if_pos h, State.dropReserved, State.checkLock, Aisle.checkLock_eq]
  rfl

theorem Claims.placeGivenUp_of_not_held {s : State} {f : Face} (h : (s.context f).reservation ≠ .held) :
    Claims.placeGivenUp s f = s.aisle := if_neg h

theorem State.dropReservation_eq (s : State) (f : Face) : s.dropReservation f = { s with
    aisle := Claims.placeGivenUp s f
    contexts := s.contexts.set f { s.context f with
      reservation := if (s.context f).reservation = .held then .noPlace else (s.context f).reservation } } := by
  unfold State.dropReservation
  by_cases h : (s.context f).reservation = .held
  · rw [if_pos h, if_pos h, Claims.placeGivenUp_of_held h]
    rfl
  · rw [if_neg h, if_neg h, Claims.placeGivenUp_of_not_held h]
    exact (s.setContext_self f).symm

theorem State.removeReservation_eq (s : State) (f : Face) : s.removeReservation f = { s with
    aisle := Claims.placeGivenUp s f
    contexts := s.contexts.set f { s.context f with
      reservation := if (s.context f).reservation = .held then .removed else (s.context f).reservation } } := by
  unfold State.removeReservation
  by_cases h : (s.context f).reservation = .held
  · rw [if_pos h, if_pos h, Claims.placeGivenUp_of_held h]
    rfl
  · rw [if_neg h, if_neg h, Claims.placeGivenUp_of_not_held h]
    exact (s.setContext_self f).symm

/-! ### The own hold and the own-block mark (R89, R121) -/

/-- What a release of the own hold of face `f` makes of the table, from what it reads alone. -/
def sightingsReleased (l : List SightingEntry) (f : Face) (c o : Context) (now : Word) : List SightingEntry :=
  if c.ownHold && c.holdsEntry then
    match findSighting l c.number with
    | some e =>
      if e.hold = .own f then touchSighting l (if o.holds c.number then { e with hold := .own f.other } else e.endOwn now) else l
    | none => l
  else l

theorem State.releaseOwnHold_eq (s : State) (f : Face) : s.releaseOwnHold f = { s with
    sightings := sightingsReleased s.sightings f (s.context f) (s.context f.other) s.now
    contexts := s.contexts.set f { s.context f with ownHold := false, holdsEntry := false } } := by
  unfold State.releaseOwnHold sightingsReleased
  by_cases hown : ((s.context f).ownHold && (s.context f).holdsEntry) = true
  · rw [if_pos hown, if_pos hown]
    cases findSighting s.sightings (s.context f).number with
    | none => rfl
    | some e =>
      by_cases he : e.hold = .own f
      · simp only [if_pos he]
        split <;> rfl
      · simp only [if_neg he]
        rfl
  · rw [if_neg hown, if_neg hown]
    rfl

theorem CtxState.admittedOpen_iff (st : CtxState) : st.admittedOpen = true
    ↔ st ∈ [CtxState.admitted, .reading, .proving, .holding, .deciding, .staging, .settling, .confirming] := by
  cases st <;> decide

theorem Context.blocking_iff (c : Context) (n : CardNumber) : c.blocking n = true ↔ c.blockPath = true
    ∧ c.state ∈ [CtxState.admitted, .reading, .proving, .holding, .deciding, .staging, .settling, .confirming] ∧ c.number = n := by
  rw [Context.blocking, Bool.and_eq_true, Bool.and_eq_true, decide_eq_true_iff, CtxState.admittedOpen_iff, and_assoc]

theorem State.endBlockMark_eq (s : State) (f : Face) : s.endBlockMark f = { s with hotlist := Claims.markEnded s f } := by
  have hother : (s.context f.other).blocking (s.context f).number = false ↔ ¬ ((s.context f.other).blockPath = true
      ∧ (s.context f.other).state ∈ [CtxState.admitted, .reading, .proving, .holding, .deciding, .staging, .settling, .confirming]
      ∧ (s.context f.other).number = (s.context f).number) := by
    rw [← Context.blocking_iff, Bool.not_eq_true]
  unfold State.endBlockMark Claims.markEnded
  simp only [hother]
  split <;> rfl

/-! ### The clean-up (R44) -/

/-- The clean-up of R44: the place, the own hold and the own-block mark go, and a HOLD sent is followed by RELEASE DROPPED. -/
theorem State.cleanUp_eq (s : State) (f : Face) : s.cleanUp f = { s with
    aisle := Claims.placeGivenUp s f
    sightings := (s.releaseOwnHold f).sightings
    ring := if (s.context f).holdSent then Claims.joined s.ring (.release s.gate 0 (s.context f).number (.dropped 0)) else s.ring
    hotlist := Claims.markEnded s f
    contexts := s.contexts.set f { s.context f with
      reservation := if (s.context f).reservation = .held then .noPlace else (s.context f).reservation
      ownHold := false, holdsEntry := false } } := by
  unfold State.cleanUp
  rw [State.endBlockMark_eq, State.sendDropped_eq, State.releaseOwnHold_eq, State.dropReservation_eq, State.releaseOwnHold_eq s]
  cases f <;> rfl

/-! ### The transaction record (R50, R125, R139) -/

theorem State.fillWatchSequence_eq (s : State) (f : Face) (q : Word) : s.fillWatchSequence f q = { s with watch := { s.watch with
    status := s.watch.status.map fun x => if x.face = f ∧ x.sequence = none then { x with sequence := some q } else x } } := by
  unfold State.fillWatchSequence
  cases h : s.watch.status with
  | none =>
    have : s.watch = { s.watch with status := none } := by rw [← h]
    exact congrArg (fun w => ({ s with watch := w } : State)) this
  | some x =>
    by_cases hx : x.face = f ∧ x.sequence = none
    · simp only [if_pos hx, Option.map_some]
    · have : s.watch = { s.watch with status := some x } := by rw [← h]
      simp only [if_neg hx, Option.map_some]
      exact congrArg (fun w => ({ s with watch := w } : State)) this

theorem Claims.flagsAfter_eq (s : State) (f : Face) (n : Nat) : Claims.flagsAfter s f n
    = { s.service.flags.afterRecords n s.freeSlots with clone := s.service.flags.clone || (s.context f).late.isSome } := rfl

/-- A spare record: written when more slots are free than the obligations. -/
theorem State.appendSpare_eq (s : State) (k : RecordKind) (f : Face) (x : RecordFields) :
    s.appendSpare k f x = s.appendAll (if s.obligations < s.freeSlots then [(k, s.stamp, f, x)] else []) := by
  unfold State.appendSpare
  split <;> rfl

/-- The LATE_ALERT draft of a late finding, with the sequence of the transaction record before it. -/
def lateAlertDraft (s : State) (f : Face) (k : EvidenceKind) (q : Word) : Draft :=
  (.lateAlert, s.stamp, f,
    { RecordFields.blank with number := some (s.context f).number, evidence := some k, reference := some q })

theorem Claims.lateAlerts_eq (s : State) (f : Face) (owed : Nat) : Claims.lateAlerts s f owed = match (s.context f).late with
    | some k => if owed < 1024 - (s.journal.records.length + 1) then
        [(lateAlertDraft s f k s.journal.next).record (nextSequence s.journal.next)] else []
    | none => [] := by
  unfold Claims.lateAlerts
  cases (s.context f).late <;> rfl

/-- The part with a transaction record written and its context in its next state, the late finding not yet reported. -/
def State.recorded (s : State) (f : Face) (o : TxOutcome) (x : RecordFields) (next : CtxState) : State := { s with
  journal := s.journal.with (.transaction o) s.stamp f x
  watch := { s.watch with status := Claims.statusAfter s f }
  service := { s.service with flags := s.service.flags.afterRecord s.freeSlots }
  contexts := s.contexts.set f { s.context f with state := next } }

theorem State.closeRecord_of_noFinding {s : State} {f : Face} (o : TxOutcome) (x : RecordFields) (next : CtxState)
    (h : (s.context f).late = none) : s.closeRecord f o x next = s.recorded f o x next := by
  unfold State.closeRecord
  simp only [h, State.append_eq, State.fillWatchSequence_eq]
  rfl

theorem State.closeRecord_of_finding {s : State} {f : Face} {k : EvidenceKind} (o : TxOutcome) (x : RecordFields) (next : CtxState)
    (h : (s.context f).late = some k) :
    s.closeRecord f o x next = (s.recorded f o x next).lateAlert f k s.journal.next := by
  unfold State.closeRecord
  simp only [h, State.append_eq, State.fillWatchSequence_eq]
  rfl

theorem State.lateAlert_eq (s : State) (f : Face) (k : EvidenceKind) (q : Word) : s.lateAlert f k q
    = (s.appendAll (if s.obligations < s.freeSlots then [lateAlertDraft s f k q] else [])).raise .clone := by
  rw [State.lateAlert, State.appendSpare_eq]
  rfl

/-- A transaction record with what follows it: the watch status, the late finding and the flags (R50, R125, R139). -/
theorem State.closeRecord_eq (s : State) (f : Face) (o : TxOutcome) (x : RecordFields) (next : CtxState) {late : List Record}
    (hlate : Claims.lateAlerts s f (s.recorded f o x next).obligations = late) :
    s.closeRecord f o x next = { s.recorded f o x next with
      journal :=
        { records := s.journal.records
            ++ { sequence := s.journal.next, kind := .transaction o, stamp := s.stamp, face := f, fields := x } :: late
          next := Claims.nextAfter (1 + late.length) s.journal.next }
      service := { s.service with flags := Claims.flagsAfter s f (1 + late.length) } } := by
  subst hlate
  have hfree : (s.recorded f o x next).freeSlots = 1024 - (s.journal.records.length + 1) := by
    simp only [State.freeSlots, State.recorded, Journal.with, List.length_append, List.length_singleton]
    rfl
  cases hl : (s.context f).late with
  | none =>
    have hnone : Claims.lateAlerts s f (s.recorded f o x next).obligations = [] := by simp only [Claims.lateAlerts, hl]
    have hflags : Claims.flagsAfter s f 1 = s.service.flags.afterRecord s.freeSlots := by
      simp [Claims.flagsAfter, hl, FlagSet.afterRecord]
    rw [hnone, State.closeRecord_of_noFinding o x next hl]
    simp only [List.length_nil, Nat.add_zero, hflags]
    rfl
  | some k =>
    set t := s.recorded f o x next with ht
    set drafts : List Draft := if t.obligations < t.freeSlots then [lateAlertDraft t f k s.journal.next] else [] with hdrafts
    have hsome : Claims.lateAlerts s f t.obligations = recordsFrom t.journal.next drafts := by
      rw [hdrafts, hfree, Claims.lateAlerts]
      simp only [hl]
      split
      · cases f <;> rfl
      · rfl
    have hlength : (recordsFrom t.journal.next drafts).length = drafts.length := List.length_mapIdx ..
    have hnext : Claims.nextAfter (1 + drafts.length) s.journal.next = Claims.nextAfter drafts.length t.journal.next := by
      rw [Nat.add_comm, Claims.nextAfter_succ]
      rfl
    have hslots : t.freeSlots = s.freeSlots - 1 := State.freeSlots_of_journal rfl
    have hflags : (t.service.flags.afterRecords drafts.length t.freeSlots).raise .clone
        = Claims.flagsAfter s f (1 + drafts.length) := by
      rw [Claims.flagsAfter_eq, Nat.add_comm, FlagSet.afterRecords_succ, ← hslots, hl, Option.isSome_some, Bool.or_true]
      rfl
    rw [hsome, State.closeRecord_of_finding o x next hl, State.lateAlert_eq, State.appendAll_eq, hlength, hnext, ← hflags]
    have hrecords : t.journal.records ++ recordsFrom t.journal.next drafts = s.journal.records
        ++ { sequence := s.journal.next, kind := .transaction o, stamp := s.stamp, face := f, fields := x }
          :: recordsFrom t.journal.next drafts := List.append_assoc _ [_] _
    rw [hrecords]
    rfl

/-! ### A transaction that is done (R3, R7, R165) -/

theorem Claims.tonesAfter_eq (s : State) (f : Face) (tone : ShortTone) :
    s.askTone f tone = { s with aisle := { s.aisle with tones := Claims.tonesAfter s f tone } } := by
  rw [State.askTone_eq, Claims.tonesAfter]
  split <;> rfl

theorem Claims.placeGivenUp_eq (s : State) (f : Face) : Claims.placeGivenUp s f = { s.aisle with
    queues := (Claims.placeGivenUp s f).queues, lock := (Claims.placeGivenUp s f).lock } := by
  unfold Claims.placeGivenUp
  split <;> rfl

theorem Claims.tonesAfter_of_placeGivenUp {s t : State} {g : Face} (f : Face) (tone : ShortTone) (hnow : t.now = s.now)
    (haisle : t.aisle = Claims.placeGivenUp s g) : Claims.tonesAfter t f tone = Claims.tonesAfter s f tone := by
  rw [Claims.tonesAfter, Claims.tonesAfter, hnow, haisle, Claims.placeGivenUp_eq]

/-- The context a transaction leaves behind: at rest in IDLE, else in a state that waits for the card's removal. -/
def concludedContext (c : Context) (st : CtxState) (ind : Indication) : Context :=
  if st = .idle then Context.idle else { c with state := st, indication := ind }

/-- What becomes of a face whose context is done: one that is not SERVING closes its exchange alone (R3, R7). -/
def faceLeft (u : FaceUnit) (now : Word) (idle : Bool) : FaceUnit :=
  if u.state = .serving then Claims.faceAfter u now idle else { u with exchange := none }

/-- What becomes of the context: a field-off request pending on its SERVING face counts as its card's removal (R3, R49). -/
def contextLeft (u : FaceUnit) (rest : Context) : Context := if u.state = .serving then Claims.contextAfter u rest else rest

theorem State.leaveServing_of_not_serving {s : State} {f : Face} (hs : (s.face f).state ≠ .serving) :
    s.leaveServing f = s.closeExchange f := if_neg hs

theorem State.conclude_eq (s : State) (f : Face) {st : CtxState} (ind : Indication) (tone : ShortTone)
    (hst : st = .idle ∨ st = .removalWait ∨ st = .refusedShown) :
    s.conclude f st ind (some tone) = { s with
      contexts := s.contexts.set f (contextLeft (s.face f) (concludedContext (s.context f) st ind))
      aisle := { s.aisle with tones := Claims.tonesAfter s f tone }
      faces := s.faces.set f (faceLeft (s.face f) s.now (decide (st = .idle))) } := by
  have hc : concludedContext (s.context f) st ind = Context.idle ∨ (concludedContext (s.context f) st ind).state = .removalWait
      ∨ (concludedContext (s.context f) st ind).state = .refusedShown := by
    rcases hst with rfl | rfl | rfl
    · exact .inl rfl
    · exact .inr (.inl rfl)
    · exact .inr (.inr rfl)
  have hstate : decide ((concludedContext (s.context f) st ind).state = .idle) = decide (st = .idle) := by
    rcases hst with rfl | rfl | rfl <;> rfl
  have hdone : s.conclude f st ind (some tone)
      = ((s.setContext f (concludedContext (s.context f) st ind)).askTone f tone).leaveServing f := rfl
  rw [hdone, Claims.tonesAfter_eq, ← hstate]
  generalize concludedContext (s.context f) st ind = d at hc ⊢
  have hd : (s.setContext f d).context f = d := State.setContext_context ..
  by_cases hs : (s.face f).state = .serving
  · rw [State.leaveServing_eq (by exact hs) (by exact hd.symm ▸ hc), faceLeft, contextLeft, if_pos hs, if_pos hs]
    cases f <;> rfl
  · rw [State.leaveServing_of_not_serving (by exact hs), faceLeft, contextLeft, if_neg hs, if_neg hs]
    cases f <;> rfl

/-! ### REFUSED and ABANDONED (R44, R50) -/

/-- What an end leaves once the clean-up is done, its record written and the context gone. -/
theorem State.ended_eq (s : State) (f : Face) {o : TxOutcome} {x : RecordFields} {st : CtxState} (ind : Indication) {rest : Context}
    (hst : st = .idle ∨ st = .refusedShown)
    (hrest : concludedContext { s.context f with
        ownHold := false, holdsEntry := false
        reservation := if (s.context f).reservation = .held then .noPlace else (s.context f).reservation } st ind = rest) :
    ((s.cleanUp f).closeRecord f o x st).conclude f st ind (some .refuse) = { Claims.ended s f o x rest (decide (st = .idle)) with
      contexts := s.contexts.set f (contextLeft (s.face f) rest)
      faces := s.faces.set f (faceLeft (s.face f) s.now (decide (st = .idle))) } := by
  subst hrest
  have hlate : Claims.lateAlerts (s.cleanUp f) f ((s.cleanUp f).recorded f o x st).obligations = Claims.lateAlerts s f
      ({ s with aisle := Claims.placeGivenUp s f, contexts := s.contexts.set f Context.idle } : State).obligations := by
    have howed : ((s.cleanUp f).recorded f o x st).obligations
        = ({ s with aisle := Claims.placeGivenUp s f, contexts := s.contexts.set f Context.idle } : State).obligations := by
      rw [State.cleanUp_eq]
      rcases hst with rfl | rfl <;> cases f <;> rfl
    rw [howed, State.cleanUp_eq]
    cases f <;> rfl
  rw [State.closeRecord_eq _ _ _ _ _ hlate, State.cleanUp_eq, State.conclude_eq _ f ind .refuse (hst.imp_right Or.inr),
    Claims.tonesAfter_of_placeGivenUp (s := s) (g := f) f .refuse ?now ?aisle]
  · cases f <;> rfl
  case now => rfl
  case aisle => rfl

/-- The context once its transaction has ended REFUSED with the reason `r`. -/
def refusedContext (c : Context) (r : Reason) : Context := { c with
  state := .refusedShown
  indication := if c.recordEvidence ≠ none ∨ r = .watchDetain then .attend else .stop
  ownHold := false, holdsEntry := false
  reservation := if c.reservation = .held then .noPlace else c.reservation }

theorem State.endRefused_eq (s : State) (f : Face) (r : Reason) : s.endRefused f r
    = { Claims.ended s f .refused ((s.context f).refusedFields r) (refusedContext (s.context f) r) false with
      contexts := s.contexts.set f (contextLeft (s.face f) (refusedContext (s.context f) r))
      faces := s.faces.set f (faceLeft (s.face f) s.now false) } := by
  have hfields : ((s.cleanUp f).context f).refusedFields r = (s.context f).refusedFields r := by
    rw [State.cleanUp_eq]
    cases f <;> rfl
  have hind : (if ((s.context f).refusedFields r).evidence.isSome ∨ r = .watchDetain then Indication.attend else .stop)
      = if (s.context f).recordEvidence ≠ none ∨ r = .watchDetain then .attend else .stop := by
    simp only [Context.refusedFields, Option.isSome_iff_ne_none]
  have hend : s.endRefused f r = ((s.cleanUp f).closeRecord f .refused (((s.cleanUp f).context f).refusedFields r)
      .refusedShown).conclude f .refusedShown
      (if (((s.cleanUp f).context f).refusedFields r).evidence.isSome ∨ r = .watchDetain then Indication.attend else .stop)
      (some .refuse) := rfl
  rw [hend, hfields, hind]
  exact State.ended_eq s f _ (.inr rfl) rfl

/-- The fields of an ABANDONED record (R50). -/
def abandonedFields (c : Context) : RecordFields := { RecordFields.blank with
  number := some c.number, cls := some c.cls, watchUnits := c.watchUnits, bypassed := c.bypassed }

theorem State.endAbandoned_eq (s : State) (f : Face) : s.endAbandoned f
    = { Claims.ended s f .abandoned (abandonedFields (s.context f)) Context.idle true with
      contexts := s.contexts.set f (contextLeft (s.face f) Context.idle)
      faces := s.faces.set f (faceLeft (s.face f) s.now true) } := by
  have hfields : abandonedFields ((s.cleanUp f).context f) = abandonedFields (s.context f) := by
    rw [State.cleanUp_eq]
    cases f <;> rfl
  have hend : s.endAbandoned f = ((s.cleanUp f).closeRecord f .abandoned (abandonedFields ((s.cleanUp f).context f)) .idle).conclude f
      .idle .stop (some .refuse) := rfl
  rw [hend, hfields]
  exact State.ended_eq s f _ (.inl rfl) rfl

/-- Settles O28: both ends are the clean-up, the record and the context's end, one after the other. -/
theorem refusedAndAbandonedLeaveOneRecord : Obligations.RefusedAndAbandonedLeaveOneRecord := by
  intro s f r c hs evidence fields
  have hface (idle : Bool) : faceLeft (s.face f) s.now idle = Claims.faceAfter (s.face f) s.now idle := if_pos hs
  have hcontext (rest : Context) : contextLeft (s.face f) rest = Claims.contextAfter (s.face f) rest := if_pos hs
  constructor
  · rw [State.endRefused_eq, hface, hcontext]
    rfl
  · rw [State.endAbandoned_eq, hface, hcontext]
    rfl

end Sys2Proof.Machine
end

section
/-! SUPPORT. What a change of service state hands on (sections 2.8, 8.1, 8.2 and 8.4): field requests to the faces, the aborts of the
contexts, the cancelled grants, and their records in order. -/

namespace Sys2Proof.Machine

-- One declaration at a time: each waiting elaboration thread counts against the memory limit of the one text.
set_option Elab.async false

/-! ### Field requests (R2, R3) -/

theorem State.fieldOffRequest_eq (s : State) (f : Face) : s.fieldOffRequest f = { s with
    faces := s.faces.set f (Claims.offAsked (s.face f))
    contexts := s.contexts.set f (Claims.cardGone (s.face f) (s.context f)) } := by
  unfold State.fieldOffRequest Claims.offAsked Claims.cardGone
  cases h : (s.face f).state with
  | watching =>
    simp only [h, State.cardRemoved_eq, true_and]
    cases f <;> rfl
  | _ =>
    simp only [h, reduceCtorEq, false_and, if_false]
    cases f <;> rfl

theorem State.fieldOnRequest_eq (s : State) (f : Face) :
    s.fieldOnRequest f false = { s with faces := s.faces.set f (Claims.onAsked (s.face f) s.now) } := by
  unfold State.fieldOnRequest Claims.onAsked
  cases h : (s.face f).state <;> simp only [h, Bool.false_eq_true, if_false] <;> cases f <;> rfl

/-- What the field request of a change of service state makes of a face (R1). -/
def faceAsked (old new : ServiceState) (now : Word) (u : FaceUnit) : FaceUnit :=
  if old.wantsField = new.wantsField then u
  else if new.wantsField then Claims.onAsked u now
  else Claims.offAsked u

/-- What it makes of the face's context. -/
def contextAsked (old new : ServiceState) (u : FaceUnit) (c : Context) : Context :=
  if old.wantsField = true ∧ new.wantsField = false then Claims.cardGone u c else c

theorem State.fieldRequests_eq (s : State) (old new : ServiceState) : s.fieldRequests old new = { s with
    faces := { street := faceAsked old new s.now s.faces.street, paid := faceAsked old new s.now s.faces.paid }
    contexts := { street := contextAsked old new s.faces.street s.contexts.street
                  paid := contextAsked old new s.faces.paid s.contexts.paid } } := by
  unfold State.fieldRequests faceAsked contextAsked
  cases old.wantsField <;> cases new.wantsField
  · rfl
  · simp only [Bool.false_eq_true, false_and, if_false, if_true, State.fieldOnRequest_eq]
    rfl
  · simp only [Bool.true_eq_false, if_false, Bool.false_eq_true, and_self, if_true, State.fieldOffRequest_eq]
    rfl
  · rfl

/-! ### Records written in a row (R184) -/

/-- Between two states the records `l` were appended, with consecutive sequences. -/
structure Wrote (s t : State) (l : List Record) : Prop where
  records : t.journal.records = s.journal.records ++ l
  sequences : l.map (·.sequence) = (List.range l.length).map fun i => Claims.nextAfter i s.journal.next
  next : t.journal.next = Claims.nextAfter l.length s.journal.next

theorem Claims.nextAfter_add (m n : Nat) (q : Word) : Claims.nextAfter (m + n) q = Claims.nextAfter n (Claims.nextAfter m q) := by
  induction m generalizing q with
  | zero => rw [Nat.zero_add]; rfl
  | succ m ih => rw [Nat.succ_add, Claims.nextAfter_succ, ih, Claims.nextAfter_succ]

theorem Wrote.nil {s t : State} (h : t.journal = s.journal) : Wrote s t [] where
  records := by rw [h, List.append_nil]
  sequences := rfl
  next := by rw [h]; rfl

theorem Wrote.trans {s t u : State} {l m : List Record} (h : Wrote s t l) (k : Wrote t u m) : Wrote s u (l ++ m) where
  records := by rw [k.records, h.records, List.append_assoc]
  sequences := by
    rw [List.map_append, h.sequences, k.sequences, h.next, List.length_append, List.range_add, List.map_append, List.map_map]
    simp only [Function.comp_def, Claims.nextAfter_add]
  next := by rw [k.next, h.next, List.length_append, Claims.nextAfter_add]

theorem State.appendAll_wrote (s : State) (l : List Draft) : Wrote s (s.appendAll l) (recordsFrom s.journal.next l) where
  records := by rw [State.appendAll_eq]
  sequences := by rw [recordsFrom_sequences, recordsFrom, List.length_mapIdx]
  next := by rw [State.appendAll_eq, recordsFrom, List.length_mapIdx]

/-! ### Blocks that aborts and field requests leave alone -/

/-- What aborts and field requests leave of the service unit and the aisle: all but two flags, the queues' RESERVED entries, the lock and
the tones. -/
structure Handed (s t : State) : Prop where
  service : t.service = { s.service with flags := { s.service.flags with
    journal := t.service.flags.journal, clone := t.service.flags.clone } }
  aisle : t.aisle = { s.aisle with queues := t.aisle.queues, lock := t.aisle.lock, tones := t.aisle.tones }
  queues : ∀ d, ∀ e ∈ t.aisle.queues.get d, e ∈ s.aisle.queues.get d

theorem Handed.of_eq {s t : State} (hservice : t.service = s.service) (haisle : t.aisle = s.aisle) : Handed s t where
  service := by rw [hservice]
  aisle := by rw [haisle]
  queues := by rw [haisle]; exact fun _ _ he => he

theorem Handed.trans {s t u : State} (h : Handed s t) (k : Handed t u) : Handed s u where
  service := by rw [k.service, h.service]
  aisle := by rw [k.aisle, h.aisle]
  queues d e he := h.queues d e (k.queues d e he)

theorem State.fieldRequests_handed (s : State) (old new : ServiceState) : Handed s (s.fieldRequests old new) :=
  .of_eq (s.fieldRequests_keeps old new).2.2.2.2.2.2.2.2.2.2.2.2.2.2.2.2 (by simp)

theorem Claims.mem_placeGivenUp {s : State} {f : Face} {d : Direction} {e : QueueEntry}
    (h : e ∈ (Claims.placeGivenUp s f).queues.get d) : e ∈ s.aisle.queues.get d := by
  by_cases hheld : (s.context f).reservation = .held
  · rw [Claims.placeGivenUp, if_pos hheld] at h
    by_cases hd : d = f.direction
    · subst hd
      exact List.mem_of_mem_eraseP (by simpa using h)
    · exact (PerDirection.get_set_ne _ _ hd) ▸ h
  · rwa [Claims.placeGivenUp_of_not_held hheld] at h

theorem Claims.placeGivenUp_frame (s : State) (f : Face) : Claims.placeGivenUp s f = { s.aisle with
    queues := (Claims.placeGivenUp s f).queues, lock := (Claims.placeGivenUp s f).lock
    tones := (Claims.placeGivenUp s f).tones } := by
  unfold Claims.placeGivenUp
  split <;> rfl

theorem Aisle.checkLock_queues (a : Aisle) : a.checkLock.queues = a.queues := by rw [Aisle.checkLock_eq]

theorem State.endRefused_handed (s : State) (f : Face) (r : Reason) : Handed s (s.endRefused f r) := by
  rw [State.endRefused_eq]
  exact
    { service := rfl
      aisle := by
        change { Claims.placeGivenUp s f with tones := Claims.tonesAfter s f .refuse } = _
        rw [Claims.placeGivenUp_eq]
        rfl
      queues := fun d e he => Claims.mem_placeGivenUp he }

theorem State.refuseBefore_eq (s : State) (f : Face) : s.refuseBefore f = { s with
    contexts := s.contexts.set f (contextLeft (s.face f) { s.context f with state := .refusedShown, indication := .stop })
    aisle := { s.aisle with tones := Claims.tonesAfter s f .refuse }
    faces := s.faces.set f (faceLeft (s.face f) s.now false) } := s.conclude_eq f .stop .refuse (.inr (.inr rfl))

/-! ### The aborts (R48) -/

/-- The states whose transaction an abort ends: from NAMING to before SETTLE. -/
def CtxState.endsEarly : CtxState → Bool
  | .naming | .admitted | .reading | .proving | .holding | .deciding | .staging => true
  | _ => false

/-- What an abort makes of a face. -/
def abortedFace (u : FaceUnit) (c : Context) (now : Word) : FaceUnit := if c.state.endsEarly then faceLeft u now false else u

/-- What an abort makes of a context. -/
def abortedContext (u : FaceUnit) (c : Context) (r : Reason) : Context :=
  match c.state with
  | .idle | .removalWait | .refusedShown => c
  | .naming => contextLeft u { c with state := .refusedShown, indication := .stop }
  | .settling | .confirming => { c with reservation := if c.reservation = .held then .removed else c.reservation }
  | .admitted | .reading | .proving | .holding | .deciding | .staging => contextLeft u (refusedContext c r)

/-- A context at rest, or one that waits for its card's removal, is not aborted. -/
def CtxState.resting (st : CtxState) : Prop := st = .idle ∨ st = .removalWait ∨ st = .refusedShown

/-- Admitted, and before SETTLE. -/
def CtxState.refusable (st : CtxState) : Prop :=
  st = .admitted ∨ st = .reading ∨ st = .proving ∨ st = .holding ∨ st = .deciding ∨ st = .staging

theorem CtxState.cases_of_abort (st : CtxState) :
    st.resting ∨ st = .naming ∨ st.refusable ∨ (st = .settling ∨ st = .confirming) := by
  cases st <;> simp [CtxState.resting, CtxState.refusable]

theorem State.abortContext_of_resting {s : State} {f : Face} (r : Reason) (h : (s.context f).state.resting) : s.abortContext f r = s := by
  unfold State.abortContext
  rcases h with h | h | h <;> simp only [h]

theorem State.abortContext_of_naming {s : State} {f : Face} (r : Reason) (h : (s.context f).state = .naming) :
    s.abortContext f r = s.refuseBefore f := by
  simp only [State.abortContext, h]

theorem State.abortContext_of_refusable {s : State} {f : Face} (r : Reason) (h : (s.context f).state.refusable) :
    s.abortContext f r = s.endRefused f r := by
  unfold State.abortContext
  rcases h with h | h | h | h | h | h <;> simp only [h]

theorem State.abortContext_of_committed {s : State} {f : Face} (r : Reason)
    (h : (s.context f).state = .settling ∨ (s.context f).state = .confirming) : s.abortContext f r = s.removeReservation f := by
  unfold State.abortContext
  rcases h with h | h <;> simp only [h]

theorem abortedContext_of_resting {c : Context} (u : FaceUnit) (r : Reason) (h : c.state.resting) : abortedContext u c r = c := by
  unfold abortedContext
  rcases h with h | h | h <;> simp only [h]

theorem abortedContext_of_naming {c : Context} (u : FaceUnit) (r : Reason) (h : c.state = .naming) :
    abortedContext u c r = contextLeft u { c with state := .refusedShown, indication := .stop } := by
  simp only [abortedContext, h]

theorem abortedContext_of_refusable {c : Context} (u : FaceUnit) (r : Reason) (h : c.state.refusable) :
    abortedContext u c r = contextLeft u (refusedContext c r) := by
  unfold abortedContext
  rcases h with h | h | h | h | h | h <;> simp only [h]

theorem abortedContext_of_committed {c : Context} (u : FaceUnit) (r : Reason) (h : c.state = .settling ∨ c.state = .confirming) :
    abortedContext u c r = { c with reservation := if c.reservation = .held then .removed else c.reservation } := by
  unfold abortedContext
  rcases h with h | h <;> simp only [h]

theorem abortedFace_of_ends {c : Context} (u : FaceUnit) (now : Word) (h : c.state = .naming ∨ c.state.refusable) :
    abortedFace u c now = faceLeft u now false := by
  refine if_pos ?_
  rcases h with h | h | h | h | h | h | h <;> rw [h] <;> rfl

theorem abortedFace_of_stays {c : Context} (u : FaceUnit) (now : Word)
    (h : c.state.resting ∨ c.state = .settling ∨ c.state = .confirming) : abortedFace u c now = u := by
  refine if_neg ?_
  rcases h with (h | h | h) | h | h <;> rw [h] <;> nofun

/-- An abort is of one face and its context. -/
theorem State.abortContext_faces (s : State) (f : Face) (r : Reason) :
    (s.abortContext f r).faces = s.faces.set f (abortedFace (s.face f) (s.context f) s.now)
    ∧ (s.abortContext f r).contexts = s.contexts.set f (abortedContext (s.face f) (s.context f) r) := by
  have hface : s.faces = s.faces.set f (s.face f) := (PerFace.set_get _ _).symm
  have hcontext : s.contexts = s.contexts.set f (s.context f) := (PerFace.set_get _ _).symm
  rcases (s.context f).state.cases_of_abort with h | h | h | h
  · rw [State.abortContext_of_resting r h, abortedFace_of_stays _ _ (.inl h), abortedContext_of_resting _ r h]
    exact ⟨hface, hcontext⟩
  · rw [State.abortContext_of_naming r h, abortedFace_of_ends _ _ (.inl h), abortedContext_of_naming _ r h, State.refuseBefore_eq]
    exact ⟨rfl, rfl⟩
  · rw [State.abortContext_of_refusable r h, abortedFace_of_ends _ _ (.inr h), abortedContext_of_refusable _ r h, State.endRefused_eq]
    exact ⟨rfl, rfl⟩
  · rw [State.abortContext_of_committed r h, abortedFace_of_stays _ _ (.inr h), abortedContext_of_committed _ r h,
      State.removeReservation_eq]
    exact ⟨hface, rfl⟩

theorem State.abortContext_handed (s : State) (f : Face) (r : Reason) : Handed s (s.abortContext f r) := by
  rcases (s.context f).state.cases_of_abort with h | h | h | h
  · rw [State.abortContext_of_resting r h]
    exact .of_eq rfl rfl
  · rw [State.abortContext_of_naming r h, State.refuseBefore_eq]
    exact { service := rfl, aisle := rfl, queues := fun _ _ he => he }
  · rw [State.abortContext_of_refusable r h]
    exact State.endRefused_handed s f r
  · rw [State.abortContext_of_committed r h, State.removeReservation_eq]
    exact { service := rfl, aisle := Claims.placeGivenUp_frame s f, queues := fun _ _ he => Claims.mem_placeGivenUp he }

/-! ### The records of an abort (R50, R125, R184) -/

/-- What the records `l` of a context's abort are: a REFUSED record with its fields and the LATE_ALERT after it, or none. -/
def AbortRecords (c : Context) (f : Face) (r : Reason) (l : List Record) : Prop :=
  (c.state.refusable → ∃ x late, l = x :: late ∧ x.kind = .transaction .refused ∧ x.face = f ∧ x.fields = c.refusedFields r
    ∧ ∀ y ∈ late, y.kind = .lateAlert ∧ y.face = f ∧ y.fields.reference = some x.sequence)
  ∧ (¬ c.state.refusable → l = [])

theorem Claims.mem_lateAlerts {s : State} {f : Face} {owed : Nat} {y : Record} (h : y ∈ Claims.lateAlerts s f owed) :
    y.kind = .lateAlert ∧ y.face = f ∧ y.fields.reference = some s.journal.next := by
  rw [Claims.lateAlerts_eq] at h
  cases hl : (s.context f).late with
  | none => simp [hl] at h
  | some k =>
    simp only [hl] at h
    split at h
    · obtain rfl := List.mem_singleton.mp h
      exact ⟨rfl, rfl, rfl⟩
    · cases h

/-- A record and the LATE_ALERT records after it have consecutive sequences. -/
theorem Claims.lateAlerts_sequences (s : State) (f : Face) (owed : Nat) (x : Record) (hx : x.sequence = s.journal.next) :
    (x :: Claims.lateAlerts s f owed).map (·.sequence)
      = (List.range (x :: Claims.lateAlerts s f owed).length).map fun i => Claims.nextAfter i s.journal.next := by
  rw [Claims.lateAlerts_eq]
  cases (s.context f).late with
  | none => simp [hx, Claims.nextAfter]
  | some k =>
    simp only
    split
    · simp [hx, Claims.nextAfter, Draft.record, List.range_succ, nextSequence]
    · simp [hx, Claims.nextAfter]

theorem State.endRefused_wrote (s : State) (f : Face) (r : Reason) : ∃ x late, Wrote s (s.endRefused f r) (x :: late)
    ∧ x.kind = .transaction .refused ∧ x.face = f ∧ x.fields = (s.context f).refusedFields r
    ∧ ∀ y ∈ late, y.kind = .lateAlert ∧ y.face = f ∧ y.fields.reference = some x.sequence := by
  refine ⟨{ sequence := s.journal.next, kind := .transaction .refused, stamp := s.stamp, face := f
            fields := (s.context f).refusedFields r }, Claims.lateAlerts s f
    ({ s with aisle := Claims.placeGivenUp s f, contexts := s.contexts.set f Context.idle } : State).obligations,
    ?_, rfl, rfl, rfl, fun y hy => Claims.mem_lateAlerts hy⟩
  rw [State.endRefused_eq]
  exact { records := rfl, sequences := Claims.lateAlerts_sequences s f _ _ rfl, next := by rw [List.length_cons, Nat.add_comm]; rfl }

theorem State.abortContext_wrote (s : State) (f : Face) (r : Reason) :
    ∃ l, Wrote s (s.abortContext f r) l ∧ AbortRecords (s.context f) f r l := by
  by_cases h : (s.context f).state.refusable
  · obtain ⟨x, late, hwrote, hx⟩ := s.endRefused_wrote f r
    rw [State.abortContext_of_refusable r h]
    exact ⟨x :: late, hwrote, fun _ => ⟨x, late, rfl, hx⟩, fun hno => absurd h hno⟩
  · refine ⟨[], .nil ?_, fun hyes => absurd hyes h, fun _ => rfl⟩
    rcases (s.context f).state.cases_of_abort with hc | hc | hc | hc
    · rw [State.abortContext_of_resting r hc]
    · rw [State.abortContext_of_naming r hc, State.refuseBefore_eq]
    · exact absurd hc h
    · rw [State.abortContext_of_committed r hc, State.removeReservation_eq]

/-! ### Both contexts, and the grants before them (R155, R184) -/

theorem State.abortContexts_faces (s : State) (r : Reason) :
    (s.abortContexts r).faces = { street := abortedFace s.faces.street s.contexts.street s.now
                                  paid := abortedFace s.faces.paid s.contexts.paid s.now }
    ∧ (s.abortContexts r).contexts = { street := abortedContext s.faces.street s.contexts.street r
                                       paid := abortedContext s.faces.paid s.contexts.paid r } := by
  obtain ⟨hstreet, hstreet'⟩ := s.abortContext_faces .street r
  obtain ⟨hpaid, hpaid'⟩ := (s.abortContext .street r).abortContext_faces .paid r
  have hnow : (s.abortContext .street r).now = s.now := by simp
  have hface : (s.abortContext .street r).face .paid = s.faces.paid := by rw [State.face, hstreet]; rfl
  have hcontext : (s.abortContext .street r).context .paid = s.contexts.paid := by rw [State.context, hstreet']; rfl
  rw [hface, hcontext, hnow, hstreet] at hpaid
  rw [hface, hcontext, hstreet'] at hpaid'
  exact ⟨hpaid, hpaid'⟩

theorem State.abortContexts_handed (s : State) (r : Reason) : Handed s (s.abortContexts r) :=
  (s.abortContext_handed .street r).trans ((s.abortContext .street r).abortContext_handed .paid r)

theorem State.abortContexts_wrote (s : State) (r : Reason) : ∃ street paid, Wrote s (s.abortContexts r) (street ++ paid)
    ∧ AbortRecords s.contexts.street .street r street ∧ AbortRecords s.contexts.paid .paid r paid := by
  obtain ⟨street, hstreet, hrecords⟩ := s.abortContext_wrote .street r
  obtain ⟨paid, hpaid, hrecords'⟩ := (s.abortContext .street r).abortContext_wrote .paid r
  have hcontext : (s.abortContext .street r).context .paid = s.contexts.paid := by
    rw [State.context, (s.abortContext_faces .street r).2]
    rfl
  rw [hcontext] at hrecords'
  exact ⟨street, paid, hstreet.trans hpaid, hrecords, hrecords'⟩

/-- The PASSAGE draft that ends a queue entry (R153 to R155). -/
def passageDraft (stamp : Stamp) (o : PassageOutcome) (e : QueueEntry) : Draft :=
  (.passage o, stamp, e.face, { RecordFields.blank with number := some e.number, reference := e.sequence })

theorem State.foldl_recordPassage_eq (l : List QueueEntry) (s : State) (o : PassageOutcome) :
    l.foldl (fun t e => t.recordPassage o e) s = s.appendAll (l.map (passageDraft s.stamp o)) := by
  induction l generalizing s with
  | nil => rfl
  | cons e l ih =>
    have hstamp : (s.recordPassage o e).stamp = s.stamp := by
      rw [State.recordPassage, State.append_eq]
      rfl
    rw [List.foldl_cons, ih, hstamp]
    rfl

/-- The queues without their grants. -/
def Aisle.ungranted (a : Aisle) : PerDirection (List QueueEntry) :=
  { entry := a.queues.entry.filter fun e => !e.isGranted, exit := a.queues.exit.filter fun e => !e.isGranted }

theorem State.cancelGrants_eq (s : State) : s.cancelGrants = ({ s with aisle := { s.aisle with queues := s.aisle.ungranted } } : State).appendAll
    (((s.aisle.queues.entry ++ s.aisle.queues.exit).filter QueueEntry.isGranted).map (passageDraft s.stamp .cancelled)) :=
  State.foldl_recordPassage_eq ..

theorem Aisle.not_granted_of_mem_ungranted {a : Aisle} {d : Direction} {e : QueueEntry} (h : e ∈ a.ungranted.get d) :
    e.isGranted = false := by
  cases d <;> simpa using (List.mem_filter.mp h).2

/-! ### Entering EMERGENCY or LOCKDOWN (R172) -/

/-- The state entered and the reason its aborted transactions give (R48). -/
def EntersFree (new : ServiceState) (r : Reason) : Prop :=
  (new = .emergency ∧ r = .emergency) ∨ (new = .lockdown ∧ r = .outOfService)

theorem State.handToContexts_of_entersFree {new : ServiceState} {r : Reason} (h : EntersFree new r) (s : State) :
    s.handToContexts new = s.abortContexts r := by
  rcases h with ⟨rfl, rfl⟩ | ⟨rfl, rfl⟩ <;> rfl

/-- What an entry makes of a face and its context: the abort and the field request, in one of the two orders (log entry 4). -/
def EnteredFace (old new : ServiceState) (r : Reason) (now : Word) (u v : FaceUnit) (c d : Context) : Prop :=
  (v = faceAsked old new now (abortedFace u c now)
    ∧ d = contextAsked old new (abortedFace u c now) (abortedContext u c r))
  ∨ (v = abortedFace (faceAsked old new now u) (contextAsked old new u c) now
    ∧ d = abortedContext (faceAsked old new now u) (contextAsked old new u c) r)

/-- Where a state enters EMERGENCY or LOCKDOWN: what becomes of the faces, the contexts, the journal, the aisle and the service unit. -/
structure Entered (s t : State) (new : ServiceState) (r : Reason) : Prop where
  faces : ∀ f, EnteredFace s.service.state new r s.now (s.face f) (t.face f) (s.context f) (t.context f)
  records : ∃ street paid, Wrote s t (recordsFrom s.journal.next
      (((s.aisle.queues.entry ++ s.aisle.queues.exit).filter QueueEntry.isGranted).map (passageDraft s.stamp .cancelled))
      ++ street ++ paid)
    ∧ AbortRecords s.contexts.street .street r street ∧ AbortRecords s.contexts.paid .paid r paid
  service : t.service = { s.service with state := new, flags := { s.service.flags with
    journal := t.service.flags.journal, clone := t.service.flags.clone } }
  aisle : t.aisle = { s.aisle with
    leaf := .free, travelStart := none, closeStart := none
    queues := t.aisle.queues, lock := t.aisle.lock, tones := t.aisle.tones }
  queues : ∀ d, ∀ e ∈ t.aisle.queues.get d, e ∈ s.aisle.queues.get d ∧ e.isGranted = false

theorem contextAsked_cases (old new : ServiceState) (u : FaceUnit) (c : Context) :
    contextAsked old new u c = c ∨ (new.wantsField = false ∧ (c.state = .removalWait ∨ c.state = .refusedShown)
      ∧ contextAsked old new u c = Context.idle) := by
  unfold contextAsked Claims.cardGone
  by_cases h : old.wantsField = true ∧ new.wantsField = false
  · rw [if_pos h]
    by_cases hc : u.state = .watching ∧ (c.state = .removalWait ∨ c.state = .refusedShown)
    · exact .inr ⟨h.2, hc.2, if_pos hc⟩
    · exact .inl (if_neg hc)
  · exact .inl (if_neg h)

theorem AbortRecords.of_contextAsked {old new : ServiceState} {u : FaceUnit} {c : Context} {f : Face} {r : Reason} {l : List Record}
    (h : AbortRecords (contextAsked old new u c) f r l) : AbortRecords c f r l := by
  rcases contextAsked_cases old new u c with hc | ⟨-, hwaits, hc⟩
  · rwa [hc] at h
  · rw [hc] at h
    refine ⟨fun hopen => ?_, fun _ => h.2 (by simp [CtxState.refusable, Context.idle])⟩
    rcases hwaits with hw | hw <;> simp [CtxState.refusable, hw] at hopen

theorem Wrote.of_journal_right {s t u : State} {l : List Record} (h : Wrote s t l) (hj : u.journal = t.journal) : Wrote s u l where
  records := by rw [hj]; exact h.records
  sequences := h.sequences
  next := by rw [hj]; exact h.next

theorem Wrote.of_journal_left {s t u : State} {l : List Record} (h : Wrote s t l) (hj : u.journal = s.journal) : Wrote u t l where
  records := by rw [hj]; exact h.records
  sequences := by rw [hj]; exact h.sequences
  next := by rw [hj]; exact h.next

/-- The aborts and the field requests of an entry, in either order, over a part `s` whose grants are cancelled. -/
structure HandedOn (s t : State) (old new : ServiceState) (r : Reason) : Prop where
  faces : ∀ f, EnteredFace old new r s.now (s.face f) (t.face f) (s.context f) (t.context f)
  records : ∃ street paid, Wrote s t (street ++ paid) ∧ AbortRecords s.contexts.street .street r street
    ∧ AbortRecords s.contexts.paid .paid r paid
  handed : Handed s t

theorem State.abortsFirst_handedOn (s : State) (old new : ServiceState) (r : Reason) :
    HandedOn s ((s.abortContexts r).fieldRequests old new) old new r where
  faces f := by
    obtain ⟨hfaces, hcontexts⟩ := s.abortContexts_faces r
    have hnow : (s.abortContexts r).now = s.now := by simp
    rw [State.fieldRequests_eq, hnow, hfaces, hcontexts]
    cases f <;> exact .inl ⟨rfl, rfl⟩
  records := by
    obtain ⟨street, paid, hwrote, hrecords⟩ := s.abortContexts_wrote r
    exact ⟨street, paid, hwrote.of_journal_right (by simp), hrecords⟩
  handed := (s.abortContexts_handed r).trans (State.fieldRequests_handed _ old new)

theorem State.requestsFirst_handedOn (s : State) (old new : ServiceState) (r : Reason) :
    HandedOn s ((s.fieldRequests old new).abortContexts r) old new r where
  faces f := by
    obtain ⟨hfaces, hcontexts⟩ := (s.fieldRequests old new).abortContexts_faces r
    have hnow : (s.fieldRequests old new).now = s.now := by simp
    have hface : ((s.fieldRequests old new).abortContexts r).face f
        = abortedFace ((s.fieldRequests old new).face f) ((s.fieldRequests old new).context f) s.now := by
      rw [State.face, hfaces, hnow]
      cases f <;> rfl
    have hcontext : ((s.fieldRequests old new).abortContexts r).context f
        = abortedContext ((s.fieldRequests old new).face f) ((s.fieldRequests old new).context f) r := by
      rw [State.context, hcontexts]
      cases f <;> rfl
    rw [hface, hcontext, State.fieldRequests_eq]
    cases f <;> exact .inr ⟨rfl, rfl⟩
  records := by
    obtain ⟨street, paid, hwrote, hstreet, hpaid⟩ := (s.fieldRequests old new).abortContexts_wrote r
    refine ⟨street, paid, hwrote.of_journal_left (by simp), ?_, ?_⟩
    · rw [State.fieldRequests_eq] at hstreet
      exact .of_contextAsked hstreet
    · rw [State.fieldRequests_eq] at hpaid
      exact .of_contextAsked hpaid
  handed := (State.fieldRequests_handed s old new).trans (State.abortContexts_handed _ r)

theorem State.enterFree_handedOn (s : State) {new : ServiceState} {r : Reason} (h : EntersFree new r) :
    ∃ t, HandedOn ((s.setServiceState new).cancelGrants.drew 1) t s.service.state new r
      ∧ s.enterFree new = t.checkLock.setAisle t.checkLock.aisle.setFree := by
  unfold State.enterFree
  simp only [State.handToContexts_of_entersFree h]
  by_cases hbit : s.freeBit = true
  · rw [if_pos hbit]
    exact ⟨_, State.abortsFirst_handedOn _ _ _ _, rfl⟩
  · rw [if_neg hbit]
    exact ⟨_, State.requestsFirst_handedOn _ _ _ _, rfl⟩

theorem State.enterFree_entered (s : State) {new : ServiceState} {r : Reason} (h : EntersFree new r) : Entered s (s.enterFree new) new r := by
  obtain ⟨t, ⟨hfaces, ⟨street, paid, hwrote, hrecords⟩, hservice, haisle, hqueues⟩, henter⟩ := s.enterFree_handedOn h
  have hcancelled := State.cancelGrants_eq (s.setServiceState new)
  set gone := ((s.aisle.queues.entry ++ s.aisle.queues.exit).filter QueueEntry.isGranted).map (passageDraft s.stamp .cancelled)
  have hqueuesBefore : ((s.setServiceState new).cancelGrants.drew 1).aisle = { s.aisle with queues := s.aisle.ungranted } := by
    change (s.setServiceState new).cancelGrants.aisle = _
    rw [hcancelled, State.appendAll_eq]
    rfl
  have hcontexts : ((s.setServiceState new).cancelGrants.drew 1).contexts = s.contexts := by
    change (s.setServiceState new).cancelGrants.contexts = _
    rw [hcancelled, State.appendAll_eq]
    rfl
  rw [hcontexts] at hrecords
  have hleft : (s.enterFree new).aisle.queues = t.aisle.queues := by
    rw [henter]
    exact Aisle.checkLock_queues _
  refine { faces := fun f => ?faces, records := ⟨street, paid, ?records, hrecords⟩, service := ?service, aisle := ?aisle, queues := ?queues }
  case faces =>
    rw [henter]
    have hf := hfaces f
    rw [hcancelled, State.appendAll_eq] at hf
    exact hf
  case records =>
    have hbefore : Wrote s ((s.setServiceState new).cancelGrants.drew 1) (recordsFrom s.journal.next gone) := by
      have happended := State.appendAll_wrote ({ s.setServiceState new with aisle := { s.aisle with queues := s.aisle.ungranted } }) gone
      refine (happended.of_journal_left (u := s) rfl).of_journal_right ?_
      change (s.setServiceState new).cancelGrants.journal = _
      rw [hcancelled]
      rfl
    rw [List.append_assoc]
    exact (hbefore.trans hwrote).of_journal_right (by rw [henter]; rfl)
  case service =>
    have hentered : (s.enterFree new).service = t.service := by rw [henter]; rfl
    rw [hentered, hservice, hcancelled, State.appendAll_eq]
    rfl
  case aisle =>
    rw [henter]
    change t.aisle.checkLock.setFree = { s.aisle with
      leaf := .free, travelStart := none, closeStart := none
      queues := t.aisle.checkLock.setFree.queues, lock := t.aisle.checkLock.setFree.lock, tones := t.aisle.checkLock.setFree.tones }
    rw [Aisle.setFree, Aisle.checkLock_eq, haisle, hqueuesBefore]
  case queues =>
    intro d e he
    rw [hleft] at he
    have hbefore := hqueues d e he
    rw [hqueuesBefore] at hbefore
    refine ⟨?_, Aisle.not_granted_of_mem_ungranted hbefore⟩
    cases d <;> exact (List.mem_filter.mp hbefore).1

/-! ### What an entry leaves, as the obligations say it (R48, R125, R155, R172, R184) -/

theorem contextLeft_cases (u : FaceUnit) (c : Context) : contextLeft u c = c ∨ contextLeft u c = Context.idle := by
  unfold contextLeft Claims.contextAfter
  split
  · split
    · exact .inr rfl
    · exact .inl rfl
  · exact .inl rfl

/-- Whatever the order, a context is aborted; and one that then waits for its card's removal may find it gone, for LOCKDOWN. -/
theorem EnteredFace.context {old new : ServiceState} {r : Reason} {now : Word} {u v : FaceUnit} {c d : Context}
    (h : EnteredFace old new r now u v c d) : ∃ w, d = abortedContext w c r
      ∨ (new.wantsField = false ∧ ((abortedContext w c r).state = .removalWait ∨ (abortedContext w c r).state = .refusedShown)
        ∧ d = Context.idle) := by
  rcases h with ⟨-, rfl⟩ | ⟨-, rfl⟩
  · refine ⟨u, ?_⟩
    rcases contextAsked_cases old new (abortedFace u c now) (abortedContext u c r) with heq | ⟨hoff, hwaits, heq⟩
    · exact .inl heq
    · exact .inr ⟨hoff, hwaits, heq⟩
  · refine ⟨faceAsked old new now u, ?_⟩
    rcases contextAsked_cases old new u c with heq | ⟨hoff, hwaits, heq⟩
    · rw [heq]
      exact .inl rfl
    · rw [heq, abortedContext_of_resting (c := c) _ r (.inr hwaits)]
      exact .inr ⟨hoff, hwaits, rfl⟩

theorem EntersFree.outOfService_of_fieldOff {new : ServiceState} {r : Reason} (h : EntersFree new r) (hoff : new.wantsField = false) :
    r = .outOfService := by
  rcases h with ⟨rfl, -⟩ | ⟨-, rfl⟩
  · cases hoff
  · rfl

theorem Context.recordEvidence_of_refusing {c : Context} {k : EvidenceKind} (h : c.refusing = some k) : c.recordEvidence = some k := by
  simp only [Context.recordEvidence, h]

theorem CtxState.refusable_iff (st : CtxState) : st.refusable ↔
    (st = .reading ∨ st = .proving ∨ st = .holding ∨ st = .staging) ∨ st = .admitted ∨ st = .deciding := by
  cases st <;> simp [CtxState.refusable]

theorem Entered.endsTheTaps {s t : State} {new : ServiceState} {r : Reason} (hr : EntersFree new r) (h : Entered s t new r) :
    Claims.endsTheTaps s t r := by
  obtain ⟨street, paid, hwrote, hstreet, hpaid⟩ := h.records
  have hnew : t.journal.records.drop s.journal.records.length = recordsFrom s.journal.next
      (((s.aisle.queues.entry ++ s.aisle.queues.exit).filter QueueEntry.isGranted).map (passageDraft s.stamp .cancelled))
      ++ street ++ paid := by
    rw [hwrote.records, List.drop_left]
  have hown (f : Face) : ∃ l : List Record, (∀ x ∈ l, x ∈ t.journal.records.drop s.journal.records.length)
      ∧ AbortRecords (s.context f) f r l := by
    rw [hnew]
    cases f
    · exact ⟨street, fun x hx => by simp [hx], hstreet⟩
    · exact ⟨paid, fun x hx => by simp [hx], hpaid⟩
  have hends {st : CtxState} (haborted : st = .reading ∨ st = .proving ∨ st = .holding ∨ st = .staging) : st.refusable :=
    st.refusable_iff.mpr (.inl haborted)
  have hstays {st : CtxState} (hno : ¬ (st = .reading ∨ st = .proving ∨ st = .holding ∨ st = .staging)) (ha : st ≠ .admitted)
      (hd : st ≠ .deciding) : ¬ st.refusable := by
    rw [CtxState.refusable_iff]
    rintro (h | h | h)
    exacts [hno h, ha h, hd h]
  have hwritten {f : Face} {l : List Record} (hl : AbortRecords (s.context f) f r l) :
      ((s.context f).state = .reading ∨ (s.context f).state = .proving ∨ (s.context f).state = .holding
        ∨ (s.context f).state = .staging → ∃ x late, l = x :: late ∧ x.kind = .transaction .refused ∧ x.face = f
        ∧ ∀ y ∈ late, y.kind = .lateAlert ∧ y.face = f ∧ y.fields.reference = some x.sequence)
      ∧ (¬ ((s.context f).state = .reading ∨ (s.context f).state = .proving ∨ (s.context f).state = .holding
        ∨ (s.context f).state = .staging) → (s.context f).state ≠ .admitted → (s.context f).state ≠ .deciding → l = []) := by
    refine ⟨fun haborted => ?_, fun hno ha hd => hl.2 (hstays hno ha hd)⟩
    obtain ⟨x, late, hxl, hkind, hface, -, hlate⟩ := hl.1 (hends haborted)
    exact ⟨x, late, hxl, hkind, hface, hlate⟩
  rw [recordsFrom_map] at hwrote
  refine ⟨fun f => ?contexts, ⟨street, paid, ?records, hwritten hstreet, hwritten hpaid, ?sequences, ?next⟩, ?count⟩
  case contexts =>
    obtain ⟨w, hd⟩ := (h.faces f).context
    refine ⟨fun hc => ?idle, fun hc => ?waits, fun hc => ?naming, fun hc => ⟨?done, ?record⟩, fun hc => ?committed⟩
    case idle =>
      rw [abortedContext_of_resting _ _ (.inl hc)] at hd
      rcases hd with hd | ⟨-, hw | hw, -⟩
      · exact hd
      · cases hc.symm.trans hw
      · cases hc.symm.trans hw
    case waits =>
      rw [abortedContext_of_resting _ _ (.inr hc)] at hd
      exact hd.imp_right fun ⟨hoff, _, hidle⟩ => ⟨hr.outOfService_of_fieldOff hoff, hidle⟩
    case naming =>
      rw [abortedContext_of_naming _ _ hc] at hd
      rcases hd with hd | ⟨-, -, hd⟩
      · rw [hd]
        exact (contextLeft_cases _ _).symm
      · exact .inl hd
    case done =>
      rw [abortedContext_of_refusable _ _ (hends hc)] at hd
      rcases hd with hd | ⟨-, -, hd⟩
      · rcases contextLeft_cases w (refusedContext (s.context f) r) with hl | hl
        · exact .inr (by rw [hd, hl]; rfl)
        · exact .inl (by rw [hd, hl]; rfl)
      · exact .inl (by rw [hd]; rfl)
    case record =>
      obtain ⟨l, hmem, hl⟩ := hown f
      obtain ⟨x, late, hxl, hkind, hface, hfields, -⟩ := hl.1 (hends hc)
      exact ⟨x, hmem x (hxl ▸ List.mem_cons_self), hkind, hface, by rw [hfields]; rfl, by rw [hfields]; rfl,
        fun k hk => by rw [hfields]; exact Context.recordEvidence_of_refusing hk⟩
    case committed =>
      rw [abortedContext_of_committed _ _ hc] at hd
      rcases hd with hd | ⟨-, hw, -⟩
      · exact hd
      · rcases hc with hc | hc <;> rcases hw with hw | hw <;> cases hc.symm.trans hw
  case records => exact hwrote.records
  case sequences => exact hwrote.sequences
  case next => exact hwrote.next
  case count =>
    intro hnone
    have hempty {f : Face} {l : List Record} (hl : AbortRecords (s.context f) f r l) : l = [] :=
      hl.2 (hstays (hnone f).1 (hnone f).2.1 (hnone f).2.2)
    rw [hwrote.records, hempty (f := .street) hstreet, hempty (f := .paid) hpaid, List.append_nil, List.append_nil, List.length_append, List.length_mapIdx,
      List.countP_eq_length_filter]

/-- The faces follow, whatever the entry's field request makes of one. -/
theorem Entered.facesFollow {s t : State} {new : ServiceState} {r : Reason} (h : Entered s t new r) {asks : FaceUnit → FaceUnit}
    (hasks : ∀ u, faceAsked s.service.state new s.now u = asks u) : Claims.facesFollow s t asks := by
  intro f
  obtain hface := h.faces f
  refine ⟨fun hno ha hd => ?stays, fun hends hs => ?ends⟩
  case stays =>
    have hrests : (s.context f).state.resting ∨ (s.context f).state = .settling ∨ (s.context f).state = .confirming := by
      rcases (s.context f).state.cases_of_abort with hc | hc | hc | hc
      · exact .inl hc
      · exact absurd (.inl hc) hno
      · refine absurd ?_ hno
        rcases (CtxState.refusable_iff _).mp hc with hc | hc | hc
        · exact .inr hc
        · exact absurd hc ha
        · exact absurd hc hd
      · exact .inr hc
    have hrests' (u : FaceUnit) : (contextAsked s.service.state new u (s.context f)).state.resting
        ∨ (contextAsked s.service.state new u (s.context f)).state = .settling
        ∨ (contextAsked s.service.state new u (s.context f)).state = .confirming := by
      rcases contextAsked_cases s.service.state new u (s.context f) with hc | ⟨-, -, hc⟩
      · rwa [hc]
      · rw [hc]
        exact .inl (.inl rfl)
    rcases hface with ⟨hv, -⟩ | ⟨hv, -⟩
    · rw [hv, abortedFace_of_stays _ _ hrests, hasks]
    · rw [hv, abortedFace_of_stays _ _ (hrests' _), hasks]
  case ends =>
    have hcloses : (s.context f).state = .naming ∨ (s.context f).state.refusable :=
      hends.imp_right fun hc => (CtxState.refusable_iff _).mpr (.inl hc)
    have hkept (u : FaceUnit) : contextAsked s.service.state new u (s.context f) = s.context f := by
      rcases contextAsked_cases s.service.state new u (s.context f) with hc | ⟨-, hw, -⟩
      · exact hc
      · rcases hends with hc | hc | hc | hc | hc <;> rw [hc] at hw <;> simp at hw
    have hserving : (asks (s.face f)).state = .serving := by
      rw [← hasks, faceAsked]
      unfold Claims.onAsked Claims.offAsked
      split
      · exact hs
      · split <;> simp only [hs]
    rcases hface with ⟨hv, -⟩ | ⟨hv, -⟩
    · refine .inl ?_
      rw [hv, abortedFace_of_ends _ _ hcloses, hasks, faceLeft, if_pos hs]
    · refine .inr ?_
      rw [hv, hkept, abortedFace_of_ends _ _ hcloses, hasks, faceLeft, if_pos hserving]

theorem Entered.no_grant {s t : State} {new : ServiceState} {r : Reason} (h : Entered s t new r) :
    ∀ e ∈ t.aisle.queues.entry ++ t.aisle.queues.exit, e.isGranted = false := by
  intro e he
  rcases List.mem_append.mp he with he | he
  · exact (h.queues .entry e he).2
  · exact (h.queues .exit e he).2

end Sys2Proof.Machine
end

section
/-! SUPPORT. Settles O46, O8, O44 and O45: the causes that change the service state, and what ends by its time in the aisle (sections 7 and
8). -/

namespace Sys2Proof.Machine

-- One declaration at a time: each waiting elaboration thread counts against the memory limit of the one text.
set_option Elab.async false

/-! ### The leaf's moves, as the obligations name them (R157 to R161) -/

theorem Aisle.reachOpen_eq (a : Aisle) (now : Word) : a.reachOpen now = Claims.reachesOpen a now := by
  have hiff : (({ a with leaf := .opened, travelStart := none, closeStart := none } : Aisle).leaf = .opened
      ∧ ({ a with leaf := .opened, travelStart := none, closeStart := none } : Aisle).anyGranted = false
      ∧ ({ a with leaf := .opened, travelStart := none, closeStart := none } : Aisle).clear = true)
      ↔ a.anyGranted = false ∧ a.clear = true := ⟨And.right, fun h => ⟨rfl, h⟩⟩
  unfold Aisle.reachOpen Aisle.refreshClose Claims.reachesOpen
  by_cases h : a.anyGranted = false ∧ a.clear = true
  · rw [if_pos (hiff.mpr h), if_pos h]
    rfl
  · rw [if_neg (mt hiff.mp h), if_neg h]
    rfl

theorem Aisle.startOpening_eq (a : Aisle) (now : Word) : a.startOpening now =
    if a.openLimit.accepted then Claims.reachesOpen a now else Claims.leafAt a .opening (some now) none := by
  rw [Aisle.startOpening, Aisle.reachOpen_eq]
  rfl

theorem Aisle.reachClosed_eq (a : Aisle) (now : Word) : a.reachClosed now = Claims.reachesClosed a now := by
  unfold Aisle.reachClosed Claims.reachesClosed
  simp only [Aisle.startOpening_eq]
  rfl

theorem Aisle.startClosing_eq (a : Aisle) (now : Word) : a.startClosing now =
    if a.closedLimit.accepted then Claims.reachesClosed a now else Claims.leafAt a .closing (some now) none := by
  rw [Aisle.startClosing, Aisle.reachClosed_eq]
  rfl

/-! ### O46: faults, and the emergency input (R170, R172, R178) -/

theorem faceAsked_emergency {old : ServiceState} (h : old = .inService ∨ old = .closed ∨ old = .lockdown) (now : Word) (u : FaceUnit) :
    faceAsked old .emergency now u = if old = .inService then u else Claims.onAsked u now := by
  rcases h with rfl | rfl | rfl <;> rfl

theorem faceAsked_lockdown {old : ServiceState} (h : old = .inService ∨ old = .closed ∨ old = .emergency) (now : Word) (u : FaceUnit) :
    faceAsked old .lockdown now u = if old = .closed then u else Claims.offAsked u := by
  rcases h with rfl | rfl | rfl <;> rfl

theorem entersFree_emergency : EntersFree .emergency .emergency := .inl ⟨rfl, rfl⟩

theorem entersFree_lockdown : EntersFree .lockdown .outOfService := .inr ⟨rfl, rfl⟩

theorem State.raiseFault_of_lockdown {s : State} (k : FaultKind) (h : s.service.state = .lockdown) :
    s.raiseFault k = s.raise .lockdown := by
  simp only [State.raiseFault, h]

theorem State.raiseFault_of_starting {s : State} (k : FaultKind) (h : s.service.state = .starting)
    (hfull : s.service.faultSlot ≠ none) : s.raiseFault k = s.raise .fault := by
  simp only [State.raiseFault, h]
  exact if_pos (Option.isSome_iff_ne_none.mpr hfull)

theorem State.raiseFault_of_full {s : State} (k : FaultKind)
    (h : s.service.state = .inService ∨ s.service.state = .closed ∨ s.service.state = .emergency)
    (hfull : s.service.faultSlot ≠ none) : s.raiseFault k = s.lockDown (s.faultRecord k) := by
  have hsome := Option.isSome_iff_ne_none.mpr hfull
  rcases h with h | h | h <;> simp only [State.raiseFault, h] <;> exact if_pos hsome

theorem ServiceState.cases_of_fault {st : ServiceState} (hl : st ≠ .lockdown) (hs : st ≠ .starting) :
    st = .inService ∨ st = .closed ∨ st = .emergency := by
  cases st <;> simp_all

theorem ServiceState.cases_of_emergency {st : ServiceState} (he : st ≠ .emergency) (hs : st ≠ .starting) :
    st = .inService ∨ st = .closed ∨ st = .lockdown := by
  cases st <;> simp_all

theorem secondFaultLocksDown : Claims.SecondFaultLocksDown := by
  unfold Claims.SecondFaultLocksDown
  intro s k
  refine ⟨fun hl => s.raiseFault_of_lockdown k hl, fun hs hfull => s.raiseFault_of_starting k hs hfull,
    fun hl hfull => State.raiseFault_of_empty k hl (not_ne_iff.mp hfull), fun hl hs hfull => ?_⟩
  have hstate := ServiceState.cases_of_fault hl hs
  have hentered := (s.setService { s.service with lockdownCause := some (s.faultRecord k) }).enterFree_entered entersFree_lockdown
  have hservice := hentered.service
  have haisle := hentered.aisle
  have hgrants := hentered.no_grant
  have hends := hentered.endsTheTaps entersFree_lockdown
  have hfaces := hentered.facesFollow (faceAsked_lockdown hstate _)
  obtain ⟨-, -, -, hnow, -, hfare, hcheck, -⟩ :=
    (s.setService { s.service with lockdownCause := some (s.faultRecord k) }).enterFree_keeps .lockdown
  rw [s.raiseFault_of_full k hstate hfull, State.lockDown]
  generalize (s.setService { s.service with lockdownCause := some (s.faultRecord k) }).enterFree .lockdown = t at *
  exact ⟨(congrArg Service.state hservice :), (congrArg Service.faultSlot hservice :), (congrArg Service.lockdownCause hservice :), rfl, rfl,
    (congrArg (fun v => v.flags.fault) hservice :), (congrArg Aisle.leaf haisle :), hgrants, hends, hfaces, (congrArg Aisle.counters haisle :),
    hnow, hfare, hcheck⟩

theorem contextsActByTheirState : Claims.ContextsActByTheirState := by
  intro s f r
  refine ⟨fun h => s.abortContext_of_resting r h, fun h hs => ?naming,
    fun h => s.abortContext_of_refusable r ((CtxState.refusable_iff _).mpr (.inl h)), fun h => ?committed⟩
  case naming =>
    rw [s.abortContext_of_naming r h, State.refuseBefore_eq, faceLeft, contextLeft, if_pos hs, if_pos hs]
  case committed => rw [s.abortContext_of_committed r h, State.removeReservation_eq]

theorem emergencyInputEntersEmergency : Claims.EmergencyInputEntersEmergency := by
  unfold Claims.EmergencyInputEntersEmergency
  intro s hp u due accepted
  have hdue : Machine.due s.now u.pendingSince debounceTime = true ↔ due := due_iff ..
  have hexec : exec .emergencyDebounceExpiry s = .next
      (if Machine.due s.now u.pendingSince debounceTime then
        if u.accepted then accepted (!u.accepted) else (accepted (!u.accepted)).emergencyAsserted else s) := by
    change execEmergencyDebounceExpiry s = _
    rw [execEmergencyDebounceExpiry, whenRunning_of_running _ hp]
    rfl
  refine ⟨fun hno => ?early, fun hyes ha => ?released, fun hyes ha hst => ?ignored, fun hyes ha he hs => ?entered⟩
  case early => rw [hexec, if_neg (mt hdue.mp hno)]
  case released => rw [hexec, if_pos (hdue.mpr hyes), if_pos ha, ha, Bool.not_true]
  case ignored =>
    rw [hexec, if_pos (hdue.mpr hyes), if_neg (by simp [ha]), ha, Bool.not_false, State.emergencyAsserted]
    have hstate : (accepted true).service.state = s.service.state := rfl
    rcases hst with hst | hst <;> simp only [hstate, hst]
  case entered =>
    have hstate := ServiceState.cases_of_emergency he hs
    have hentered := (accepted true).enterFree_entered entersFree_emergency
    have hservice := hentered.service
    have hends := hentered.endsTheTaps entersFree_emergency
    have hfaces := hentered.facesFollow (faceAsked_emergency hstate _)
    have hasserted : (accepted true).emergencyAsserted = ((accepted true).enterFree .emergency).raise .service := by
      have hst : (accepted true).service.state = s.service.state := rfl
      rcases hstate with h | h | h <;> simp only [State.emergencyAsserted, hst, h]
    refine ⟨((accepted true).enterFree .emergency).raise .service, ?_, ?_, rfl, ?_, ?_, ?_, ?_, hentered.no_grant,
      hends, hfaces⟩
    · rw [hexec, if_pos (hdue.mpr hyes), if_neg (by simp [ha]), ha, Bool.not_false, hasserted]
    · exact (congrArg Service.state hservice :)
    · exact (congrArg Service.emergency hservice :)
    · exact (congrArg Aisle.leaf hentered.aisle :)
    · exact (congrArg Service.faultSlot hservice :)
    · exact (congrArg Service.lockdownCause hservice :)

/-- Settles O46, from what an entry into EMERGENCY or LOCKDOWN leaves (`Entered`) and the abort of one context by its state. -/
theorem faultsAndTheEmergencyInputStopService : Obligations.FaultsAndTheEmergencyInputStopService :=
  ⟨secondFaultLocksDown, contextsActByTheirState, emergencyInputEntersEmergency⟩

/-! ### O8: the requests that move the service state (R168 to R173) -/

theorem State.hunting_of_collector {t : State} (h : t.link.collector = .hunting) : t.hunting = t := by
  change { t with link := { t.link with collector := .hunting } } = t
  rw [← h]

theorem exec_emergency_of_listening {s t : State} {r : Result} {fields : List Byte} (hs : s.listening)
    (hans : (match s.hunting.service.state with
      | .inService | .closed | .lockdown => stateAnswer .done (s.hunting.enterFree .emergency)
      | .emergency => stateAnswer .done s.hunting
      | .starting => stateAnswer .wrongState s.hunting) = { result := r, fields := fields, after := t.hunting }) :
    exec (.emergency []) s = .next (t.replying 0x0C r fields) :=
  whenRunning_request_of_listening hs rfl hans

theorem emergencyRequestEntersEmergency : Claims.EmergencyRequestEntersEmergency := by
  unfold Claims.EmergencyRequestEntersEmergency
  intro s hs
  have hstate : s.hunting.service.state = s.service.state := rfl
  refine ⟨fun hst => ?entered, fun hst => exec_emergency_of_listening hs ?already, fun hst => exec_emergency_of_listening hs ?refused⟩
  case already =>
    simp only [hstate, hst, stateAnswer, State.stateField]
    rfl
  case refused =>
    simp only [hstate, hst, stateAnswer, State.stateField]
    rfl
  case entered =>
    have hentered := s.hunting.enterFree_entered entersFree_emergency
    have hservice := hentered.service
    have haisle := hentered.aisle
    have hends := hentered.endsTheTaps entersFree_emergency
    have hfaces := hentered.facesFollow (faceAsked_emergency hst _)
    have hgrants := hentered.no_grant
    obtain ⟨-, -, -, hnow, hlink, -⟩ := s.hunting.enterFree_keeps .emergency
    have hhunting := State.hunting_of_collector (t := s.hunting.enterFree .emergency) (by rw [hlink]; rfl)
    have hanswer : stateAnswer .done (s.hunting.enterFree .emergency)
        = { result := .done, fields := [3], after := (s.hunting.enterFree .emergency).hunting } := by
      rw [hhunting, stateAnswer, State.stateField, hservice]
      rfl
    refine ⟨s.hunting.enterFree .emergency, exec_emergency_of_listening hs ?_, ?_⟩
    · rcases hst with hst | hst | hst <;> simp only [hstate, hst] <;> exact hanswer
    · generalize s.hunting.enterFree .emergency = t at *
      exact ⟨(congrArg Service.state hservice :), (congrArg Service.faultSlot hservice :),
        (congrArg Service.lockdownCause hservice :), (congrArg (fun v => v.flags.service) hservice :), hends, hfaces,
        (congrArg Aisle.leaf haisle :), hgrants, (congrArg Service.mask hservice :), (congrArg Service.clock hservice :), hnow⟩

/-- What RESUME's field-on request makes of a face: it moves a DISABLED one too (R9, R173). -/
def faceResumed (u : FaceUnit) (now : Word) : FaceUnit :=
  if u.state = .off ∨ u.state = .disabled then Claims.settlingFrom u now
  else if u.state = .serving then { u with offPending := false } else u

theorem State.fieldOnRequest_of_resume (s : State) (f : Face) :
    s.fieldOnRequest f true = { s with faces := s.faces.set f (faceResumed (s.face f) s.now) } := by
  unfold State.fieldOnRequest faceResumed
  cases h : (s.face f).state <;> simp [h] <;> cases f <;> rfl

theorem State.mayResume_iff (s : State) : s.mayResume = true ↔
    ¬ (s.service.state = .starting ∨ s.service.state = .inService ∨ s.service.state = .closed
      ∨ s.service.emergency.accepted = true ∨ (s.service.state = .emergency ∧ s.service.faultSlot ≠ none)) := by
  unfold State.mayResume
  cases hst : s.service.state <;> cases s.service.emergency.accepted <;> cases s.service.faultSlot <;> simp

theorem State.resumeService_eq (s : State) : s.resumeService = { s with
    service := { s.service with state := .inService, faultSlot := none, lockdownCause := none }
    faces := { street := faceResumed s.faces.street s.now, paid := faceResumed s.faces.paid s.now }
    aisle :=
      if s.aisle.clear = true then
        (if s.aisle.closedLimit.accepted then Claims.reachesClosed s.aisle s.now else Claims.leafAt s.aisle .closing (some s.now) none)
      else if s.aisle.openLimit.accepted then Claims.reachesOpen s.aisle s.now
      else Claims.leafAt s.aisle .opening (some s.now) none } := by
  unfold State.resumeService
  simp only [State.fieldOnRequest_of_resume, Aisle.leaveFree, Aisle.startClosing_eq, Aisle.startOpening_eq]
  rfl

theorem exec_resume_of_listening {s : State} (hs : s.listening) : exec (.resume []) s = .next
    (if s.mayResume then s.resumeService.replying 0x0D .done [1]
      else s.replying 0x0D .wrongState [codeIn serviceStateList s.service.state]) := by
  by_cases h : s.mayResume = true
  · rw [if_pos h]
    refine whenRunning_request_of_listening hs rfl ((if_pos (by exact h)).trans ?_)
    rw [State.resumeService_eq, State.resumeService_eq]
    rfl
  · rw [if_neg h]
    exact whenRunning_request_of_listening hs rfl (if_neg (by exact h))

theorem resumeReturnsToService : Claims.ResumeReturnsToService := by
  intro s hs
  dsimp only
  refine ⟨fun hrefused => ?_, fun hno => ?_⟩
  · rw [exec_resume_of_listening hs, if_neg (fun h => (s.mayResume_iff.mp h) hrefused)]
  · rw [exec_resume_of_listening hs, if_pos (s.mayResume_iff.mpr hno), State.resumeService_eq]
    rfl

theorem State.configured_iff (s : State) : s.configured = true ↔ s.service.state = .starting ∧ s.setup.place ≠ none
    ∧ s.fare.faresLoaded = true ∧ ∃ k ∈ s.check.keys.toList, k.state = .active := by
  simp only [State.configured, Bool.and_eq_true, decide_eq_true_iff, List.any_eq_true, Option.isSome_iff_ne_none, and_assoc]

/-- The first CENSUS of a ring just ISOLATED (R105, R168). -/
theorem State.sendCensus_isolated (s : State) : (s.setRing { s.ring with state := .isolated }).sendCensus = { s with
    ring := { Claims.joined s.ring (.census s.gate 0) with state := .isolated, censusStart := some s.now } } := by
  have hjoined (r : Ring) (m : RingMessage) : Claims.joined { r with state := .isolated } m
      = { Claims.joined r m with state := .isolated } := by
    by_cases h : r.queue.length < 32
    · rw [Claims.joined, Claims.joined, if_pos h, if_pos h]
    · rw [Claims.joined, Claims.joined, if_neg h, if_neg h]
  unfold State.sendCensus
  simp only [State.send_eq, State.setRing, hjoined]
  rfl

theorem exec_configDone_of_configured {s t : State} (hs : s.listening) (hok : s.configured = true)
    (ht : stateAnswer .done s.hunting.leaveStarting = { result := .done, fields := [codeIn serviceStateList t.service.state], after := t.hunting }) :
    exec (.configDone []) s = .next (t.replying 0x0A .done [codeIn serviceStateList t.service.state]) :=
  whenRunning_request_of_listening hs rfl ((if_pos (by exact hok)).trans ht)

theorem onAsked_of_off {u : FaceUnit} (h : u.state = .off) (now : Word) : Claims.onAsked u now = Claims.settlingFrom u now := by
  simp only [Claims.onAsked, h]

theorem State.abortContexts_of_idle {s : State} (r : Reason) (hstreet : s.contexts.street.state = .idle)
    (hpaid : s.contexts.paid.state = .idle) : s.abortContexts r = s := by
  rw [State.abortContexts, State.abortContext_of_resting (f := .street) r (.inl hstreet),
    State.abortContext_of_resting (f := .paid) r (.inl hpaid)]

/-- With no transaction in progress EMERGENCY hands the faces their request alone. -/
theorem State.enterFree_emergency_of_idle {s : State} (hstreet : s.contexts.street.state = .idle)
    (hpaid : s.contexts.paid.state = .idle) :
    (s.enterFree .emergency).ring = s.ring ∧ (s.enterFree .emergency).contexts = s.contexts
    ∧ (s.enterFree .emergency).faces = { street := faceAsked s.service.state .emergency s.now s.faces.street
                                         paid := faceAsked s.service.state .emergency s.now s.faces.paid } := by
  have hbefore : ∃ j v a n, ((s.setServiceState .emergency).cancelGrants).drew 1
      = { s with journal := j, service := v, aisle := a, freeCount := n } := by
    rw [State.cancelGrants_eq, State.appendAll_eq]
    exact ⟨_, _, _, _, rfl⟩
  obtain ⟨j, v, a, n, hbefore⟩ := hbefore
  have hcontexts (old : ServiceState) : ∀ u c, contextAsked old .emergency u c = c := fun u c => if_neg (by simp [ServiceState.wantsField])
  have hafter : ∃ b, s.enterFree .emergency = { ({ s with journal := j, service := v, aisle := a, freeCount := n } : State).fieldRequests
      s.service.state .emergency with aisle := b } := by
    have hrequests := State.fieldRequests_eq { s with journal := j, service := v, aisle := a, freeCount := n } s.service.state .emergency
    simp only [hcontexts] at hrequests
    unfold State.enterFree
    simp only [hbefore, State.handToContexts]
    rw [State.abortContexts_of_idle (s := { s with journal := j, service := v, aisle := a, freeCount := n }) _ hstreet hpaid,
      State.abortContexts_of_idle _ (by rw [hrequests]; exact hstreet) (by rw [hrequests]; exact hpaid), ite_self]
    exact ⟨_, rfl⟩
  obtain ⟨b, hafter⟩ := hafter
  rw [hafter, State.fieldRequests_eq]
  simp only [hcontexts]
  trivial

theorem configDoneLeavesStarting (s : State) (hs : s.listening) (hok : s.configured = true) (hstarting : s.service.state = .starting) :
    (s.service.emergency.accepted = true → ∃ t : State, exec (.configDone []) s = .next (t.replying 0x0A .done [3])
        ∧ t.service.state = .emergency ∧ t.service.flags.service = true ∧ t.aisle.leaf = .free
        ∧ t.ring.state = .isolated ∧ t.ring.censusStart = some s.now
        ∧ (s.faces.street.state = .off ∧ s.faces.paid.state = .off → s.contexts.street.state = .idle → s.contexts.paid.state = .idle →
          t.ring = { Claims.joined s.ring (.census s.gate 0) with state := .isolated, censusStart := some s.now }
          ∧ t.faces = { street := Claims.settlingFrom s.faces.street s.now, paid := Claims.settlingFrom s.faces.paid s.now }
          ∧ t.contexts = s.contexts))
    ∧ (s.service.emergency.accepted = false → s.faces.street.state = .off ∧ s.faces.paid.state = .off →
      exec (.configDone []) s = .next (({ s with
        service := { s.service with state := .inService }
        faces := { street := Claims.settlingFrom s.faces.street s.now, paid := Claims.settlingFrom s.faces.paid s.now }
        ring := { Claims.joined s.ring (.census s.gate 0) with state := .isolated, censusStart := some s.now } } :
          State).replying 0x0A .done [1])) := by
  refine ⟨fun hemergency => ?emergency, fun hreleased hoff => ?inService⟩
  case emergency =>
    have hentered := s.hunting.enterFree_entered entersFree_emergency
    obtain ⟨-, -, -, hnow, hlink, -, -, -, hsetup⟩ := s.hunting.enterFree_keeps .emergency
    have hidle := State.enterFree_emergency_of_idle (s := s.hunting)
    have hleaves : s.hunting.leaveStarting = { (s.hunting.enterFree .emergency).raise .service with
        ring := { Claims.joined (s.hunting.enterFree .emergency).ring (.census s.gate 0) with
          state := .isolated, censusStart := some (s.hunting.enterFree .emergency).now } } := by
      rw [State.leaveStarting, if_pos (by exact hemergency)]
      refine (State.sendCensus_isolated _).trans ?_
      have hgate : ((s.hunting.enterFree .emergency).raise .service).gate = s.gate := by
        change ((s.hunting.enterFree .emergency).setup.place.map (·.gate)).getD 0 = _
        rw [hsetup]
        rfl
      rw [hgate]
      rfl
    have hhunting : s.hunting.leaveStarting.hunting = s.hunting.leaveStarting :=
      State.hunting_of_collector (by rw [hleaves]; exact (congrArg Link.collector hlink :))
    have hservice := hentered.service
    have haisle := hentered.aisle
    have hstate : s.hunting.leaveStarting.service.state = .emergency := by
      rw [hleaves]
      exact (congrArg Service.state hservice :)
    refine ⟨s.hunting.leaveStarting, ?_, ?_⟩
    · have hexec := exec_configDone_of_configured hs hok (t := s.hunting.leaveStarting) (by rw [hhunting]; rfl)
      rw [hstate] at hexec
      exact hexec
    · rw [hleaves]
      generalize s.hunting.enterFree .emergency = t at *
      refine ⟨(congrArg Service.state hservice :), rfl, (congrArg Aisle.leaf haisle :), rfl, congrArg some hnow, fun hoff hstreet hpaid => ?_⟩
      obtain ⟨hring, hcontexts, hfaces⟩ := hidle hstreet hpaid
      refine ⟨by rw [hring, hnow]; rfl, ?_, hcontexts⟩
      refine Eq.trans (b := _) (by exact hfaces) ?_
      rw [← onAsked_of_off hoff.1, ← onAsked_of_off hoff.2]
      have hold : s.hunting.service.state = .starting := hstarting
      rw [hold]
      rfl
  case inService =>
    have hleaves : s.hunting.leaveStarting = ({ s with
        service := { s.service with state := .inService }
        faces := { street := Claims.settlingFrom s.faces.street s.now, paid := Claims.settlingFrom s.faces.paid s.now }
        ring := { Claims.joined s.ring (.census s.gate 0) with state := .isolated, censusStart := some s.now } } : State).hunting := by
      rw [State.leaveStarting, if_neg (by exact ne_true_of_eq_false hreleased), State.enterPlain, State.fieldRequests_eq]
      refine (State.sendCensus_isolated _).trans ?_
      have hold : s.hunting.service.state = .starting := hstarting
      rw [hold, ← onAsked_of_off hoff.1, ← onAsked_of_off hoff.2]
      rfl
    refine exec_configDone_of_configured hs hok ?_
    rw [hleaves]
    rfl

theorem exec_setService_of_listening {s t : State} {b : Byte} {r : Result} {fields : List Byte} (hs : s.listening)
    (hans : (match decodeIn serviceStateList b with
      | some target => stateAnswer (s.hunting.setServiceTarget target).1 (s.hunting.setServiceTarget target).2
      | none => stateAnswer .outOfRange s.hunting) = { result := r, fields := fields, after := t.hunting }) :
    exec (.setService [b]) s = .next (t.replying 0x0B r fields) :=
  whenRunning_request_of_listening hs rfl hans

/-- SET SERVICE to a state with a code (R169). -/
theorem exec_setService_of_target {s t : State} {b : Byte} {target : ServiceState} {r : Result} (hs : s.listening)
    (htarget : decodeIn serviceStateList b = some target) (hset : s.hunting.setServiceTarget target = (r, t.hunting)) :
    exec (.setService [b]) s = .next (t.replying 0x0B r [codeIn serviceStateList t.service.state]) := by
  refine exec_setService_of_listening hs ?_
  simp only [htarget, hset]
  rfl

theorem setServiceMovesBetweenTwoStates (s : State) (target : Byte) (hs : s.listening) :
    (s.service.state = .inService → target = 1 → exec (.setService [target]) s = .next (s.replying 0x0B .done [1]))
    ∧ (s.service.state = .closed → target = 2 → exec (.setService [target]) s = .next (s.replying 0x0B .done [2]))
    ∧ (s.service.state = .inService → target = 2 →
        exec (.setService [target]) s = .next (({ s with
          service := { s.service with state := .closed }
          faces := { street := Claims.offAsked s.faces.street, paid := Claims.offAsked s.faces.paid }
          contexts :=
            { street := Claims.cardGone s.faces.street s.contexts.street, paid := Claims.cardGone s.faces.paid s.contexts.paid } } :
          State).replying 0x0B .done [2]))
    ∧ (s.service.state = .closed → target = 1 →
        exec (.setService [target]) s = .next (({ s with
          service := { s.service with state := .inService }
          faces := { street := Claims.onAsked s.faces.street s.now, paid := Claims.onAsked s.faces.paid s.now } } :
          State).replying 0x0B .done [1]))
    ∧ (target.toNat < 5 → (target ≠ 1 ∧ target ≠ 2) ∨ (s.service.state ≠ .inService ∧ s.service.state ≠ .closed) →
        exec (.setService [target]) s = .next (s.replying 0x0B .wrongState [codeIn serviceStateList s.service.state]))
    ∧ (5 ≤ target.toNat →
        exec (.setService [target]) s = .next (s.replying 0x0B .outOfRange [codeIn serviceStateList s.service.state])) := by
  have hstate : s.hunting.service.state = s.service.state := rfl
  refine ⟨fun hst htarget => ?stays, fun hst htarget => ?stays', fun hst htarget => ?closes, fun hst htarget => ?opens,
    fun hlt hno => ?refused, fun hge => ?uncoded⟩
  case stays =>
    subst htarget
    refine (exec_setService_of_target hs rfl ?_).trans (by rw [hst]; rfl)
    simp [State.setServiceTarget, hstate, hst]
  case stays' =>
    subst htarget
    refine (exec_setService_of_target hs rfl ?_).trans (by rw [hst]; rfl)
    simp [State.setServiceTarget, hstate, hst]
  case closes =>
    subst htarget
    refine exec_setService_of_target (target := .closed) hs rfl ?_
    rw [State.setServiceTarget, if_pos ⟨hst, rfl⟩, State.enterPlain, State.fieldRequests_eq, hstate, hst]
    rfl
  case opens =>
    subst htarget
    refine exec_setService_of_target (target := .inService) hs rfl ?_
    rw [State.setServiceTarget, if_neg (by simp), if_pos ⟨hst, rfl⟩, State.enterPlain, State.fieldRequests_eq, hstate, hst]
    rfl
  case refused =>
    obtain ⟨x, hx⟩ := decodeIn_of_lt (l := serviceStateList) (b := target) hlt
    refine exec_setService_of_target hs hx ?_
    have hcode := codeIn_of_decodeIn (by decide) hx
    have hx1 : target ≠ 1 → x ≠ .inService := by
      rintro h rfl
      exact h hcode.symm
    have hx2 : target ≠ 2 → x ≠ .closed := by
      rintro h rfl
      exact h hcode.symm
    unfold State.setServiceTarget
    rw [hstate]
    rcases hno with ⟨h1, h2⟩ | ⟨h1, h2⟩
    · rw [if_neg (fun h => hx2 h2 h.2), if_neg (fun h => hx1 h1 h.2), if_neg ?_]
      rintro ⟨hst | hst, hxs⟩
      · exact hx1 h1 (hxs.trans hst)
      · exact hx2 h2 (hxs.trans hst)
    · rw [if_neg (fun h => h1 h.1), if_neg (fun h => h2 h.1), if_neg (fun h => h.1.elim h1 h2)]
  case uncoded =>
    have hnone := (decodeIn_eq_none_iff serviceStateList target).mpr hge
    refine exec_setService_of_listening hs ?_
    simp only [hnone]
    rfl

theorem configDoneAndSetServiceChangeState : Claims.ConfigDoneAndSetServiceChangeState := by
  unfold Claims.ConfigDoneAndSetServiceChangeState
  refine ⟨fun s hs => ?_, fun s target hs => setServiceMovesBetweenTwoStates s target hs⟩
  dsimp only
  rw [← s.configured_iff]
  refine ⟨fun hno => ?_, fun hok => (configDoneLeavesStarting s hs hok (s.configured_iff.mp hok).1).1,
    fun hok => (configDoneLeavesStarting s hs hok (s.configured_iff.mp hok).1).2⟩
  exact whenRunning_request_of_listening hs rfl (if_neg (by exact hno))

/-- Settles O8: EMERGENCY by what an entry leaves (`Entered`), the other three by what their field requests and the leaf's moves make of
the state. -/
theorem serviceStateRequestsMoveTheState : Obligations.ServiceStateRequestsMoveTheState :=
  ⟨emergencyRequestEntersEmergency, resumeReturnsToService, configDoneAndSetServiceChangeState⟩

end Sys2Proof.Machine
end

section
/-! SUPPORT. Settles O44 and O45: the limits and timers of the leaf, the expiry of grants, and the ends of alarms and tones (section 7). -/

namespace Sys2Proof.Machine

-- One declaration at a time: each waiting elaboration thread counts against the memory limit of the one text.
set_option Elab.async false

/-! ### O44: the leaf (R157 to R162) -/

theorem exec_limitDebounceExpiry_of_due {s : State} {l : Limit} (hp : s.power = .running)
    (h : Claims.passed s.now (s.aisle.limit l).pendingSince debounceTime) : exec (.limitDebounceExpiry l) s = .next (s.acceptLimit l) := by
  change execLimitDebounceExpiry l s = _
  rw [execLimitDebounceExpiry, whenRunning_of_running _ hp, if_pos ((due_iff_passed _ _ _).mpr h)]

theorem exec_limitDebounceExpiry_of_early {s : State} {l : Limit} (hp : s.power = .running)
    (h : ¬ Claims.passed s.now (s.aisle.limit l).pendingSince debounceTime) : exec (.limitDebounceExpiry l) s = .next s := by
  change execLimitDebounceExpiry l s = _
  rw [execLimitDebounceExpiry, whenRunning_of_running _ hp, if_neg (mt (due_iff_passed _ _ _).mp h)]

theorem Aisle.limitAsserted_openLimit (a : Aisle) (now : Word) : a.limitAsserted .openLimit now =
    if a.leaf = .opening ∨ a.leaf = .jammed then Claims.reachesOpen a now else a := by
  rw [← Aisle.reachOpen_eq]
  unfold Aisle.limitAsserted
  cases h : a.leaf <;> simp

theorem Aisle.limitAsserted_closedLimit (a : Aisle) (now : Word) : a.limitAsserted .closedLimit now =
    if a.leaf = .closing ∨ a.leaf = .jammed then Claims.reachesClosed a now else a := by
  rw [← Aisle.reachClosed_eq]
  unfold Aisle.limitAsserted
  cases h : a.leaf <;> simp

theorem State.acceptLimit_of_assertion {s : State} {l : Limit} (h : (s.aisle.limit l).accepted = false) : s.acceptLimit l =
    s.setAisle ((s.aisle.setLimit l { s.aisle.limit l with accepted := true, pendingSince := none }).limitAsserted l s.now) := by
  simp only [State.acceptLimit, h, Bool.not_false, if_true]

theorem State.acceptLimit_of_release {s : State} {l : Limit} (h : (s.aisle.limit l).accepted = true) : s.acceptLimit l =
    if l = .closedLimit ∧ (s.aisle.setLimit l { s.aisle.limit l with accepted := false, pendingSince := none }).leaf = .closed then
      (s.setAisle (s.aisle.setLimit l { s.aisle.limit l with accepted := false, pendingSince := none })).raiseFault .leafForced
    else s.setAisle (s.aisle.setLimit l { s.aisle.limit l with accepted := false, pendingSince := none }) := by
  simp only [State.acceptLimit, h, Bool.not_true, Bool.false_eq_true, if_false]

/-- Settles O44, by the limit and the level it takes, then by the two timers. -/
theorem limitsAndTimersMoveTheLeaf : Obligations.LimitsAndTimersMoveTheLeaf := by
  unfold Obligations.LimitsAndTimersMoveTheLeaf
  intro s hp a due' faulted openAs closedAs
  have hdue (start : Option Word) (life : Nat) : due s.now start life = true ↔ due' start life := due_iff ..
  refine ⟨fun hyes => ⟨fun h => ?opened, fun h => ?openReleased⟩, fun hyes => ⟨fun h => ?closed, fun h hleaf => ?closedReleased,
    fun h hleaf => ?forced⟩, fun hno => ?openEarly, fun hno => ?closedEarly, ?travel, ?delay⟩
  case opened =>
    rw [exec_limitDebounceExpiry_of_due (l := .openLimit) hp hyes, State.acceptLimit_of_assertion (l := .openLimit) h,
      Aisle.limitAsserted_openLimit]
    rfl
  case openReleased =>
    rw [exec_limitDebounceExpiry_of_due (l := .openLimit) hp hyes, State.acceptLimit_of_release (l := .openLimit) h,
      if_neg (fun hc => nomatch hc.1)]
    rfl
  case closed =>
    rw [exec_limitDebounceExpiry_of_due (l := .closedLimit) hp hyes, State.acceptLimit_of_assertion (l := .closedLimit) h,
      Aisle.limitAsserted_closedLimit]
    rfl
  case closedReleased =>
    rw [exec_limitDebounceExpiry_of_due (l := .closedLimit) hp hyes, State.acceptLimit_of_release (l := .closedLimit) h,
      if_neg (fun hc => hleaf hc.2)]
    rfl
  case forced =>
    rw [exec_limitDebounceExpiry_of_due (l := .closedLimit) hp hyes, State.acceptLimit_of_release (l := .closedLimit) h,
      if_pos ⟨rfl, hleaf⟩]
    rfl
  case openEarly => exact exec_limitDebounceExpiry_of_early (l := .openLimit) hp hno
  case closedEarly => exact exec_limitDebounceExpiry_of_early (l := .closedLimit) hp hno
  case travel =>
    intro late
    have hexec : exec .travelTimeout s = .next
        (if (a.leaf = .opening ∨ a.leaf = .closing) ∧ due s.now a.travelStart travelTime = true then
          faulted (Claims.leafAt a .jammed none none) .leafTimeout else s) := by
      change execTravelTimeout s = _
      rw [execTravelTimeout, whenRunning_of_running _ hp]
      rfl
    have hlate : (a.leaf = .opening ∨ a.leaf = .closing) ∧ due s.now a.travelStart travelTime = true ↔ late :=
      and_congr_right' (hdue _ _)
    exact ⟨fun hyes => by rw [hexec, if_pos (hlate.mpr hyes)], fun hno => by rw [hexec, if_neg (mt hlate.mp hno)]⟩
  case delay =>
    intro past
    have hexec : exec .closeDelayExpiry s = .next
        (if a.leaf = .opened ∧ due s.now a.closeStart closeDelay = true then s.setAisle (a.startClosing s.now) else s) := by
      change execCloseDelayExpiry s = _
      rw [execCloseDelayExpiry, whenRunning_of_running _ hp]
    have hpast : a.leaf = .opened ∧ due s.now a.closeStart closeDelay = true ↔ past := and_congr_right' (hdue _ _)
    refine ⟨fun hyes h => ?_, fun hyes h => ?_, fun hno => by rw [hexec, if_neg (mt hpast.mp hno)]⟩
    · rw [hexec, if_pos (hpast.mpr hyes), Aisle.startClosing_eq, if_neg (ne_true_of_eq_false h)]
      rfl
    · rw [hexec, if_pos (hpast.mpr hyes), Aisle.startClosing_eq, if_pos h]
      rfl

/-! ### O45: grants that expire (R154, R156, R160) -/

theorem Aisle.anyGranted_eq_false_iff (a : Aisle) :
    a.anyGranted = false ↔ ∀ e ∈ a.queues.entry ++ a.queues.exit, e.isGranted = false := by
  rw [Aisle.anyGranted, List.any_eq_false]
  simp only [Bool.not_eq_true]

theorem Aisle.refreshClose_eq (a : Aisle) (t : Word) : a.refreshClose t = { a with closeStart := Claims.closeDelay a a.queues t } := by
  unfold Aisle.refreshClose Claims.closeDelay
  simp only [a.anyGranted_eq_false_iff]
  split <;> rfl

theorem QueueEntry.expires_iff (e : QueueEntry) (q now : Word) : e.expires q now = true ↔
    ∃ start life, e.state = .granted q start life false ∧ life ≤ (now - start).toNat := by
  obtain ⟨face, number, state⟩ := e
  cases state with
  | reserved => simp [QueueEntry.expires]
  | granted p start life deferred =>
    cases deferred
    · simp only [QueueEntry.expires, Bool.and_eq_true, decide_eq_true_iff, reached_iff, PlaceState.granted.injEq, and_true]
      constructor
      · rintro ⟨rfl, h⟩
        exact ⟨_, _, ⟨rfl, rfl, rfl⟩, h⟩
      · rintro ⟨_, _, ⟨rfl, rfl, rfl⟩, h⟩
        exact ⟨rfl, h⟩
    · simp [QueueEntry.expires]

theorem QueueEntry.defer_of_granted {e : QueueEntry} {q start : Word} {life : Nat} {b : Bool} (h : e.state = .granted q start life b) :
    e.defer = { e with state := .granted q start life true } := by
  simp only [QueueEntry.defer, h]

theorem QueueEntry.sequence_of_granted {e : QueueEntry} {q start : Word} {life : Nat} {b : Bool} (h : e.state = .granted q start life b) :
    e.sequence = some q := by
  simp only [QueueEntry.sequence, h]

theorem updateFirst_append_cons {α : Type} {p : α → Bool} (x : α → α) {before : List α} {e : α} (after : List α)
    (hbefore : ∀ y ∈ before, p y = false) (he : p e = true) :
    updateFirst p x (before ++ e :: after) = before ++ x e :: after := by
  induction before with
  | nil => exact if_pos he
  | cons y ys ih =>
    rw [List.cons_append, updateFirst, if_neg (ne_true_of_eq_false (hbefore y List.mem_cons_self)),
      ih fun z hz => hbefore z (List.mem_cons_of_mem _ hz)]
    rfl

theorem Aisle.runIn_iff (a : Aisle) (d : Direction) : a.runIn d = true ↔
    ∃ r, a.run = some r ∧ r.direction = (if d = .entry then .entry else .exit) := by
  unfold Aisle.runIn
  cases a.run with
  | none => simp
  | some r => cases d <;> simp

theorem State.expireGrant_eq (s : State) (d : Direction) (p : QueueEntry → Bool) (e : QueueEntry) {left : PerDirection (List QueueEntry)}
    (hleft : s.aisle.queues.set d ((s.aisle.queues.get d).eraseP p) = left) : s.expireGrant d p e = { s with
    aisle := { s.aisle with
      queues := left
      counters := s.aisle.counters.set d { s.aisle.counters.get d with expired := (s.aisle.counters.get d).expired + 1 }
      lock := if s.aisle.mode = .bidirectional ∧ left.entry = [] ∧ left.exit = [] ∧ s.aisle.clear = true then .unlocked
        else s.aisle.lock
      closeStart := Claims.closeDelay s.aisle left s.now }
    journal := s.journal.with (.passage .expired) s.stamp e.face
      { RecordFields.blank with number := some e.number, reference := e.sequence }
    service := { s.service with flags := s.service.flags.afterRecord s.freeSlots } } := by
  unfold State.expireGrant State.recordExpired State.recordPassage
  rw [hleft, State.append_eq]
  simp only [State.count, State.checkLock, State.setAisle, Aisle.checkLock_eq, Aisle.refreshClose_eq]
  rfl

theorem exec_grantExpiry_of_none {s : State} {d : Direction} {q : Word} (hp : s.power = .running)
    (h : (s.aisle.queues.get d).find? (fun e => e.expires q s.now) = none) : exec (.grantExpiry d q) s = .next s := by
  change execGrantExpiry d q s = _
  rw [execGrantExpiry, whenRunning_of_running _ hp]
  simp only [h]

theorem exec_grantExpiry_of_some {s : State} {d : Direction} {q : Word} {e : QueueEntry} (hp : s.power = .running)
    (h : (s.aisle.queues.get d).find? (fun e => e.expires q s.now) = some e) : exec (.grantExpiry d q) s = .next
    (if s.aisle.runIn d then
      s.setAisle { s.aisle with
        queues := s.aisle.queues.set d (updateFirst (fun e => e.expires q s.now) QueueEntry.defer (s.aisle.queues.get d)) }
    else s.expireGrant d (fun e => e.expires q s.now) e) := by
  change execGrantExpiry d q s = _
  rw [execGrantExpiry, whenRunning_of_running _ hp]
  simp only [h]

theorem grantsExpireOrAreDeferred : Claims.GrantsExpireOrAreDeferred := by
  unfold Claims.GrantsExpireOrAreDeferred
  intro s d q hp expires runs
  have hexpires (e : QueueEntry) : e.expires q s.now = true ↔ expires e := e.expires_iff q s.now
  refine ⟨fun hnone => exec_grantExpiry_of_none hp ?_, fun before e after hqueue he hbefore => ?_⟩
  · rw [List.find?_eq_none]
    intro e he hexp
    obtain ⟨start, life, hstate, hlate⟩ := (hexpires e).mp hexp
    exact absurd (hnone e he start life hstate) (Nat.not_lt.mpr hlate)
  · have hskip : ∀ y ∈ before, QueueEntry.expires y q s.now = false := fun y hy =>
      Bool.eq_false_iff.mpr (mt (hexpires y).mp (hbefore y hy))
    have hmeets : e.expires q s.now = true := (hexpires e).mpr he
    have hfind : (s.aisle.queues.get d).find? (fun e => e.expires q s.now) = some e := by
      rw [hqueue, List.find?_append, List.find?_eq_none.mpr (fun y hy => ne_true_of_eq_false (hskip y hy)), Option.none_or]
      exact List.find?_cons_of_pos hmeets
    have herase : (s.aisle.queues.get d).eraseP (fun e => e.expires q s.now) = before ++ after := by
      rw [hqueue, List.eraseP_append_right _ (fun y hy => ne_true_of_eq_false (hskip y hy))]
      exact congrArg (before ++ ·) (List.eraseP_cons_of_pos hmeets)
    obtain ⟨start, life, hstate, -⟩ := he
    rw [exec_grantExpiry_of_some hp hfind]
    refine ⟨fun hruns => ⟨start, life, hstate, ?_⟩, fun hno => ?_⟩
    · rw [if_pos ((s.aisle.runIn_iff d).mpr hruns), hqueue, updateFirst_append_cons _ _ hskip hmeets,
        QueueEntry.defer_of_granted hstate]
      rfl
    · rw [if_neg (mt (s.aisle.runIn_iff d).mp hno), State.expireGrant_eq _ _ _ _ rfl, herase, QueueEntry.sequence_of_granted hstate]
      rfl

/-! ### O45: alarms and short tones (R138, R149, R165) -/

theorem exec_passageAlarmEnd_of_since {s : State} {t : Word} (hp : s.power = .running) (h : s.aisle.passageAlarm = .since t) :
    exec .passageAlarmEnd s = .next
      (if reached s.now t alarmTime then s.setAisle { s.aisle with passageAlarm := .silent } else s) := by
  change execPassageAlarmEnd s = _
  rw [execPassageAlarmEnd, whenRunning_of_running _ hp]
  simp only [h]

theorem exec_passageAlarmEnd_of_not_since {s : State} (hp : s.power = .running)
    (h : s.aisle.passageAlarm = .silent ∨ s.aisle.passageAlarm = .runInProgress) : exec .passageAlarmEnd s = .next s := by
  change execPassageAlarmEnd s = _
  rw [execPassageAlarmEnd, whenRunning_of_running _ hp]
  rcases h with h | h <;> simp only [h]

theorem exec_watchAlarmEnd_of_running {s : State} (hp : s.power = .running) : exec .watchAlarmEnd s = .next
    (if due s.now s.aisle.watchAlarm alarmTime then s.setAisle { s.aisle with watchAlarm := none } else s) := by
  change execWatchAlarmEnd s = _
  rw [execWatchAlarmEnd, whenRunning_of_running _ hp]

theorem exec_shortToneEnd_of_tone {s : State} {f : Face} {tone : ShortTone} {t : Word} (hp : s.power = .running)
    (h : s.aisle.tones.get f = some (tone, t)) : exec (.shortToneEnd f) s = .next
      (if reached s.now t (toneTime tone) then s.setAisle { s.aisle with tones := s.aisle.tones.set f none } else s) := by
  change execShortToneEnd f s = _
  rw [execShortToneEnd, whenRunning_of_running _ hp]
  simp only [h]

theorem exec_shortToneEnd_of_silence {s : State} {f : Face} (hp : s.power = .running) (h : s.aisle.tones.get f = none) :
    exec (.shortToneEnd f) s = .next s := by
  change execShortToneEnd f s = _
  rw [execShortToneEnd, whenRunning_of_running _ hp]
  simp only [h]

theorem alarmsAndTonesEnd : Claims.AlarmsAndTonesEnd := by
  intro s hp
  refine ⟨fun t h => ?_, fun h => exec_passageAlarmEnd_of_not_since hp h, fun t h => ?_, fun h => ?_, fun f tone t h => ?_,
    fun f h => exec_shortToneEnd_of_silence hp h⟩
  · rw [exec_passageAlarmEnd_of_since hp h]
    simp only [reached_iff]
    rfl
  · rw [exec_watchAlarmEnd_of_running hp, h]
    simp only [due, reached_iff]
    rfl
  · rw [exec_watchAlarmEnd_of_running hp, h]
    rfl
  · rw [exec_shortToneEnd_of_tone hp h]
    simp only [reached_iff, toneTime_eq]
    rfl

/-- Settles O45: the queue's entry that expires first, and each alarm and tone by its time. -/
theorem grantsAlarmsAndTonesEnd : Obligations.GrantsAlarmsAndTonesEnd := ⟨grantsExpireOrAreDeferred, alarmsAndTonesEnd⟩

end Sys2Proof.Machine
end

section
/-! SUPPORT. Settles O43: the inputs' pending changes, and a beam blocked for 60 s; with the end of a run (R140 to R142, R149, R157,
R170). -/

namespace Sys2Proof.Machine

-- One declaration at a time: each waiting elaboration thread counts against the memory limit of the one text.
set_option Elab.async false

/-! ### The clear aisle (R143) -/

theorem BeamInput.countsBlocked_iff (u : BeamInput) : u.countsBlocked = true ↔ u.blocked = true ∧ u.stuck = false := by
  rw [BeamInput.countsBlocked, Bool.and_eq_true, Bool.not_eq_true']

theorem Claims.counts_iff (a : Aisle) (b : Beam) : Claims.counts a b ↔ (a.beams.get b).countsBlocked = true :=
  (BeamInput.countsBlocked_iff _).symm

theorem Aisle.clear_iff_counts (a : Aisle) : a.clear = true ↔ ∀ b, ¬ Claims.counts a b := by
  simp only [a.clear_iff, Claims.counts_iff, Bool.not_eq_true]

theorem Aisle.clear_eq_false_iff (a : Aisle) : a.clear = false ↔ ∃ b, Claims.counts a b := by
  rw [← Bool.not_eq_true, a.clear_iff_counts, not_forall]
  simp only [not_not]

/-- A beam that counts as clear leaves the aisle clear where no other beam counts as blocked. -/
theorem Aisle.clear_of_beam_clear {a a' : Aisle} {b : Beam} {u : BeamInput} (hbeams : a'.beams = a.beams.set b u)
    (hu : u.countsBlocked = false) : a'.clear = true ↔ ∀ c, c ≠ b → ¬ Claims.counts a c := by
  rw [a'.clear_iff_counts]
  have hother {c : Beam} (hc : c ≠ b) : Claims.counts a' c ↔ Claims.counts a c := by
    rw [Claims.counts, hbeams, PerBeam.get_set_ne _ _ hc, Claims.counts]
  refine ⟨fun h c hc => (hother hc).not.mp (h c), fun h c => ?_⟩
  by_cases hc : c = b
  · rw [Claims.counts_iff, hbeams, hc, PerBeam.get_set, hu]
    exact Bool.false_ne_true
  · exact (hother hc).not.mpr (h c hc)

/-! ### The end of a run (R149) -/

theorem PerDirection.set_set {α : Type} (p : PerDirection α) (d : Direction) (x y : α) : (p.set d x).set d y = p.set d y := by
  cases d <;> rfl

theorem State.classifies_iff (s : State) : s.classifies = true ↔ s.service.state = .inService ∨ s.service.state = .closed :=
  decide_eq_true_iff

theorem State.withdrawRun_eq (s : State) (r : Run) : s.withdrawRun r = { s with aisle := { s.aisle with
    counters := s.aisle.counters.set r.countsUnder { s.aisle.counters.get r.countsUnder with
      withdrawn := if r.crossings = 0 ∧ (s.service.state = .inService ∨ s.service.state = .closed)
        then (s.aisle.counters.get r.countsUnder).withdrawn + 1 else (s.aisle.counters.get r.countsUnder).withdrawn } } } := by
  unfold State.withdrawRun
  simp only [s.classifies_iff]
  split
  · rfl
  · cases r.countsUnder <;> rfl

/-- Grants that end EXPIRED one after the other: their records, and their count. -/
theorem State.foldl_recordExpired_eq (l : List QueueEntry) (s : State) (d : Direction) :
    l.foldl (fun t e => t.recordExpired d e) s = { s.appendAll (l.map (passageDraft s.stamp .expired)) with
      aisle := { s.aisle with counters := s.aisle.counters.set d { s.aisle.counters.get d with
        expired := (s.aisle.counters.get d).expired + BitVec.ofNat 32 l.length } } } := by
  induction l generalizing s with
  | nil =>
    simp only [List.foldl_nil, List.map_nil, List.length_nil, BitVec.add_zero]
    cases d <;> rfl
  | cons e l ih =>
    have hone : s.recordExpired d e = { s.appendAll [passageDraft s.stamp .expired e] with
        aisle := { s.aisle with counters := s.aisle.counters.set d { s.aisle.counters.get d with
          expired := (s.aisle.counters.get d).expired + 1 } } } := by
      rw [State.recordExpired, State.recordPassage, State.append_eq, State.appendAll, List.foldl_cons, List.foldl_nil, State.append_eq]
      rfl
    have hcount (x : Word) : x + 1 + BitVec.ofNat 32 l.length = x + BitVec.ofNat 32 (l.length + 1) := by
      rw [BitVec.add_assoc, BitVec.add_comm 1, BitVec.ofNat_add]
      rfl
    have happended (u : State) (a : Aisle) (m : List Draft) : ({ u with aisle := a } : State).appendAll m = { u.appendAll m with aisle := a } := by
      rw [State.appendAll_eq, State.appendAll_eq]
      rfl
    have hstamp : (s.recordExpired d e).stamp = s.stamp := by
      rw [hone, State.appendAll_eq]
      rfl
    rw [List.foldl_cons, ih, hstamp, hone, happended]
    simp only [PerDirection.get_set, PerDirection.set_set, hcount, List.length_cons]
    rfl

theorem State.expireDeferred_eq (s : State) (d : Direction) : s.expireDeferred d =
    { s.appendAll (((s.aisle.queues.get d).filter QueueEntry.isDeferred).map (passageDraft s.stamp .expired)) with
      aisle := { s.aisle with
        queues := s.aisle.queues.set d ((s.aisle.queues.get d).filter fun e => !e.isDeferred)
        counters := s.aisle.counters.set d { s.aisle.counters.get d with
          expired := (s.aisle.counters.get d).expired
            + BitVec.ofNat 32 ((s.aisle.queues.get d).filter QueueEntry.isDeferred).length } } } := by
  rw [State.expireDeferred, State.foldl_recordExpired_eq, State.appendAll_eq, State.appendAll_eq]
  rfl

/-- With the run over in a clear aisle, the lock and the close delay follow the queues (R149, R156, R160). -/
theorem State.runOver_eq {s : State} (t : Word) (hclear : s.aisle.clear = true) :
    (s.setAisle { s.aisle with run := none }).checkLock.setAisle
      ((s.setAisle { s.aisle with run := none }).checkLock.aisle.refreshClose t)
    = { s with aisle := { s.aisle with
        run := none
        lock := if s.aisle.mode = .bidirectional ∧ s.aisle.queues.entry = [] ∧ s.aisle.queues.exit = [] then .unlocked
          else s.aisle.lock
        closeStart := Claims.closeDelay s.aisle s.aisle.queues t } } := by
  have hlock : (s.aisle.mode = .bidirectional ∧ s.aisle.queues.entry = [] ∧ s.aisle.queues.exit = [] ∧ s.aisle.clear = true)
      ↔ s.aisle.mode = .bidirectional ∧ s.aisle.queues.entry = [] ∧ s.aisle.queues.exit = [] :=
    ⟨fun ⟨hmode, hentry, hexit, _⟩ => ⟨hmode, hentry, hexit⟩, fun ⟨hmode, hentry, hexit⟩ => ⟨hmode, hentry, hexit, hclear⟩⟩
  simp only [State.checkLock, State.setAisle, Aisle.checkLock_eq, Aisle.refreshClose_eq]
  rw [← if_congr hlock rfl rfl]
  rfl

/-- What a run's end leaves does not depend on the run's marks. -/
theorem State.endRun_eq {s : State} {r r' : Run} (t : Word) (hrun : s.aisle.run = some r') (hclear : s.aisle.clear = true)
    (hsame : r'.direction = r.direction ∧ r'.side = r.side ∧ r'.crossings = r.crossings ∧ r'.alarmed = r.alarmed) :
    s.endRun t = Claims.runEnded s r t := by
  obtain ⟨hdirection, hside, hcrossings, halarmed⟩ := hsame
  have halarm (u : State) : (if r'.alarmed then u.setAisle { u.aisle with passageAlarm := .since t } else u)
      = u.setAisle { u.aisle with passageAlarm := if r.alarmed then .since t else u.aisle.passageAlarm } := by
    rw [halarmed]
    cases r.alarmed <;> rfl
  have hnone (x : Word) : x + BitVec.ofNat 32 0 = x := BitVec.add_zero x
  unfold State.endRun Claims.runEnded
  simp only [hrun, halarm, State.withdrawRun_eq, Run.countsUnder, hdirection, hside, hcrossings]
  cases hd : r.direction with
  | unknown =>
    simp only [if_true, List.length_nil, hnone]
    refine (State.runOver_eq t (by exact hclear)).trans ?_
    simp only [List.mapIdx_nil, List.append_nil, List.range_zero, List.any_nil, Bool.or_false]
    rfl
  | entry =>
    simp only [State.expireDeferred_eq, State.appendAll_eq, reduceCtorEq, if_false]
    refine (State.runOver_eq t (by exact hclear)).trans ?_
    simp only [recordsFrom_map, List.length_map]
    rfl
  | exit =>
    simp only [State.expireDeferred_eq, State.appendAll_eq, reduceCtorEq, if_false]
    refine (State.runOver_eq t (by exact hclear)).trans ?_
    simp only [recordsFrom_map, List.length_map]
    rfl

/-! ### O43: input changes (R140, R141, R157, R170) -/

theorem BeamInput.read_eq (u : BeamInput) (now : Word) : u.read now = { u with
    pendingSince := if decide (u.readsBlocked ≠ u.blocked) then some (u.pendingSince.getD now) else none } := by
  unfold BeamInput.read
  by_cases h : u.readsBlocked = u.blocked
  · rw [if_pos h, if_neg (by simp [h])]
  · rw [if_neg h, if_pos (by simp [h])]

theorem LineInput.change_eq (u : LineInput) (running level : Bool) (now : Word) : u.change running level now = { u with
    level := level
    pendingSince := if running then (if decide (level ≠ u.accepted) then some (u.pendingSince.getD now) else none)
      else u.pendingSince } := by
  unfold LineInput.change LineInput.read
  cases running with
  | false => rfl
  | true =>
    by_cases h : level = u.accepted
    · simp [h]
    · simp [h]

theorem inputChangesBeginOrDropAPendingChange : Claims.InputChangesBeginOrDropAPendingChange := by
  unfold Claims.InputChangesBeginOrDropAPendingChange
  intro s since
  have hline (u : LineInput) (level : Bool) : u.change (decide (s.power = .running)) level s.now
      = { u with level := level, pendingSince := since (decide (level ≠ u.accepted)) u.pendingSince } := by
    rw [LineInput.change_eq]
    simp only [since, decide_eq_true_iff]
  refine ⟨fun b high => ?_, fun level => ⟨?_, ?_, ?_⟩⟩
  · change execBeamInputChange b high s = _
    unfold execBeamInputChange
    by_cases hp : s.power = .running
    · simp only [since, if_pos hp, BeamInput.read_eq, BeamInput.readsBlocked]
      rfl
    · simp only [since, if_neg hp]
      rfl
  · change Host.Outcome.next (s.setAisle { s.aisle with
      openLimit := s.aisle.openLimit.change (decide (s.power = .running)) level s.now }) = _
    rw [hline]
    rfl
  · change Host.Outcome.next (s.setAisle { s.aisle with
      closedLimit := s.aisle.closedLimit.change (decide (s.power = .running)) level s.now }) = _
    rw [hline]
    rfl
  · change Host.Outcome.next (s.setService { s.service with
      emergency := s.service.emergency.change (decide (s.power = .running)) level s.now }) = _
    rw [hline]
    rfl

/-! ### O43: stuck beams (R142) -/

theorem State.raiseFault_beams (s : State) (k : FaultKind) :
    (s.raiseFault k).aisle.beams = s.aisle.beams ∧ (s.raiseFault k).aisle.run = s.aisle.run := by
  by_cases hl : s.service.state = .lockdown
  · rw [s.raiseFault_of_lockdown k hl]
    exact ⟨rfl, rfl⟩
  · by_cases hslot : s.service.faultSlot = none
    · rw [State.raiseFault_of_empty k hl hslot]
      exact ⟨rfl, rfl⟩
    · by_cases hs : s.service.state = .starting
      · rw [s.raiseFault_of_starting k hs hslot]
        exact ⟨rfl, rfl⟩
      · have hentered := (s.setService { s.service with
          lockdownCause := some (s.faultRecord k) }).enterFree_entered entersFree_lockdown
        have haisle := hentered.aisle
        rw [s.raiseFault_of_full k (ServiceState.cases_of_fault hl hs) hslot]
        exact ⟨(congrArg Aisle.beams haisle :), (congrArg Aisle.run haisle :)⟩

theorem Run.beamCleared_eq (r : Run) (b : Beam) : r.beamCleared b =
    { r with cleared2 := r.cleared2 || decide (b = .beam2), cleared3 := r.cleared3 || decide (b = .beam3) } := by
  cases b <;> simp [Run.beamCleared]

theorem State.becomeStuck_eq {s : State} {b : Beam} : s.becomeStuck b =
    let faulted := ({ s with aisle := { s.aisle with
      beams := s.aisle.beams.set b { s.aisle.beams.get b with stuck := true }
      run := s.aisle.run.map fun r =>
        { r with cleared2 := r.cleared2 || decide (b = .beam2), cleared3 := r.cleared3 || decide (b = .beam3) } } } :
      State).raiseFault (.beamStuck b)
    if faulted.aisle.clear then faulted.endRun s.now else faulted := by
  have hnow (u : State) : (u.raiseFault (.beamStuck b)).now = u.now := (u.raiseFault_keeps _).2.2.2.1
  unfold State.becomeStuck
  simp only [hnow, Run.beamCleared_eq]
  rfl

theorem exec_beamStuck_of_running {s : State} (b : Beam) (hp : s.power = .running) : exec (.beamStuck b) s = .next
    (if (s.aisle.beams.get b).blocked = true ∧ (s.aisle.beams.get b).stuck = false
      ∧ 60000 ≤ (s.now - (s.aisle.beams.get b).blockedSince).toNat then s.becomeStuck b else s) := by
  change execBeamStuck b s = _
  rw [execBeamStuck, whenRunning_of_running _ hp]
  simp only [reached_iff]
  rfl

theorem State.endRun_of_none {s : State} (t : Word) (h : s.aisle.run = none) : s.endRun t = s := by
  unfold State.endRun
  simp only [h]

theorem longBlockedBeamsBecomeStuck : Claims.LongBlockedBeamsBecomeStuck := by
  unfold Claims.LongBlockedBeamsBecomeStuck
  intro s b hp beam due faulted others
  obtain ⟨hbeams, hrun⟩ := State.raiseFault_beams ({ s with aisle := { s.aisle with
      beams := s.aisle.beams.set b { beam with stuck := true }
      run := s.aisle.run.map fun r =>
        { r with cleared2 := r.cleared2 || decide (b = .beam2), cleared3 := r.cleared3 || decide (b = .beam3) } } } :
      State) (.beamStuck b)
  have hclear : faulted.aisle.clear = true ↔ ¬ others := by
    have hiff := Aisle.clear_of_beam_clear (a := s.aisle) (u := { beam with stuck := true }) hbeams (by simp [BeamInput.countsBlocked])
    simpa only [others, not_exists, not_and] using hiff
  have hexec (hdue : due) : exec (.beamStuck b) s = .next (if faulted.aisle.clear then faulted.endRun s.now else faulted) := by
    rw [exec_beamStuck_of_running b hp, if_pos hdue, State.becomeStuck_eq]
  have hgoes (hdue : due) (hothers : others) : exec (.beamStuck b) s = .next faulted := by
    rw [hexec hdue, if_neg (fun h => hclear.mp h hothers)]
  have hends (hdue : due) (hno : ¬ others) (r : Run) (hr : s.aisle.run = some r) :
      exec (.beamStuck b) s = .next (Claims.runEnded faulted r s.now) := by
    rw [hexec hdue, if_pos (hclear.mpr hno), State.endRun_eq (r := r) _ (hrun.trans (congrArg (Option.map _) hr)) (hclear.mpr hno)
      ⟨rfl, rfl, rfl, rfl⟩]
  have hrests (hdue : due) (hr : s.aisle.run = none) : exec (.beamStuck b) s = .next faulted := by
    rw [hexec hdue, State.endRun_of_none _ (hrun.trans (congrArg (Option.map _) hr)), ite_self]
  refine ⟨fun hno => ?early, fun hdue hor => hor.elim (hgoes hdue) (hrests hdue), hends, fun hdue hslot hlock => ?fault⟩
  case early => rw [exec_beamStuck_of_running b hp, if_neg hno]
  case fault =>
    have hfaulted : faulted = _ := State.raiseFault_of_empty (s := { s with aisle := { s.aisle with
      beams := s.aisle.beams.set b { beam with stuck := true }
      run := s.aisle.run.map fun r =>
        { r with cleared2 := r.cleared2 || decide (b = .beam2), cleared3 := r.cleared3 || decide (b = .beam3) } } })
      (.beamStuck b) hlock hslot
    have hall : (∀ c, c ≠ b → ¬ Claims.counts s.aisle c) ↔ ¬ others := by
      simp only [others, not_exists, not_and]
    by_cases hothers : others
    · refine ⟨faulted, hgoes hdue hothers, ?_⟩
      rw [hfaulted]
      refine ⟨rfl, rfl, rfl, ⟨_, rfl, rfl, rfl⟩, fun h => absurd hothers (hall.mp h), fun _ => ⟨rfl, rfl, Option.map_eq_none_iff⟩,
        rfl, rfl, rfl⟩
    · cases hr : s.aisle.run with
      | none =>
        refine ⟨faulted, hrests hdue hr, ?_⟩
        rw [hfaulted]
        exact ⟨rfl, rfl, rfl, ⟨_, rfl, rfl, rfl⟩, fun _ => congrArg (Option.map _) hr, fun h => absurd h hothers, rfl, rfl, rfl⟩
      | some r =>
        refine ⟨Claims.runEnded faulted r s.now, hends hdue hothers r hr, ?_⟩
        rw [hfaulted]
        exact ⟨rfl, rfl, rfl, ⟨_, rfl, rfl, rfl⟩, fun _ => rfl, fun h => absurd h hothers, rfl, rfl, rfl⟩

/-- Settles O43: the pins by their levels, and a stuck beam by whether another beam still counts as blocked. -/
theorem inputsAreDebouncedAndBeamsStick : Obligations.InputsAreDebouncedAndBeamsStick :=
  ⟨inputChangesBeginOrDropAPendingChange, longBlockedBeamsBecomeStuck⟩

end Sys2Proof.Machine
end

section
/-! SUPPORT. Settles O42: an occlusion run from its first beam, over its crossings, to its end (R141, R143 to R149, R153). -/

namespace Sys2Proof.Machine

-- One declaration at a time: each waiting elaboration thread counts against the memory limit of the one text.
set_option Elab.async false

/-! ### Accepted beam events (R141) -/

theorem exec_beamDebounceExpiry_of_pending {s : State} {b : Beam} {t : Word} (hp : s.power = .running)
    (h : (s.aisle.beams.get b).pendingSince = some t) :
    exec (.beamDebounceExpiry b) s = .next (if reached s.now t debounceTime then s.acceptBeam b t else s) := by
  change execBeamDebounceExpiry b s = _
  rw [execBeamDebounceExpiry, whenRunning_of_running _ hp]
  simp only [h]

theorem exec_beamDebounceExpiry_of_accepted {s : State} {b : Beam} {t : Word} (h : Claims.accepted s b t) :
    exec (.beamDebounceExpiry b) s = .next (s.acceptBeam b t) := by
  obtain ⟨hp, hpending, hlate⟩ := h
  rw [exec_beamDebounceExpiry_of_pending hp hpending, if_pos ((reached_iff _ _ debounceTime).mpr hlate)]

theorem State.acceptBeam_of_clear {s : State} {b : Beam} (t : Word) (h : (s.aisle.beams.get b).blocked = false) :
    s.acceptBeam b t = s.beamBlocked b t := if_pos h

theorem State.acceptBeam_of_stuck {s : State} {b : Beam} (t : Word) (h : (s.aisle.beams.get b).blocked = true)
    (hstuck : (s.aisle.beams.get b).stuck = true) : s.acceptBeam b t = s.unstick b :=
  (if_neg (by simp [h])).trans (if_pos hstuck)

theorem State.acceptBeam_of_blocked {s : State} {b : Beam} (t : Word) (h : (s.aisle.beams.get b).blocked = true)
    (hstuck : (s.aisle.beams.get b).stuck = false) : s.acceptBeam b t = s.beamCleared b t :=
  (if_neg (by simp [h])).trans (if_neg (by simp [hstuck]))

/-! ### A beam blocked, and the leaf in the same event (R160, R161) -/

/-- The leaf after a beam event in an aisle that is not clear: a closing leaf has reopened, and no close delay runs. -/
def Aisle.afterObstruction (a : Aisle) (now : Word) : Aisle := { a with
  leaf := if a.leaf = .closing then (if a.openLimit.accepted then .opened else .opening) else a.leaf
  travelStart := if a.leaf = .closing then (if a.openLimit.accepted then none else some now) else a.travelStart
  closeStart := none }

theorem Aisle.afterObstruction_eq {a : Aisle} (now : Word) (h : a.clear = false) :
    (if a.leaf = .closing then a.startOpening now else a.refreshClose now) = a.afterObstruction now := by
  unfold Aisle.afterObstruction
  by_cases hleaf : a.leaf = .closing
  · rw [if_pos hleaf, if_pos hleaf, if_pos hleaf, Aisle.startOpening_eq]
    have hopen : ¬ (a.anyGranted = false ∧ a.clear = true) := fun hc => Bool.false_ne_true (h.symm.trans hc.2)
    by_cases ho : a.openLimit.accepted = true
    · rw [if_pos ho, if_pos ho, if_pos ho, Claims.reachesOpen, if_neg hopen]
      rfl
    · rw [if_neg ho, if_neg ho, if_neg ho]
      rfl
  · rw [if_neg hleaf, if_neg hleaf, if_neg hleaf, Aisle.refreshClose_eq]
    have hclose : Claims.closeDelay a a.queues now = none := if_neg fun hc => Bool.false_ne_true (h.symm.trans hc.2.2)
    rw [hclose]

theorem Claims.obstructed_eq (s : State) (b : Beam) (t : Word) :
    Claims.obstructed s b t = (Claims.blockedAt s b t).afterObstruction s.now := rfl

/-- Blocking a beam leaves the aisle not clear where it was not, or where the beam is not stuck. -/
theorem Claims.blockedAt_clear {s : State} {b : Beam} (t : Word)
    (h : (s.aisle.beams.get b).stuck = false ∨ (s.aisle.clear = false ∧ (s.aisle.beams.get b).blocked = false)) :
    (Claims.blockedAt s b t).clear = false := by
  rw [Aisle.clear_eq_false_iff]
  rcases h with h | ⟨hclear, hblocked⟩
  · refine ⟨b, ?_⟩
    rw [Claims.counts, Claims.blockedAt, PerBeam.get_set]
    exact ⟨rfl, h⟩
  · obtain ⟨c, hc⟩ := s.aisle.clear_eq_false_iff.mp hclear
    have hcb : c ≠ b := by
      rintro rfl
      exact Bool.false_ne_true (hblocked.symm.trans hc.1)
    refine ⟨c, ?_⟩
    rw [Claims.counts, Claims.blockedAt, PerBeam.get_set_ne _ _ hcb]
    exact hc

/-- What a beam that became blocked makes of the run in progress, before the leaf follows. -/
def State.runMeets (s : State) (a : Aisle) (r : Run) (b : Beam) : State :=
  if a.crosses r b then (s.setAisle { a with run := some r.crossed }).classify r.crossed else s.setAisle { a with run := some r }

theorem State.beamBlocked_eq {s : State} {b : Beam} {t : Word} {r : Run}
    (hrun : (if s.aisle.clear then some ((Claims.blockedAt s b t).newRun b) else s.aisle.run) = some r) :
    s.beamBlocked b t = (s.runMeets (Claims.blockedAt s b t) r b).setAisle
      (if (s.runMeets (Claims.blockedAt s b t) r b).aisle.leaf = .closing then
        (s.runMeets (Claims.blockedAt s b t) r b).aisle.startOpening (s.runMeets (Claims.blockedAt s b t) r b).now
      else (s.runMeets (Claims.blockedAt s b t) r b).aisle.refreshClose (s.runMeets (Claims.blockedAt s b t) r b).now) := by
  unfold State.beamBlocked
  change (let s1 := match (if s.aisle.clear then some ((Claims.blockedAt s b t).newRun b) else s.aisle.run) with
    | none => s.setAisle (Claims.blockedAt s b t)
    | some r => s.runMeets (Claims.blockedAt s b t) r b
    s1.setAisle (if s1.aisle.leaf = .closing then s1.aisle.startOpening s1.now else s1.aisle.refreshClose s1.now)) = _
  simp only [hrun]

/-- In an aisle that is then not clear the leaf reopens or its close delay is abandoned. -/
theorem State.beamBlocked_of_met {s u : State} {b : Beam} {t : Word} {r : Run}
    (hrun : (if s.aisle.clear then some ((Claims.blockedAt s b t).newRun b) else s.aisle.run) = some r)
    (hmet : s.runMeets (Claims.blockedAt s b t) r b = u) (hclear : u.aisle.clear = false) :
    s.beamBlocked b t = { u with aisle := u.aisle.afterObstruction u.now } := by
  rw [State.beamBlocked_eq hrun, hmet, Aisle.afterObstruction_eq _ hclear]
  rfl

theorem Aisle.crosses_iff (a : Aisle) (r : Run) (b : Beam) : a.crosses r b = true ↔ Claims.crosses a r b := by
  unfold Aisle.crosses Claims.crosses
  simp only [Claims.counts_iff]
  cases r.direction <;> cases b <;>
    simp only [PerBeam.get, reduceCtorEq, true_and, false_and, false_or, or_false, Bool.and_eq_true, Bool.or_eq_true, decide_eq_true_iff,
      Bool.false_eq_true]

/-! ### A run begins (R143, R144) -/

theorem Claims.counts_blockedAt_ne {s : State} {b c : Beam} (t : Word) (h : c ≠ b) :
    Claims.counts (Claims.blockedAt s b t) c ↔ Claims.counts s.aisle c := by
  rw [Claims.counts, Claims.blockedAt, PerBeam.get_set_ne _ _ h, Claims.counts]

theorem Claims.blockedAt_counts {s : State} {b : Beam} (t : Word) (hclear : s.aisle.clear = true)
    (hstuck : (s.aisle.beams.get b).stuck = false) (c : Beam) :
    ((Claims.blockedAt s b t).beams.get c).countsBlocked = decide (c = b) := by
  by_cases h : c = b
  · subst h
    rw [Claims.blockedAt, PerBeam.get_set, decide_eq_true rfl, BeamInput.countsBlocked, hstuck]
    rfl
  · rw [decide_eq_false h, ← Bool.not_eq_true, ← Claims.counts_iff, Claims.counts_blockedAt_ne t h]
    exact s.aisle.clear_iff_counts.mp hclear c

theorem Aisle.newRun_of_first {s : State} {b : Beam} (t : Word) (hclear : s.aisle.clear = true)
    (hstuck : (s.aisle.beams.get b).stuck = false) : (Claims.blockedAt s b t).newRun b =
      { direction := runDirectionOf b, side := runSideOf b, crossings := 0, cleared2 := decide (b ≠ .beam2)
        cleared3 := decide (b ≠ .beam3), lastConsumed := none, alarmed := false } := by
  have h2 := Claims.blockedAt_counts t hclear hstuck .beam2
  have h3 := Claims.blockedAt_counts t hclear hstuck .beam3
  unfold Aisle.newRun
  simp only [PerBeam.get] at h2 h3
  rw [h2, h3]
  cases b <;> rfl

theorem Aisle.not_crosses_of_first {s : State} {b : Beam} (t : Word) (hclear : s.aisle.clear = true)
    (hstuck : (s.aisle.beams.get b).stuck = false) :
    ¬ Claims.crosses (Claims.blockedAt s b t) ((Claims.blockedAt s b t).newRun b) b := by
  have hcounts (c : Beam) : Claims.counts (Claims.blockedAt s b t) c ↔ c = b := by
    rw [Claims.counts_iff, Claims.blockedAt_counts t hclear hstuck, decide_eq_true_iff]
  rw [Aisle.newRun_of_first t hclear hstuck, Claims.crosses]
  simp only [hcounts]
  cases b <;> simp [runDirectionOf]

theorem runsBeginAtTheFirstBeam : Claims.RunsBeginAtTheFirstBeam := by
  intro s b t hp hpending
  refine ⟨fun hearly => ?_, fun hlate hclear hblocked hstuck => ?_⟩
  · rw [exec_beamDebounceExpiry_of_pending hp hpending,
      if_neg (fun h => Nat.not_le.mpr hearly ((reached_iff _ _ debounceTime).mp h))]
  · have hmet : s.runMeets (Claims.blockedAt s b t) ((Claims.blockedAt s b t).newRun b) b
        = s.setAisle { Claims.blockedAt s b t with run := some ((Claims.blockedAt s b t).newRun b) } :=
      if_neg (mt (Aisle.crosses_iff _ _ _).mp (Aisle.not_crosses_of_first t hclear hstuck))
    rw [exec_beamDebounceExpiry_of_accepted ⟨hp, hpending, hlate⟩, State.acceptBeam_of_clear t hblocked,
      State.beamBlocked_of_met (if_pos hclear) hmet (Claims.blockedAt_clear t (.inl hstuck)), Claims.obstructed_eq,
      Aisle.newRun_of_first t hclear hstuck]
    cases b <;> rfl

/-! ### A crossing (R145 to R148, R153) -/

theorem State.consume_eq {s : State} (r : Run) (d : Direction) (e : QueueEntry) (hclear : s.aisle.clear = false) :
    s.consume r d e = { s with
      aisle := { s.aisle with
        queues := s.aisle.queues.set d ((s.aisle.queues.get d).eraseP QueueEntry.isGranted)
        run := some { r with lastConsumed := e.sequence }
        counters := s.aisle.counters.set d { s.aisle.counters.get d with used := (s.aisle.counters.get d).used + 1 } }
      journal := s.journal.with (.passage .used) s.stamp e.face
        { RecordFields.blank with number := some e.number, reference := e.sequence }
      service := { s.service with flags := s.service.flags.afterRecord s.freeSlots } } := by
  unfold State.consume State.recordPassage
  simp only [State.append_eq]
  have hlock (a : Aisle) (h : a.clear = false) : a.checkLock = a :=
    if_neg fun hc => Bool.false_ne_true (h.symm.trans hc.2.2.2)
  rw [State.checkLock, hlock _ (by exact hclear)]
  rfl

theorem State.passageAlarm_eq (s : State) (r : Run) (o : PassageOutcome) : s.passageAlarm r o = { s with
      aisle := { s.aisle with
        counters := s.aisle.counters.set r.countsUnder ((s.aisle.counters.get r.countsUnder).alarm o)
        passageAlarm := .runInProgress
        run := some { r with alarmed := true }
        tones := { street := none, paid := none } }
      journal := if s.obligations < s.freeSlots then
          s.journal.with (.passage o) s.stamp r.side { RecordFields.blank with reference := r.lastConsumed }
        else s.journal
      service := { s.service with flags := { s.service.flags with
        alarm := true
        journal := if s.obligations < s.freeSlots then s.service.flags.journal || [256, 192, 128, 64].contains s.freeSlots
          else s.service.flags.journal } } } := by
  unfold State.passageAlarm State.appendSpare
  by_cases hspare : s.obligations < s.freeSlots
  · rw [if_pos hspare, if_pos hspare]
    refine (if_pos hspare).trans ?_
    rw [State.append_eq]
    rfl
  · rw [if_neg hspare, if_neg hspare]
    exact if_neg hspare

/-- The direction whose queue and counters a run's crossings meet (R147, R148). -/
theorem State.classify_of_grant {s : State} {r : Run} {d : Direction} {e : QueueEntry}
    (hclassified : s.service.state = .inService ∨ s.service.state = .closed)
    (hd : r.direction = match d with
      | .entry => .entry
      | .exit => .exit)
    (hfind : (s.aisle.queues.get d).find? QueueEntry.isGranted = some e) : s.classify r = s.consume r d e := by
  rw [State.classify, if_pos (s.classifies_iff.mpr hclassified)]
  cases d <;> simp only [hd] <;> simp only [PerDirection.get] at hfind <;> simp only [hfind]

theorem State.classify_of_closed {s : State} (r : Run) (hno : ¬ (s.service.state = .inService ∨ s.service.state = .closed)) :
    s.classify r = s := if_neg (mt s.classifies_iff.mp hno)

/-- What a crossing without a grant is (R147, R148). -/
def crossingKind (l : Lock) (r : Run) : PassageOutcome :=
  if r.direction = .unknown then .intrusion
  else if l = (if r.direction = .entry then .exit else .entry) then .contraflow
  else if r.crossings = 0 then .intrusion else .tailgate

theorem crossingWithoutGrant_entry (l : Lock) (r : Run) (hd : r.direction = .entry) :
    crossingWithoutGrant l .entry r.crossed = crossingKind l r := by
  unfold crossingWithoutGrant crossingKind
  simp only [hd, reduceCtorEq, if_false, if_true, Run.crossed, lockOf]
  cases l <;> simp

theorem crossingWithoutGrant_exit (l : Lock) (r : Run) (hd : r.direction = .exit) :
    crossingWithoutGrant l .exit r.crossed = crossingKind l r := by
  unfold crossingWithoutGrant crossingKind
  simp only [hd, reduceCtorEq, if_false, Run.crossed, lockOf]
  cases l <;> simp

theorem State.classify_of_no_grant {s : State} {r : Run} (hclassified : s.service.state = .inService ∨ s.service.state = .closed)
    (hentry : r.direction = .entry → s.aisle.queues.entry.find? QueueEntry.isGranted = none)
    (hexit : r.direction = .exit → s.aisle.queues.exit.find? QueueEntry.isGranted = none) :
    s.classify r.crossed = s.passageAlarm r.crossed (crossingKind s.aisle.lock r) := by
  have hdirection : r.crossed.direction = r.direction := rfl
  rw [State.classify, if_pos (s.classifies_iff.mpr hclassified)]
  cases hd : r.direction with
  | unknown =>
    simp only [hdirection, hd]
    rw [crossingKind, if_pos hd]
  | entry =>
    simp only [hdirection, hd, hentry hd]
    rw [crossingWithoutGrant_entry _ _ hd]
  | exit =>
    simp only [hdirection, hd, hexit hd]
    rw [crossingWithoutGrant_exit _ _ hd]

theorem find?_isGranted_eq_none {q : List QueueEntry} (h : ¬ ∃ e ∈ q, e.isGranted = true) : q.find? QueueEntry.isGranted = none :=
  List.find?_eq_none.mpr fun e he hg => h ⟨e, he, hg⟩

theorem QueueEntry.isGranted_of_granted {e : QueueEntry} {q start : Word} {life : Nat} {b : Bool}
    (h : e.state = .granted q start life b) : e.isGranted = true := by
  simp only [QueueEntry.isGranted, h]

/-- The first grant of a queue is found and taken out. -/
theorem granted_first {before : List QueueEntry} {e : QueueEntry} (after : List QueueEntry) (he : e.isGranted = true)
    (hbefore : ∀ x ∈ before, x.isGranted = false) : (before ++ e :: after).find? QueueEntry.isGranted = some e
      ∧ (before ++ e :: after).eraseP QueueEntry.isGranted = before ++ after := by
  constructor
  · rw [List.find?_append, List.find?_eq_none.mpr (fun y hy => ne_true_of_eq_false (hbefore y hy)), Option.none_or]
    exact List.find?_cons_of_pos he
  · rw [List.eraseP_append_right _ (fun y hy => ne_true_of_eq_false (hbefore y hy))]
    exact congrArg (before ++ ·) (List.eraseP_cons_of_pos he)

/-- A crossing of an entry or exit run that finds a grant consumes it (R153). -/
theorem State.acceptBeam_of_consumed {s : State} {b : Beam} {t : Word} {r : Run} {d : Direction} (hblocked : (s.aisle.beams.get b).blocked = false)
    (hclear : s.aisle.clear = false) (hrun : s.aisle.run = some r) (hcrosses : Claims.crosses (Claims.blockedAt s b t) r b)
    (hclassified : s.service.state = .inService ∨ s.service.state = .closed)
    (hd : r.direction = match d with
      | .entry => .entry
      | .exit => .exit)
    {before after : List QueueEntry} {e : QueueEntry} {sequence start : Word} {life : Nat} {deferred : Bool}
    (hqueue : s.aisle.queues.get d = before ++ e :: after) (he : e.state = .granted sequence start life deferred)
    (hbefore : ∀ x ∈ before, x.isGranted = false) : s.acceptBeam b t = { s with
      aisle := { Claims.obstructed s b t with
        queues := s.aisle.queues.set d (before ++ after)
        run := some { r.crossed with lastConsumed := some sequence }
        counters := s.aisle.counters.set d { s.aisle.counters.get d with used := (s.aisle.counters.get d).used + 1 } }
      journal := s.journal.with (.passage .used) s.stamp e.face
        { RecordFields.blank with number := some e.number, reference := some sequence }
      service := { s.service with flags := s.service.flags.afterRecord s.freeSlots } } := by
  obtain ⟨hfind, herase⟩ := granted_first after (QueueEntry.isGranted_of_granted he) hbefore
  have hblock := Claims.blockedAt_clear t (.inr ⟨hclear, hblocked⟩)
  have hmet : s.runMeets (Claims.blockedAt s b t) r b = _ :=
    (if_pos ((Aisle.crosses_iff _ _ _).mpr hcrosses)).trans
      ((State.classify_of_grant (d := d) (e := e) (by exact hclassified) (by exact hd) (by
        change (s.aisle.queues.get d).find? QueueEntry.isGranted = _
        rw [hqueue, hfind])).trans (State.consume_eq _ _ _ (by exact hblock)))
  rw [State.acceptBeam_of_clear t hblocked, State.beamBlocked_of_met ((if_neg (by simp [hclear])).trans hrun) hmet (by exact hblock),
    Claims.obstructed_eq]
  have herase' : (s.aisle.queues.get d).eraseP QueueEntry.isGranted = before ++ after := by rw [hqueue, herase]
  rw [← herase', ← QueueEntry.sequence_of_granted he]
  rfl

/-- A crossing without a grant sounds the passage alarm (R148). -/
theorem State.acceptBeam_of_alarm {s : State} {b : Beam} {t : Word} {r : Run} (hblocked : (s.aisle.beams.get b).blocked = false)
    (hclear : s.aisle.clear = false) (hrun : s.aisle.run = some r) (hcrosses : Claims.crosses (Claims.blockedAt s b t) r b)
    (hclassified : s.service.state = .inService ∨ s.service.state = .closed)
    (hentry : r.direction = .entry → s.aisle.queues.entry.find? QueueEntry.isGranted = none)
    (hexit : r.direction = .exit → s.aisle.queues.exit.find? QueueEntry.isGranted = none) : s.acceptBeam b t = { s with
      aisle := { Claims.obstructed s b t with
        run := some { r.crossed with alarmed := true }
        passageAlarm := .runInProgress
        tones := { street := none, paid := none }
        counters := s.aisle.counters.set r.countsUnder
          ((s.aisle.counters.get r.countsUnder).alarm (crossingKind s.aisle.lock r)) }
      journal := if s.obligations < s.freeSlots then
          s.journal.with (.passage (crossingKind s.aisle.lock r)) s.stamp r.side
            { RecordFields.blank with reference := r.lastConsumed }
        else s.journal
      service := { s.service with flags := { s.service.flags with
        alarm := true
        journal := if s.obligations < s.freeSlots then s.service.flags.journal || [256, 192, 128, 64].contains s.freeSlots
          else s.service.flags.journal } } } := by
  have hblock := Claims.blockedAt_clear t (.inr ⟨hclear, hblocked⟩)
  have hmet : s.runMeets (Claims.blockedAt s b t) r b = _ :=
    (if_pos ((Aisle.crosses_iff _ _ _).mpr hcrosses)).trans
      ((State.classify_of_no_grant (by exact hclassified) (by exact hentry) (by exact hexit)).trans (State.passageAlarm_eq _ _ _))
  rw [State.acceptBeam_of_clear t hblocked, State.beamBlocked_of_met ((if_neg (by simp [hclear])).trans hrun) hmet (by exact hblock),
    Claims.obstructed_eq]
  rfl

theorem crossingsAreClassified : Claims.CrossingsAreClassified := by
  unfold Claims.CrossingsAreClassified
  intro s b t r hacc hblocked hclear hrun a opposite d q k classified granted crossed takes journal low
  have hblock := Claims.blockedAt_clear t (.inr ⟨hclear, hblocked⟩)
  have hexec := exec_beamDebounceExpiry_of_accepted hacc
  have hmeets : (if s.aisle.clear then some ((Claims.blockedAt s b t).newRun b) else s.aisle.run) = some r :=
    (if_neg (by simp [hclear])).trans hrun
  refine ⟨fun hno => ?passes, fun hcrosses hclosed => ?counts, fun hcrosses hin hd before e after sequence start life deferred hq he hbefore => ?used,
    fun hcrosses hin hnone => ?alarm⟩
  case passes =>
    have hmet : s.runMeets (Claims.blockedAt s b t) r b = s.setAisle { Claims.blockedAt s b t with run := some r } :=
      if_neg (mt (Aisle.crosses_iff _ _ _).mp hno)
    refine hexec.trans ?_
    rw [State.acceptBeam_of_clear t hblocked, State.beamBlocked_of_met hmeets hmet (by exact hblock), ← hrun]
    rfl
  case counts =>
    have hmet : s.runMeets (Claims.blockedAt s b t) r b = s.setAisle { Claims.blockedAt s b t with run := some r.crossed } :=
      (if_pos ((Aisle.crosses_iff _ _ _).mpr hcrosses)).trans (State.classify_of_closed _ hclosed)
    refine hexec.trans ?_
    rw [State.acceptBeam_of_clear t hblocked, State.beamBlocked_of_met hmeets hmet (by exact hblock)]
    rfl
  case used =>
    refine hexec.trans ?_
    have hways : r.direction = .entry ∨ r.direction = .exit := by
      cases hdir : r.direction with
      | unknown => exact absurd hdir hd
      | entry => exact .inl rfl
      | exit => exact .inr rfl
    rcases hways with hdir | hdir
    · have hd' : d = .entry := by simp only [d, hdir]
      simp only [k, q, hd'] at hq ⊢
      rw [State.acceptBeam_of_consumed (d := .entry) hblocked hclear hrun hcrosses hin hdir hq he hbefore]
      rfl
    · have hd' : d = .exit := by simp only [d, hdir]
      simp only [k, q, hd'] at hq ⊢
      rw [State.acceptBeam_of_consumed (d := .exit) hblocked hclear hrun hcrosses hin hdir hq he hbefore]
      rfl
  case alarm =>
    refine hexec.trans ?_
    have hqueue (hdir : r.direction ≠ .unknown) : ¬ ∃ e ∈ q, e.isGranted = true := fun h => hnone ⟨hdir, h⟩
    rw [State.acceptBeam_of_alarm hblocked hclear hrun hcrosses hin
      (fun hdir => find?_isGranted_eq_none (by simpa only [q, d, hdir, PerDirection.get] using hqueue (by simp [hdir])))
      (fun hdir => find?_isGranted_eq_none (by simpa only [q, d, hdir, PerDirection.get] using hqueue (by simp [hdir])))]
    have hunder : r.countsUnder = d := rfl
    rw [hunder]
    rfl

theorem alarmsCountUnderTheirNames : Claims.AlarmsCountUnderTheirNames := fun _ => ⟨rfl, rfl, rfl⟩

/-! ### The run's end (R142, R149) -/

theorem runsEndWhenTheAisleIsClear : Claims.RunsEndWhenTheAisleIsClear := by
  unfold Claims.RunsEndWhenTheAisleIsClear
  intro s b t hacc hblocked beam beams clear
  have hexec := exec_beamDebounceExpiry_of_accepted hacc
  have hclear : ({ s.aisle with beams := beams, run := s.aisle.run.map fun r => r.beamCleared b } : Aisle).clear = true ↔ clear :=
    Aisle.clear_of_beam_clear (u := { beam with blocked := false, pendingSince := none }) rfl (by simp [BeamInput.countsBlocked])
  refine ⟨fun hstuck => ?stuck, fun hstuck hno => ?others, fun hstuck hall r hr => ?ends⟩
  case stuck =>
    rw [hexec, State.acceptBeam_of_stuck t hblocked hstuck]
    rfl
  case others =>
    rw [hexec, State.acceptBeam_of_blocked t hblocked hstuck]
    simp only [← Run.beamCleared_eq]
    exact congrArg Host.Outcome.next (if_neg (mt hclear.mp hno))
  case ends =>
    rw [hexec, State.acceptBeam_of_blocked t hblocked hstuck]
    refine congrArg Host.Outcome.next ((if_pos (hclear.mpr hall)).trans ?_)
    refine (State.endRun_eq (r := r) t (congrArg (Option.map _) hr) (by exact hclear.mpr hall) ?_).trans rfl
    simp only [Run.beamCleared_eq, and_self]

/-- Settles O42: a run's beginning, its crossings by the grant each finds, and its end, each by the beam event that brings it. -/
theorem runsAreFollowedAndClassified : Obligations.RunsAreFollowedAndClassified :=
  ⟨runsBeginAtTheFirstBeam, crossingsAreClassified, alarmsCountUnderTheirNames, runsEndWhenTheAisleIsClear⟩

end Sys2Proof.Machine
end

section
/-! SUPPORT. Settles O47, O41, O38 and O40: the service minute, the ring's and the tables' deadlines, and the messages that come home or are
only forwarded (sections 2.4, 4.1, 4.4 to 4.7, 8.3). -/

namespace Sys2Proof.Machine

-- One declaration at a time: each waiting elaboration thread counts against the memory limit of the one text.
set_option Elab.async false

/-! ### O47: minutes and rollovers (R64, R86, R175) -/

theorem exec_minuteTick_of_running {s : State} (hp : s.power = .running) : exec .minuteTick s = .next
    (if s.service.clock.isSet = true ∧ 60000 ≤ s.service.clock.ms then s.advanceMinute else s) := by
  change execMinuteTick s = _
  rw [execMinuteTick, whenRunning_of_running _ hp]

theorem purgeReleased_eq (today : Nat) (l : List (Half × Half)) :
    purgeReleased today l = l.filter fun p => decide (today ≤ p.2.toNat + 1) := by
  unfold purgeReleased
  congr 1
  funext p
  exact decide_eq_decide.mpr (by omega)

theorem ageSightings_eq (today lifetime : Nat) (l : List SightingEntry) : ageSightings today lifetime l =
    l.filter fun e => match e.hold, e.sighting with
      | .noHold, some x => decide (today ≤ x.day.toNat + lifetime)
      | _, _ => true := by
  unfold ageSightings
  congr 1
  funext e
  cases hs : e.sighting with
  | none => cases e.hold <;> rfl
  | some x =>
    cases e.hold with
    | noHold =>
      simp only [decide_true, Bool.true_and]
      rw [← decide_not, decide_eq_decide]
      exact Nat.not_lt
    | own g => simp
    | peer o t => simp

/-- Settles O47, by whether the count is due and what the minute and the day are. -/
theorem minutesAndRolloversAdvanceTheClock : Obligations.MinutesAndRolloversAdvanceTheClock := by
  unfold Obligations.MinutesAndRolloversAdvanceTheClock
  intro s hp k due clock today
  have hminute : k.minute.toNat + 1 < 1440 ↔ k.minute.toNat < 1439 := Nat.succ_lt_succ_iff
  refine ⟨fun hno => ?early, fun hdue hlt => ?minute, fun hdue hge hday => ?unset, fun hdue hge hday => ?rollover⟩
  case early => rw [exec_minuteTick_of_running hp, if_neg hno]
  case minute =>
    rw [exec_minuteTick_of_running hp, if_pos hdue, State.advanceMinute]
    exact congrArg Host.Outcome.next (if_pos (hminute.mpr hlt))
  case unset =>
    rw [exec_minuteTick_of_running hp, if_pos hdue, State.advanceMinute]
    exact congrArg Host.Outcome.next ((if_neg (mt hminute.mp (Nat.not_lt.mpr hge))).trans (if_pos hday))
  case rollover =>
    rw [exec_minuteTick_of_running hp, if_pos hdue, State.advanceMinute]
    refine congrArg Host.Outcome.next ((if_neg (mt hminute.mp (Nat.not_lt.mpr hge))).trans ((if_neg hday).trans ?_))
    rw [State.rollover, purgeReleased_eq, ageSightings_eq]
    rfl

/-! ### O41: the census interval, peer holds and tear windows (R55, R85, R105) -/

theorem State.sendCensus_eq (s : State) : s.sendCensus = { s with
    ring := { Claims.joined s.ring (.census s.gate 0) with censusStart := some s.now } } := by
  rw [State.sendCensus, State.send_eq]
  rfl

theorem exec_peerHoldExpiry_of_absent {s : State} {n : CardNumber} (hp : s.power = .running) (h : ∀ e ∈ s.sightings, e.number ≠ n) :
    exec (.peerHoldExpiry n) s = .next s := by
  change execPeerHoldExpiry n s = _
  rw [execPeerHoldExpiry, whenRunning_of_running _ hp]
  simp only [findSighting_of_absent h]

theorem exec_displacedHoldExpiry_of_absent {s : State} {n : CardNumber} (hp : s.power = .running)
    (h : ∀ e ∈ s.sightings, e.number ≠ n) : exec (.displacedHoldExpiry n) s = .next s := by
  change execDisplacedHoldExpiry n s = _
  rw [execDisplacedHoldExpiry, whenRunning_of_running _ hp]
  simp only [findSighting_of_absent h]

section
variable {s : State} {e : SightingEntry} (hp : s.power = .running) (hnodup : (s.sightings.map (·.number)).Nodup) (he : e ∈ s.sightings)
include hp hnodup he

theorem exec_peerHoldExpiry_of_peer {o : Byte} {t : Word} (h : e.hold = .peer o t) : exec (.peerHoldExpiry e.number) s = .next
    (if reached s.now t peerHoldLife then { s with sightings := touchSighting s.sightings { e with hold := .noHold } } else s) := by
  change execPeerHoldExpiry e.number s = _
  rw [execPeerHoldExpiry, whenRunning_of_running _ hp]
  simp only [findSighting_of_mem hnodup he, h]

theorem exec_peerHoldExpiry_of_not_peer (h : ∀ o t, e.hold ≠ .peer o t) : exec (.peerHoldExpiry e.number) s = .next s := by
  change execPeerHoldExpiry e.number s = _
  rw [execPeerHoldExpiry, whenRunning_of_running _ hp]
  simp only [findSighting_of_mem hnodup he]

theorem exec_displacedHoldExpiry_of_displaced {o : Byte} {t : Word} (h : e.displaced = some (o, t)) :
    exec (.displacedHoldExpiry e.number) s = .next
      (if reached s.now t peerHoldLife then { s with sightings := replaceSighting s.sightings { e with displaced := none } } else s) := by
  change execDisplacedHoldExpiry e.number s = _
  rw [execDisplacedHoldExpiry, whenRunning_of_running _ hp]
  simp only [findSighting_of_mem hnodup he, h]

theorem exec_displacedHoldExpiry_of_none (h : e.displaced = none) : exec (.displacedHoldExpiry e.number) s = .next s := by
  change execDisplacedHoldExpiry e.number s = _
  rw [execDisplacedHoldExpiry, whenRunning_of_running _ hp]
  simp only [findSighting_of_mem hnodup he, h]

end

theorem findTear_of_mem {l : List TearEntry} (h : (l.map (·.number)).Nodup) {e : TearEntry} (he : e ∈ l) :
    findTear l e.number = some e := by
  cases hf : findTear l e.number with
  | none => exact absurd rfl (findTear_eq_none hf e he)
  | some x => rw [List.inj_on_of_nodup_map h (mem_of_findTear hf) he (findTear_number hf)]

theorem State.resolveTear_eq (s : State) (o : TearOutcome) (e : TearEntry) (counter : Option Half) : s.resolveTear o e counter = { s with
    tears := removeTear s.tears e.number
    journal := s.journal.with (.tear o) s.stamp e.face
      { RecordFields.blank with number := some e.number, counterAfter := counter, reference := e.reference }
    service := { s.service with flags := s.service.flags.afterRecord s.freeSlots } } := by
  rw [State.resolveTear, State.append_eq]
  rfl

theorem exec_tearWindowExpiry_of_not_passed {s : State} {n : CardNumber} (hp : s.power = .running)
    (h : ∀ e ∈ s.tears, e.number = n → ¬ s.windowPassed e = true) : exec (.tearWindowExpiry n) s = .next s := by
  change execTearWindowExpiry n s = _
  rw [execTearWindowExpiry, whenRunning_of_running _ hp]
  cases hf : findTear s.tears n with
  | none => rfl
  | some e => exact congrArg Host.Outcome.next (if_neg (h e (mem_of_findTear hf) (findTear_number hf)))

theorem exec_tearWindowExpiry_of_passed {s : State} {e : TearEntry} (hp : s.power = .running) (hnodup : (s.tears.map (·.number)).Nodup)
    (he : e ∈ s.tears) (h : s.windowPassed e = true) : exec (.tearWindowExpiry e.number) s = .next (s.expireTear e) := by
  change execTearWindowExpiry e.number s = _
  rw [execTearWindowExpiry, whenRunning_of_running _ hp]
  simp only [findTear_of_mem hnodup he]
  exact congrArg Host.Outcome.next (if_pos h)

/-- Settles O41: each deadline by what it finds at its subject. -/
theorem ringAndTearDeadlinesExpire : Obligations.RingAndTearDeadlinesExpire := by
  refine ⟨fun s hp => ?census, fun s n hp hnodup => ⟨fun e he hn => ?held, fun hno =>
    ⟨exec_peerHoldExpiry_of_absent hp hno, exec_displacedHoldExpiry_of_absent hp hno⟩⟩, fun s n hp hnodup =>
    ⟨fun e he hn start q hstate => ⟨fun hlate => ?torn, fun hearly => ?early⟩, fun hpending => ?pending⟩⟩
  case census =>
    intro due
    have hdue : s.ring.state = .isolated ∧ Machine.due s.now s.ring.censusStart censusInterval = true ↔ due :=
      and_congr_right' (due_iff ..)
    have hexec : exec .censusDue s = .next
        (if s.ring.state = .isolated ∧ Machine.due s.now s.ring.censusStart censusInterval = true then s.sendCensus else s) := by
      change execCensusDue s = _
      rw [execCensusDue, whenRunning_of_running _ hp]
    refine ⟨fun hyes => ?_, fun hno => ?_⟩
    · rw [hexec, if_pos (hdue.mpr hyes), State.sendCensus_eq]
    · rw [hexec, if_neg (mt hdue.mp hno)]
  case held =>
    subst hn
    refine ⟨fun o since h => ?_, exec_peerHoldExpiry_of_not_peer hp hnodup he, fun o since h => ?_,
      exec_displacedHoldExpiry_of_none hp hnodup he⟩
    · rw [exec_peerHoldExpiry_of_peer hp hnodup he h]
      simp only [reached_iff]
      rfl
    · rw [exec_displacedHoldExpiry_of_displaced hp hnodup he h]
      simp only [reached_iff]
      rfl
  case torn =>
    subst hn
    refine ⟨s.expireTear e, exec_tearWindowExpiry_of_passed hp hnodup he ((s.windowPassed_iff e).mpr ⟨start, q, hstate, hlate⟩), ?_⟩
    have href : e.reference = some q := by simp only [TearEntry.reference, hstate]
    rw [State.expireTear, State.resolveTear_eq, href]
    exact ⟨rfl, rfl, rfl, rfl, rfl, rfl, rfl⟩
  case early =>
    refine exec_tearWindowExpiry_of_not_passed hp fun y hy hyn hpassed => ?_
    obtain rfl := List.inj_on_of_nodup_map hnodup hy he (hyn.trans hn.symm)
    obtain ⟨t, r, ht, hlate⟩ := (s.windowPassed_iff y).mp hpassed
    cases hstate.symm.trans ht
    exact absurd hlate (Nat.not_le.mpr hearly)
  case pending =>
    refine exec_tearWindowExpiry_of_not_passed hp fun y hy hyn hpassed => ?_
    obtain ⟨t, r, ht, -⟩ := (s.windowPassed_iff y).mp hpassed
    cases (hpending y hy hyn).symm.trans ht

/-! ### Ring messages on their way (R93) -/

theorem State.ringArrival_of_noPlace {s : State} {o h : Byte} {unread : RingMessage} {home : State → State}
    {arrive : State → State × RingMessage} (hplace : s.setup.place = none) :
    s.ringArrival o h unread home arrive = if 63 ≤ h.toNat then s else { s with ring := Claims.joined s.ring unread } := by
  unfold State.ringArrival
  simp only [hplace, State.send_eq]
  rfl

theorem State.ringArrival_of_home {s : State} {p : Place} {h : Byte} {unread : RingMessage} {home : State → State}
    {arrive : State → State × RingMessage} (hplace : s.setup.place = some p) :
    s.ringArrival p.gate h unread home arrive = home s := by
  unfold State.ringArrival
  simp only [hplace, if_true]

theorem State.ringArrival_of_far {s : State} {p : Place} {o h : Byte} {unread : RingMessage} {home : State → State}
    {arrive : State → State × RingMessage} (hplace : s.setup.place = some p) (ho : o ≠ p.gate) (hhop : 63 ≤ h.toNat) :
    s.ringArrival o h unread home arrive = s := by
  unfold State.ringArrival
  simp only [hplace, if_neg ho]
  exact if_pos hhop

theorem State.ringArrival_of_taken {s : State} {p : Place} {o h : Byte} {unread : RingMessage} {home : State → State}
    {arrive : State → State × RingMessage} (hplace : s.setup.place = some p) (ho : o ≠ p.gate) (hhop : h.toNat < 63) :
    s.ringArrival o h unread home arrive = { (arrive s).1 with ring := Claims.joined (arrive s).1.ring (arrive s).2 } := by
  unfold State.ringArrival
  simp only [hplace, if_neg ho, State.send_eq]
  exact if_neg (Nat.not_le.mpr hhop)

section
variable {s : State} (o hop : Byte) (n : CardNumber) (hp : s.power = .running)
include hp

theorem exec_hold_of_running (counter : Half) (x : HoldContest) : exec (.hold o hop n counter x) s = .next
    (s.ringArrival o hop (.hold o (hop + 1) n counter x) (fun t => t.holdReturns n x)
      (fun t => ((t.holdArrives o n counter).1,
        .hold o (hop + 1) n counter (if (t.holdArrives o n counter).2 then contestedAt t.gate else x)))) := by
  change execHold o hop n counter x s = _
  rw [execHold, whenRunning_of_running _ hp]

theorem exec_release_of_running (b : ReleaseBody) : exec (.release o hop n b) s = .next
    (s.ringArrival o hop (.release o (hop + 1) n b) id (fun t => (t.releaseArrives o n b, .release o (hop + 1) n b))) := by
  change execRelease o hop n b s = _
  rw [execRelease, whenRunning_of_running _ hp]

theorem exec_alert_of_running (k : EvidenceKind) (block : Byte) : exec (.alert o hop n k block) s = .next
    (s.ringArrival o hop (.alert o (hop + 1) n k block) id
      (fun t => ((if ringMark block then t.localAdd n false else t).noteHolders n (.alert k), .alert o (hop + 1) n k block))) := by
  change execAlert o hop n k block s = _
  rw [execAlert, whenRunning_of_running _ hp]

omit n in
theorem exec_census_of_running : exec (.census o hop) s = .next
    (s.ringArrival o hop (.census o (hop + 1)) (fun t => t.censusHome hop) (fun t => (t, .census o (hop + 1)))) := by
  change execCensus o hop s = _
  rw [execCensus, whenRunning_of_running _ hp]

end

/-- A ring message's command meets `ringArrival`, whatever its kind. -/
theorem exec_ringMessage_of_running {s : State} (m : RingMessage) (hp : s.power = .running) : ∃ home arrive,
    exec m.command s = .next (s.ringArrival (Claims.route m).1 (Claims.route m).2 (Claims.passedOn m) home arrive) := by
  cases m with
  | hold o h n c x => exact ⟨_, _, exec_hold_of_running o h n hp c x⟩
  | release o h n b => exact ⟨_, _, exec_release_of_running o h n hp b⟩
  | alert o h n k b => exact ⟨_, _, exec_alert_of_running o h n hp k b⟩
  | census o h => exact ⟨_, _, exec_census_of_running o h hp⟩

theorem State.holdReturns_of_unmatched {s : State} {n : CardNumber} (x : HoldContest)
    (h : ∀ f, (s.context f).state = .holding → (s.context f).number ≠ n) : s.holdReturns n x = s := by
  have hnone : s.holdOwner n = none := by
    refine List.find?_eq_none.mpr fun f _ hf => ?_
    simp only [Bool.and_eq_true, decide_eq_true_iff] at hf
    exact h f hf.1.1 hf.2
  simp only [State.holdReturns, hnone]

theorem State.censusHome_eq (s : State) (h : Byte) : s.censusHome h = { s with
    ring := { s.ring with state := .up, size := h.toNat + 1, censusStart := none }
    service := if s.ring.state = .up then s.service else { s.service with flags := s.service.flags.raise .ring } } := by
  unfold State.censusHome
  cases hs : s.ring.state with
  | up => rfl
  | isolated => rfl

/-- Settles O38, by the place and the origin of a message. -/
theorem ringMessagesComeHomeOrAreForwarded : Obligations.RingMessagesComeHomeOrAreForwarded := by
  refine ⟨fun s m hp => ?_, fun s hp => ⟨?_, if_pos hp, ?_⟩⟩
  · intro forwards hops
    obtain ⟨home, arrive, hexec⟩ := exec_ringMessage_of_running m hp
    refine ⟨fun hplace => by rw [hexec, State.ringArrival_of_noPlace hplace], fun p hplace => ⟨fun ho hhop => ?_, ?_, ?_, ?_, ?_, ?_⟩⟩
    · rw [hexec, State.ringArrival_of_far hplace ho hhop]
    · rintro o h rfl ho hhop
      exact (exec_census_of_running o h hp).trans (congrArg Host.Outcome.next (State.ringArrival_of_taken hplace ho hhop))
    · rintro h n b rfl
      exact (exec_release_of_running _ h n hp b).trans (congrArg Host.Outcome.next (State.ringArrival_of_home hplace))
    · rintro h n k b rfl
      exact (exec_alert_of_running _ h n hp k b).trans (congrArg Host.Outcome.next (State.ringArrival_of_home hplace))
    · rintro h n c g rfl hno
      refine (exec_hold_of_running _ h n hp c g).trans (congrArg Host.Outcome.next ((State.ringArrival_of_home hplace).trans ?_))
      exact State.holdReturns_of_unmatched g hno
    · rintro h rfl
      refine (exec_census_of_running _ h hp).trans (congrArg Host.Outcome.next ((State.ringArrival_of_home hplace).trans ?_))
      exact s.censusHome_eq h
  · change execBadRingMessage s = _
    rw [execBadRingMessage, whenRunning_of_running _ hp]
    rfl
  · change execRingOutSent s = _
    rw [execRingOutSent, whenRunning_of_running _ hp, List.drop_one]
    rfl

/-! ### O40: a HOLD comes home, or its ring timeout (R34, R101, R104) -/

theorem State.holdReturns_of_owner {s : State} {f : Face} {n : CardNumber} (x : HoldContest) (h : s.holdOwner n = some f) :
    s.holdReturns n x = (s.setContext f (if ringMark x.mark then
      { s.context f with contested := true, notes := (s.context f).notes ++ [.contest x.gate] } else s.context f)).deciding f := by
  simp only [State.holdReturns, h]

theorem State.isolate_eq (s : State) : s.isolate = { s with
    ring := if s.ring.state = .up then { s.ring with state := .isolated, censusStart := some s.now } else s.ring
    service := if s.ring.state = .up then { s.service with flags := s.service.flags.raise .ring } else s.service } := by
  unfold State.isolate
  split <;> rfl

theorem exec_ringTimeout_of_running {s : State} (f : Face) (hp : s.power = .running) : exec (.ringTimeout f) s = .next
    (if (s.context f).timedOut s.now then
      (s.isolate.setContext f { s.isolate.context f with bypassed := true }).deciding f else s) := by
  change execRingTimeout f s = _
  rw [execRingTimeout, whenRunning_of_running _ hp]

/-- Settles O40: the first context of the hold order that waits for the number, and the timer that has run out. -/
theorem holdReturnOrTimeoutEndsTheWait : Obligations.HoldReturnOrTimeoutEndsTheWait := by
  refine ⟨fun s p f hop n counter x earlier later hp hplace horder hearlier hstate hsent hn => ?returns,
    fun s f start life hp htimer => ?timeout⟩
  case returns =>
    have howner : s.holdOwner n = some f := by
      have hskip : earlier.find? (fun g => decide ((s.context g).state = .holding) && (s.context g).holdSent
          && decide ((s.context g).number = n)) = none := by
        refine List.find?_eq_none.mpr fun g hg hmeets => ?_
        simp only [Bool.and_eq_true, decide_eq_true_iff] at hmeets
        obtain ⟨⟨hs, hh⟩, hnum⟩ := hmeets
        rcases hearlier g hg with h | h | h
        · exact h hs
        · exact Bool.false_ne_true (h.symm.trans hh)
        · exact h hnum
      rw [State.holdOwner, horder, List.find?_append, hskip, Option.none_or]
      exact List.find?_cons_of_pos (by simp [hstate, hsent, hn])
    have hexec : exec (.hold p.gate hop n counter x) s = .next (s.holdReturns n x) :=
      (exec_hold_of_running _ hop n hp counter x).trans (congrArg Host.Outcome.next (State.ringArrival_of_home hplace))
    refine ⟨fun hmark => ?_, fun hmark => ?_⟩
    · rw [hexec, State.holdReturns_of_owner x howner, if_pos hmark]
      rfl
    · rw [hexec, State.holdReturns_of_owner x howner, if_neg (by simp [hmark]), State.setContext, State.context, PerFace.set_get]
  case timeout =>
    intro c due
    have hdue : (s.context f).timedOut s.now = true ↔ due := by
      simp only [Context.timedOut, htimer, Bool.and_eq_true, decide_eq_true_iff, reached_iff]
      rfl
    refine ⟨fun hyes => ?_, fun hno => ?_⟩
    · rw [exec_ringTimeout_of_running f hp, if_pos (hdue.mpr hyes), State.isolate_eq]
      rfl
    · rw [exec_ringTimeout_of_running f hp, if_neg (mt hdue.mp hno)]

end Sys2Proof.Machine
end

section
/-! SUPPORT. Settles O37 and O39: own holds, and what the arrivals of HOLD, RELEASE and ALERT make of the tables (sections 4.1, 4.2, 4.5, 5.4
and 5.7). -/

namespace Sys2Proof.Machine

-- One declaration at a time: each waiting elaboration thread counts against the memory limit of the one text.
set_option Elab.async false

/-! ### Notes and late findings (R35, R87, R125) -/

theorem Context.takeLate_eq (c : Context) (k : EvidenceKind) : c.takeLate k = { c with
    late := if (c.state = .settling ∨ c.state = .confirming) ∧ c.refusing = none ∧ c.late = none then some k else c.late } := by
  unfold Context.takeLate
  simp only [CtxState.committed_iff]
  split <;> rfl

theorem Context.takeLate_of_not_committed {c : Context} (k : EvidenceKind) (h : c.state.committed = false) : c.takeLate k = c :=
  if_neg fun hc => Bool.false_ne_true (h.symm.trans hc.1)

theorem Context.holds_iff (c : Context) (n : CardNumber) : c.holds n = true ↔ c.ownHold = true ∧ c.holdsEntry = true ∧ c.number = n := by
  simp only [Context.holds, Bool.and_eq_true, decide_eq_true_iff, and_assoc]

theorem State.noteHolders_eq (s : State) (n : CardNumber) (x : Note) :
    s.noteHolders n x = { s with contexts := Claims.noted s n x x.kind } := by
  unfold State.noteHolders Claims.noted Context.receive
  simp only [Context.takeLate_eq, Context.holds_iff]

/-! ### O37: own holds (R84, R87, R89) -/

theorem Face.other_ne (f : Face) : f.other ≠ f := by cases f <;> nofun

section
variable {s : State} {f : Face} {e : SightingEntry} {l : List SightingEntry}
  (hfind : findOrCreate s.sightings (s.context f).number = some (e, l))
include hfind

theorem State.setOwnHold_of_noHold (h : e.hold = .noHold) : s.setOwnHold f = { s with
    sightings := touchSighting l { e with hold := .own f, displaced := none, contestNote := none }
    contexts := s.contexts.set f { s.context f with ownHold := true, holdsEntry := true } } := by
  simp only [State.setOwnHold, hfind, h]
  rfl

theorem State.setOwnHold_of_expired {o : Byte} {t : Word} (h : e.hold = .peer o t) (hlate : 5000 ≤ (s.now - t).toNat) :
    s.setOwnHold f = { s with
      sightings := touchSighting l { e with hold := .own f, displaced := none, contestNote := none }
      contexts := s.contexts.set f { s.context f with ownHold := true, holdsEntry := true } } := by
  simp only [State.setOwnHold, hfind, h]
  exact if_pos ((reached_iff _ _ peerHoldLife).mpr hlate)

theorem State.setOwnHold_of_peer {o : Byte} {t : Word} (h : e.hold = .peer o t) (hearly : (s.now - t).toNat < 5000)
    (hstate : (s.context f).state.committed = false) : s.setOwnHold f = { s with
      sightings := touchSighting l { e with hold := .own f, displaced := some (o, t), contestNote := some o }
      contexts := s.contexts.set f
        { s.context f with ownHold := true, holdsEntry := true, notes := (s.context f).notes ++ [.contest o] } } := by
  simp only [State.setOwnHold, hfind, h]
  refine (if_neg fun hl => Nat.not_le.mpr hearly ((reached_iff _ _ peerHoldLife).mp hl)).trans ?_
  rw [Context.receive, Context.takeLate_of_not_committed _ (by exact hstate)]
  rfl

theorem State.setOwnHold_of_other (h : e.hold = .own f.other) : s.setOwnHold f = { s with
    contexts := (s.contexts.set f (Context.markContested { s.context f with ownHold := true, holdsEntry := true })).set f.other
      (s.context f.other).markContested } := by
  simp only [State.setOwnHold, hfind, h, if_neg (Face.other_ne f)]
  rfl

end

theorem State.setOwnHold_of_none {s : State} {f : Face} (hfind : findOrCreate s.sightings (s.context f).number = none) :
    s.setOwnHold f = { s with
      contexts := s.contexts.set f { s.context f with ownHold := true, holdsEntry := false, contested := true } } := by
  simp only [State.setOwnHold, hfind]
  rfl

theorem SightingEntry.endOwn_of_restored {e : SightingEntry} {now t : Word} {o : Byte} (h : e.displaced = some (o, t))
    (hearly : (now - t).toNat < 5000) : e.endOwn now = { e with hold := .peer o t, displaced := none, contestNote := none } := by
  simp only [SightingEntry.endOwn, h]
  exact if_neg fun hl => Nat.not_le.mpr hearly ((reached_iff _ _ peerHoldLife).mp hl)

theorem SightingEntry.endOwn_of_ended {e : SightingEntry} {now : Word}
    (h : ∀ o t, e.displaced = some (o, t) → 5000 ≤ (now - t).toNat) :
    e.endOwn now = { e with hold := .noHold, displaced := none, contestNote := none } := by
  unfold SightingEntry.endOwn
  cases hd : e.displaced with
  | none => rfl
  | some d => exact if_pos ((reached_iff _ _ peerHoldLife).mpr (h d.1 d.2 hd))

theorem sightingsReleased_of_own {l : List SightingEntry} {f : Face} {c o : Context} {now : Word} {e : SightingEntry}
    (hown : c.ownHold = true) (hholds : c.holdsEntry = true) (hfind : findSighting l c.number = some e) (he : e.hold = .own f) :
    sightingsReleased l f c o now
      = touchSighting l (if o.holds c.number then { e with hold := .own f.other } else e.endOwn now) := by
  rw [sightingsReleased, if_pos (by rw [hown, hholds]; rfl)]
  simp only [hfind]
  exact if_pos he

theorem sightingsReleased_of_not_held {l : List SightingEntry} {f : Face} {c o : Context} {now : Word}
    (h : c.ownHold = false ∨ c.holdsEntry = false ∨ ∀ e ∈ l, e.number ≠ c.number) : sightingsReleased l f c o now = l := by
  unfold sightingsReleased
  rcases h with h | h | h
  · rw [h]
    rfl
  · rw [h, Bool.and_false]
    rfl
  · simp only [findSighting_of_absent h]
    exact ite_self _

theorem sightingsReleased_of_foreign {l : List SightingEntry} {f : Face} {c o : Context} {now : Word} {e : SightingEntry}
    (hfind : findSighting l c.number = some e) (he : e.hold ≠ .own f) : sightingsReleased l f c o now = l := by
  unfold sightingsReleased
  simp only [hfind, if_neg he]
  exact ite_self _

/-- Settles O37, by the hold that the card's entry carries, or by the room for a new entry. -/
theorem ownHoldsAreTakenAndReleased : Obligations.OwnHoldsAreTakenAndReleased := by
  unfold Obligations.OwnHoldsAreTakenAndReleased
  intro s f hnodup c n others set freed contested
  have hfreed : freed.sightings = sightingsReleased s.sightings f c (s.context f.other) s.now := by
    simp only [freed, State.releaseOwnHold_eq]
    rfl
  have hcontested (x : Context) : x.markContested = contested x := by
    rw [Context.markContested, Context.takeLate_eq]
  have htouch (e' : SightingEntry) (hn : e'.number = n) : touchSighting s.sightings e' = others ++ [e'] := by
    rw [touchSighting, hn]
  refine ⟨fun e he hn => ?entry, fun habsent hlen => ?joins, fun habsent hlen before v later hl hv hbefore => ?replaces,
    fun hheld hlen => ?full, ?frame, fun h => hfreed.trans (sightingsReleased_of_not_held h)⟩
  case entry =>
    have hfindE : findSighting s.sightings n = some e := hn ▸ findSighting_of_mem hnodup he
    have hfind : findOrCreate s.sightings n = some (e, s.sightings) := hn ▸ findOrCreate_of_mem hnodup he
    refine ⟨fun h => ?_, fun o since h hearly hst => ?_, fun o since h hlate => ?_, fun h => ?_, fun hown hholds h => ?_, fun h => ?_⟩
    · exact (State.setOwnHold_of_noHold hfind h).trans (by rw [htouch]; exact hn)
    · exact (State.setOwnHold_of_peer hfind h hearly hst).trans (by rw [htouch]; exact hn)
    · exact (State.setOwnHold_of_expired hfind h hlate).trans (by rw [htouch]; exact hn)
    · exact (State.setOwnHold_of_other hfind h).trans (by rw [hcontested, hcontested])
    · intro shared
      rw [hfreed, sightingsReleased_of_own hown hholds hfindE h]
      have hshared : (s.context f.other).holds c.number = true ↔ shared := (s.context f.other).holds_iff n
      refine ⟨fun hs => ?_, fun hs o since hd hearly => ?_, fun hs hd => ?_⟩
      · rw [if_pos (hshared.mpr hs), htouch]
        exact hn
      · rw [if_neg (mt hshared.mp hs), SightingEntry.endOwn_of_restored hd hearly, htouch]
        exact hn
      · rw [if_neg (mt hshared.mp hs), SightingEntry.endOwn_of_ended hd, htouch]
        exact hn
    · exact hfreed.trans (sightingsReleased_of_foreign hfindE h)
  case joins =>
    have hfind : findOrCreate s.sightings (s.context f).number = some (SightingEntry.fresh n, s.sightings) := by
      rw [findOrCreate_of_absent habsent, sightingRoom_of_lt hlen]
      rfl
    refine (State.setOwnHold_of_noHold hfind rfl).trans ?_
    rw [touchSighting_of_absent habsent]
    rfl
  case replaces =>
    have hroom := sightingRoom_of_victim (hl ▸ hlen) (hl ▸ hnodup) hv hbefore
    have hfind : findOrCreate s.sightings (s.context f).number = some (SightingEntry.fresh n, before ++ later) := by
      rw [findOrCreate_of_absent habsent, hl, hroom]
      rfl
    have habsent' : ∀ x ∈ before ++ later, x.number ≠ n := by
      intro x hx
      refine habsent x (hl ▸ ?_)
      rcases List.mem_append.mp hx with hx | hx
      · exact List.mem_append_left _ hx
      · exact List.mem_append_right _ (List.mem_cons_of_mem _ hx)
    refine (State.setOwnHold_of_noHold hfind rfl).trans ?_
    rw [touchSighting_of_absent habsent']
    rfl
  case full =>
    refine State.setOwnHold_of_none ?_
    rw [findOrCreate_of_absent fun e he => (hheld e he).1, sightingRoom_of_held hlen fun e he => (hheld e he).2]
    rfl
  case frame => exact (s.releaseOwnHold_eq f).trans (by rw [hfreed])

/-! ### Room for a new entry (R83, R84) -/

/-- Whether a new entry can join, and the table that it then joins. -/
theorem sightingRoom_cases {l : List SightingEntry} (hnodup : (l.map (·.number)).Nodup) :
    (∃ room, sightingRoom l = some room ∧ ¬ (256 ≤ l.length ∧ ∀ e ∈ l, e.hold ≠ .noHold)
      ∧ ∀ x : SightingEntry, (∀ e ∈ l, e.number ≠ x.number) → Claims.joins l x (touchSighting room x))
    ∨ (sightingRoom l = none ∧ (256 ≤ l.length ∧ ∀ e ∈ l, e.hold ≠ .noHold) ∧ ∀ x, Claims.joins l x l) := by
  by_cases hlen : l.length < 256
  · refine .inl ⟨l, sightingRoom_of_lt hlen, fun h => Nat.not_le.mpr hlen h.1, fun x hx => ?_⟩
    exact ⟨fun _ => touchSighting_of_absent hx, fun h => absurd hlen (Nat.not_lt.mpr h), fun h => absurd hlen (Nat.not_lt.mpr h)⟩
  · have hfull := Nat.not_lt.mp hlen
    cases hfind : l.find? (fun e => decide (e.hold = .noHold)) with
    | none =>
      have hheld : ∀ e ∈ l, e.hold ≠ .noHold := fun e he => by simpa using List.find?_eq_none.mp hfind e he
      refine .inr ⟨sightingRoom_of_held hfull hheld, ⟨hfull, hheld⟩, fun x => ⟨fun h => absurd h hlen, ?_, fun _ _ => rfl⟩⟩
      rintro - before v later rfl hv -
      exact absurd hv (hheld v (by simp))
    | some v =>
      obtain ⟨hv, before, later, rfl, hbefore⟩ := List.find?_eq_some_iff_append.mp hfind
      have hfree : v.hold = .noHold := by simpa using hv
      have hfirst : ∀ y ∈ before, y.hold ≠ .noHold := fun y hy => by simpa using hbefore y hy
      have hroom := sightingRoom_of_victim hfull hnodup hfree hfirst
      refine .inl ⟨before ++ later, hroom, fun h => h.2 v (by simp) hfree, fun x hx => ⟨fun h => absurd h hlen, ?_, ?_⟩⟩
      · intro _ before' v' later' hl hv' hbefore'
        have hroom' := sightingRoom_of_victim (hl ▸ hfull) (hl ▸ hnodup) hv' hbefore'
        rw [← hl, hroom] at hroom'
        obtain hsame := Option.some.inj hroom'
        rw [hsame, touchSighting_of_absent]
        intro y hy
        refine hx y (hl ▸ ?_)
        rcases List.mem_append.mp hy with hy | hy
        · exact List.mem_append_left _ hy
        · exact List.mem_append_right _ (List.mem_cons_of_mem _ hy)
      · exact fun _ h => absurd hfree (h v (by simp))

/-! ### O39: HOLD (R84, R96) -/

section
variable {s : State} {n : CardNumber} {e : SightingEntry} {l : List SightingEntry} (o : Byte) (counter : Half)
  (hfind : findOrCreate s.sightings n = some (e, l))
include hfind

theorem State.holdArrives_of_peered (h : e.hold = .noHold ∨ ∃ t, e.hold = .peer o t) : s.holdArrives o n counter
    = ({ s with sightings := touchSighting l { e with hold := .peer o s.now } }, e.ahead counter) := by
  rcases h with h | ⟨t, h⟩
  · simp only [State.holdArrives, hfind, SightingEntry.takeHold, h, Bool.false_or]
  · simp only [State.holdArrives, hfind, SightingEntry.takeHold, h, if_true, Bool.false_or]

theorem State.holdArrives_of_foreign {o2 : Byte} {t : Word} (ho : o2 ≠ o) (h : e.hold = .peer o2 t) :
    s.holdArrives o n counter = (s, true) := by
  simp only [State.holdArrives, hfind, SightingEntry.takeHold, h, if_neg ho, Bool.true_or]

theorem State.holdArrives_of_own {f : Face} (h : e.hold = .own f) : s.holdArrives o n counter
    = ({ s with
          sightings := touchSighting l { e with
            contestNote := some o
            displaced := e.displaced.map fun d => if d.1 = o then (o, s.now) else d }
          contexts := Claims.noted s n (.contest o) .concurrent }, true) := by
  simp only [State.holdArrives, hfind, SightingEntry.takeHold, h, Bool.true_or, State.noteHolders_eq]
  rfl

end

theorem State.holdArrives_of_none {s : State} {n : CardNumber} (o : Byte) (counter : Half) (h : findOrCreate s.sightings n = none) :
    s.holdArrives o n counter = (s, true) := by
  simp only [State.holdArrives, h]

/-- A HOLD that takes its arrival action is forwarded, contested where this part contests it. -/
theorem exec_hold_of_taken {s t : State} {p : Place} {o hop : Byte} {n : CardNumber} {counter : Half} {x : HoldContest} {contests : Bool}
    (hp : s.power = .running) (hplace : s.setup.place = some p) (ho : o ≠ p.gate) (hhop : hop.toNat < 63)
    (harrives : s.holdArrives o n counter = (t, contests)) : exec (.hold o hop n counter x) s = .next { t with
      ring := Claims.joined t.ring
        (.hold o (hop + 1) n counter (if contests then { mark := 1, gate := p.gate } else x)) } := by
  have hgate : s.gate = p.gate := by rw [State.gate, hplace]; rfl
  rw [exec_hold_of_running _ _ _ hp, State.ringArrival_of_taken hplace ho hhop, harrives, hgate]
  rfl

theorem holdArrivalsActOnTheEntry : Claims.HoldArrivalsActOnTheEntry := by
  unfold Claims.HoldArrivalsActOnTheEntry
  intro s p o hop n counter carried hp hplace ho hhop hnodup others forwarded takes
  have htakes {t : State} {contests : Bool} (h : s.holdArrives o n counter = (t, contests)) (hring : t.ring = s.ring) :
      takes { t with ring := forwarded contests } := by
    refine (exec_hold_of_taken hp hplace ho hhop h).trans ?_
    rw [hring]
  refine ⟨fun habsent => ?_, fun e he hn => ?_⟩
  · rcases sightingRoom_cases hnodup with ⟨room, hroom, hnotfull, hjoins⟩ | ⟨hroom, hfull, hjoins⟩
    · have hfind : findOrCreate s.sightings n = some (SightingEntry.fresh n, room) := by
        rw [findOrCreate_of_absent habsent, hroom]
        rfl
      refine ⟨_, hjoins _ (by exact habsent), ?_⟩
      rw [decide_eq_false hnotfull]
      exact htakes (State.holdArrives_of_peered o counter hfind (.inl rfl)) rfl
    · have hfind : findOrCreate s.sightings n = none := by
        rw [findOrCreate_of_absent habsent, hroom]
        rfl
      refine ⟨_, hjoins _, ?_⟩
      rw [decide_eq_true hfull]
      exact htakes (State.holdArrives_of_none o counter hfind) rfl
  · intro behind
    have hfind : findOrCreate s.sightings n = some (e, s.sightings) := hn ▸ findOrCreate_of_mem hnodup he
    have htouch (e' : SightingEntry) (hn : e'.number = n) : touchSighting s.sightings e' = others ++ [e'] := by
      rw [touchSighting, hn]
    refine ⟨fun h => ?_, fun o2 since ho2 h => ?_, fun f h => ?_⟩
    · have htaken := htakes (State.holdArrives_of_peered o counter hfind h) rfl
      rw [htouch _ (by exact hn)] at htaken
      exact htaken
    · exact htakes (State.holdArrives_of_foreign o counter hfind ho2 h) rfl
    · have htaken := htakes (State.holdArrives_of_own o counter hfind h) rfl
      rw [htouch _ (by exact hn)] at htaken
      cases hd : e.displaced with
      | none => simpa only [hd, Option.map_none] using htaken
      | some d => simpa only [hd, Option.map_some] using htaken

/-! ### O39: RELEASE (R97, R98) -/

/-- The entry once gate `o` has given up its holds on the card (R97). -/
def SightingEntry.givenUp (e : SightingEntry) (o : Byte) : SightingEntry := { e with
  hold := match e.hold with
    | .peer o2 since => if o2 = o then .noHold else .peer o2 since
    | h => h
  displaced := match e.displaced with
    | some d => if d.1 = o then none else some d
    | none => none }

/-- The table once gate `o` has given up its holds on the card of entry `e`: the entry moves where its own hold field changed. -/
def releasedTable (l : List SightingEntry) (o : Byte) (e : SightingEntry) : List SightingEntry :=
  if ∃ since, e.hold = .peer o since then touchSighting l (e.givenUp o) else replaceSighting l (e.givenUp o)

theorem releasedTable_of_peered {l : List SightingEntry} {o : Byte} {e : SightingEntry} (h : ∃ since, e.hold = .peer o since) :
    releasedTable l o e = touchSighting l (e.givenUp o) := if_pos h

theorem releasedTable_of_not_peered {l : List SightingEntry} {o : Byte} {e : SightingEntry} (h : ¬ ∃ since, e.hold = .peer o since) :
    releasedTable l o e = replaceSighting l (e.givenUp o) := if_neg h

theorem State.clearPeer_of_entry {s : State} {n : CardNumber} {e : SightingEntry} (o : Byte)
    (hfind : findSighting s.sightings n = some e) : s.clearPeer o n = { s with sightings := releasedTable s.sightings o e } := by
  unfold State.clearPeer releasedTable SightingEntry.givenUp
  simp only [hfind]
  cases hhold : e.hold with
  | noHold => simp <;> rfl
  | own f => simp <;> rfl
  | peer o2 since =>
    by_cases ho : o2 = o
    · simp [ho] <;> rfl
    · simp [ho] <;> rfl

theorem State.clearPeer_of_absent {s : State} {n : CardNumber} (o : Byte) (h : ∀ e ∈ s.sightings, e.number ≠ n) :
    s.clearPeer o n = s := by
  simp only [State.clearPeer, findSighting_of_absent h]

theorem touchSighting_eq {l : List SightingEntry} {e : SightingEntry} {n : CardNumber} (hn : e.number = n) :
    touchSighting l e = l.filter (fun y => decide (y.number ≠ n)) ++ [e] := by
  rw [touchSighting, hn]

theorem replaceSighting_eq {l : List SightingEntry} {e : SightingEntry} {n : CardNumber} (hn : e.number = n) :
    replaceSighting l e = l.map fun y => if y.number = n then e else y := by
  rw [replaceSighting, hn]

section
variable {l : List SightingEntry} {e : SightingEntry} {n : CardNumber} (hn : e.number = n)
include hn

theorem findSighting_touchSighting : findSighting (touchSighting l e) n = some e := by
  rw [findSighting, touchSighting_eq hn, List.find?_append, List.find?_eq_none.mpr, Option.none_or]
  · exact List.find?_cons_of_pos (decide_eq_true hn)
  · intro x hx
    rw [List.mem_filter] at hx
    simpa using hx.2

theorem filter_touchSighting : (touchSighting l e).filter (fun y => decide (y.number ≠ n)) = l.filter fun y => decide (y.number ≠ n) := by
  rw [touchSighting_eq hn, List.filter_append, List.filter_filter, List.filter_cons_of_neg (by simp [hn]), List.filter_nil,
    List.append_nil]
  simp only [Bool.and_self]

theorem number_replaced (y : SightingEntry) : (if y.number = n then e else y).number = y.number := by
  split
  · rename_i h
    rw [hn, h]
  · rfl

theorem filter_replaceSighting : (replaceSighting l e).filter (fun y => decide (y.number ≠ n)) = l.filter fun y => decide (y.number ≠ n) := by
  rw [replaceSighting_eq hn, List.filter_map]
  simp only [Function.comp_def, number_replaced hn]
  refine (List.map_congr_left fun y hy => ?_).trans (List.map_id _)
  exact if_neg (by simpa using (List.mem_filter.mp hy).2)

theorem findSighting_replaceSighting {x : SightingEntry} (hx : findSighting l n = some x) : findSighting (replaceSighting l e) n = some e := by
  rw [findSighting, replaceSighting_eq hn, List.find?_map]
  simp only [Function.comp_def, number_replaced hn]
  rw [← findSighting, hx, Option.map_some, if_pos (findSighting_number hx)]

end

/-- After the holds are given up the card's entry is still found, and the other entries stand. -/
theorem releasedTable_entry {l : List SightingEntry} {e : SightingEntry} {n : CardNumber} (o : Byte) (hn : e.number = n)
    (hfind : findSighting l n = some e) : findSighting (releasedTable l o e) n = some (e.givenUp o)
      ∧ (releasedTable l o e).filter (fun y => decide (y.number ≠ n)) = l.filter fun y => decide (y.number ≠ n) := by
  have hn' : (e.givenUp o).number = n := hn
  by_cases h : ∃ since, e.hold = .peer o since
  · rw [releasedTable_of_peered h]
    exact ⟨findSighting_touchSighting hn', filter_touchSighting hn'⟩
  · rw [releasedTable_of_not_peered h]
    exact ⟨findSighting_replaceSighting hn' hfind, filter_replaceSighting hn'⟩

section
variable {s : State} {n : CardNumber} {e : SightingEntry} {l : List SightingEntry} {x : Sighting}
  (hfind : findOrCreate s.sightings n = some (e, l))
include hfind

theorem State.peerSighting_of_newer (h : ∀ old, e.sighting = some old → old.counter.toNat < x.counter.toNat) :
    s.peerSighting n x = { s with sightings := touchSighting l { e with sighting := some x } } := by
  simp only [State.peerSighting, hfind]
  refine if_pos ?_
  cases hs : e.sighting with
  | none => rfl
  | some old => exact decide_eq_true (h old hs)

theorem State.peerSighting_of_older (h : ¬ ∀ old, e.sighting = some old → old.counter.toNat < x.counter.toNat) :
    s.peerSighting n x = s := by
  simp only [State.peerSighting, hfind]
  refine if_neg fun hnewer => h fun old hs => ?_
  rw [hs] at hnewer
  exact of_decide_eq_true hnewer

end

theorem State.peerSighting_of_none {s : State} {n : CardNumber} (x : Sighting) (h : findOrCreate s.sightings n = none) :
    s.peerSighting n x = s := by
  simp only [State.peerSighting, h]

theorem exec_release_of_taken {s : State} {p : Place} {o hop : Byte} {n : CardNumber} (b : ReleaseBody)
    (hp : s.power = .running) (hplace : s.setup.place = some p) (ho : o ≠ p.gate) (hhop : hop.toNat < 63) :
    exec (.release o hop n b) s = .next { s.releaseArrives o n b with
      ring := Claims.joined (s.releaseArrives o n b).ring (.release o (hop + 1) n b) } := by
  rw [exec_release_of_running _ _ _ hp, State.ringArrival_of_taken hplace ho hhop]

/-- A COMMITTED release: the write is recorded, and the holding contexts are noted (R97). -/
theorem State.committedElsewhere_of {s : State} {o : Byte} {n : CardNumber} {x : Sighting} {l : List SightingEntry}
    (h : (s.clearPeer o n).peerSighting n x = { s with sightings := l }) :
    s.committedElsewhere o n x = { s with sightings := l, contexts := Claims.noted s n .concurrent .concurrent } := by
  rw [State.committedElsewhere, h, State.noteHolders_eq]
  rfl

theorem releaseArrivalsClearAndRecord : Claims.ReleaseArrivalsClearAndRecord := by
  unfold Claims.ReleaseArrivalsClearAndRecord
  intro s p o hop n hp hplace ho hhop hnodup others takes seen
  have htakes {b : ReleaseBody} {l : List SightingEntry} {contexts : PerFace Context}
      (h : s.releaseArrives o n b = { s with sightings := l, contexts := contexts }) : takes b l contexts := by
    refine (exec_release_of_taken b hp hplace ho hhop).trans ?_
    rw [h]
  refine ⟨fun habsent => ⟨fun x => ?_, fun counter chain station day minute d => ?_⟩, fun e he hn => ?_⟩
  · have hclear := State.clearPeer_of_absent o habsent
    exact ⟨htakes hclear, htakes hclear⟩
  · have hclear := State.clearPeer_of_absent o habsent
    rcases sightingRoom_cases hnodup with ⟨room, hroom, -, hjoins⟩ | ⟨hroom, -, hjoins⟩
    · have hfind : findOrCreate s.sightings n = some (SightingEntry.fresh n, room) := by
        rw [findOrCreate_of_absent habsent, hroom]
        rfl
      refine ⟨_, hjoins _ (by exact habsent), htakes (State.committedElsewhere_of ?_)⟩
      rw [hclear, State.peerSighting_of_newer hfind (fun old h => nomatch h)]
      rfl
    · have hfind : findOrCreate s.sightings n = none := by
        rw [findOrCreate_of_absent habsent, hroom]
        rfl
      refine ⟨_, hjoins _, htakes (State.committedElsewhere_of ?_)⟩
      rw [hclear, State.peerSighting_of_none _ hfind]
  · intro cleared peered kept
    have hfind : findSighting s.sightings n = some e := hn ▸ findSighting_of_mem hnodup he
    have hclear := State.clearPeer_of_entry o hfind
    obtain ⟨hentry, hothers⟩ := releasedTable_entry o hn hfind
    have htable : (peered → releasedTable s.sightings o e = others ++ [cleared])
        ∧ (¬ peered → releasedTable s.sightings o e = kept) :=
      ⟨fun h => (releasedTable_of_peered h).trans (touchSighting_eq hn),
        fun h => (releasedTable_of_not_peered h).trans (replaceSighting_eq hn)⟩
    have hcreate : findOrCreate (s.clearPeer o n).sightings n = some (e.givenUp o, releasedTable s.sightings o e) := by
      rw [hclear]
      simp only [findOrCreate, hentry]
    refine ⟨fun x b hb => ?_, fun counter chain station day minute d => ?_⟩
    · have harrives : s.releaseArrives o n b = { s with sightings := releasedTable s.sightings o e } := by
        rcases List.mem_cons.mp hb with rfl | hb
        · exact hclear
        · obtain rfl := List.mem_singleton.mp hb
          exact hclear
      exact ⟨fun h => htakes (by rw [harrives, htable.1 h]), fun h => htakes (by rw [harrives, htable.2 h])⟩
    · intro b newer contexts
      have holder (h : ¬ newer) : s.releaseArrives o n b
          = { s with sightings := releasedTable s.sightings o e, contexts := contexts } :=
        State.committedElsewhere_of ((State.peerSighting_of_older (x := seen counter chain station day minute d) hcreate h).trans hclear)
      refine ⟨fun h => htakes (State.committedElsewhere_of ?_), fun h hpeered => htakes ?_, fun h hpeered => htakes ?_⟩
      · rw [State.peerSighting_of_newer (x := seen counter chain station day minute d) hcreate h, touchSighting_eq (n := n) (by exact hn),
          hclear, hothers]
        rfl
      · rw [holder h, htable.1 hpeered]
      · rw [holder h, htable.2 hpeered]

/-! ### O39: ALERT and the LOCAL add (R99, R119, R121, R124) -/

theorem exec_alert_of_taken {s : State} {p : Place} {o hop : Byte} (n : CardNumber) (k : EvidenceKind) {block : Byte} {b : Bool}
    (hp : s.power = .running) (hplace : s.setup.place = some p) (ho : o ≠ p.gate) (hhop : hop.toNat < 63) (hmark : ringMark block = b) :
    exec (.alert o hop n k block) s = .next { (if b then s.localAdd n false else s).noteHolders n (.alert k) with
      ring := Claims.joined s.ring (.alert o (hop + 1) n k block) } := by
  rw [exec_alert_of_running _ _ _ hp, State.ringArrival_of_taken hplace ho hhop, hmark]
  cases b <;> rfl

theorem Hotlist.not_listed_of_absent {h : Hotlist} {n : CardNumber} (hn : ∀ e ∈ h.entries, e.number ≠ n) : ¬ h.listed n = true := by
  rw [h.listed_iff]
  rintro ⟨e, he, hne⟩
  exact hn e he hne

theorem Hotlist.localAdd_of_listed {h : Hotlist} {n : CardNumber} (mark : Bool) (hn : ∃ e ∈ h.entries, e.number = n) :
    h.localAdd n mark = { h with entries := h.entries.map fun e =>
      if mark = true ∧ e.number = n ∧ e.origin = .localAdd then { e with ownBlock := true } else e } := by
  rw [Hotlist.localAdd, if_pos ((h.listed_iff n).mpr hn)]
  cases mark with
  | true => simp only [if_true, true_and, Hotlist.mark]
  | false => simp

theorem Hotlist.localAdd_of_room {h : Hotlist} {n : CardNumber} (mark : Bool) (hn : ∀ e ∈ h.entries, e.number ≠ n)
    (hroom : h.entries.length < 2048) : h.localAdd n mark = h.addLocal n mark := by
  rw [Hotlist.localAdd, if_neg (Hotlist.not_listed_of_absent hn)]
  exact if_pos hroom

theorem Hotlist.localAdd_of_full {h : Hotlist} {n : CardNumber} (mark : Bool) (hn : ∀ e ∈ h.entries, e.number ≠ n)
    (hfull : 2048 ≤ h.entries.length) : h.localAdd n mark = match h.victim with
      | some v => (h.remove v).addLocal n mark
      | none => h := by
  rw [Hotlist.localAdd, if_neg (Hotlist.not_listed_of_absent hn)]
  exact if_neg (Nat.not_lt.mpr hfull)

/-- A number without an own-block mark may be displaced. -/
theorem Hotlist.displaceable_iff (h : Hotlist) (m : CardNumber) :
    (h.entries.any fun e => decide (e.number = m ∧ e.ownBlock = false)) = true ↔ ∃ e ∈ h.entries, e.number = m ∧ e.ownBlock = false := by
  simp only [List.any_eq_true, decide_eq_true_iff]

theorem Hotlist.not_displaceable {h : Hotlist} {m : CardNumber} (hm : ∀ e ∈ h.entries, e.number = m → e.ownBlock = true) :
    ¬ (h.entries.any fun e => decide (e.number = m ∧ e.ownBlock = false)) = true := by
  rw [h.displaceable_iff]
  rintro ⟨e, he, hnum, hmark⟩
  exact Bool.false_ne_true (hmark.symm.trans (hm e he hnum))

theorem Hotlist.victim_of_none {h : Hotlist} (hall : ∀ m ∈ h.localOrder, ∀ e ∈ h.entries, e.number = m → e.ownBlock = true) :
    h.victim = none :=
  List.find?_eq_none.mpr fun m hm => Hotlist.not_displaceable (hall m hm)

theorem Hotlist.victim_of_first {h : Hotlist} {before after : List CardNumber} {v : CardNumber}
    (horder : h.localOrder = before ++ v :: after) (hv : ∃ e ∈ h.entries, e.number = v ∧ e.ownBlock = false)
    (hbefore : ∀ m ∈ before, ∀ e ∈ h.entries, e.number = m → e.ownBlock = true) : h.victim = some v := by
  rw [Hotlist.victim, horder, List.find?_append, List.find?_eq_none.mpr fun m hm => Hotlist.not_displaceable (hbefore m hm),
    Option.none_or]
  exact List.find?_cons_of_pos ((h.displaceable_iff v).mpr hv)

theorem filter_ne_middle {before after : List CardNumber} {v : CardNumber} (hnodup : (before ++ v :: after).Nodup) :
    (before ++ v :: after).filter (fun m => decide (m ≠ v)) = before ++ after := by
  obtain ⟨-, hafter, hdisjoint⟩ := List.nodup_append.mp hnodup
  have hb : before.filter (fun m => decide (m ≠ v)) = before :=
    List.filter_eq_self.mpr fun m hm => decide_eq_true (hdisjoint m hm v List.mem_cons_self)
  have ha : after.filter (fun m => decide (m ≠ v)) = after :=
    List.filter_eq_self.mpr fun m hm => decide_eq_true fun heq => (List.nodup_cons.mp hafter).1 (heq ▸ hm)
  rw [List.filter_append, hb, List.filter_cons_of_neg (by simp), ha]

theorem localAddFollowsTheList (h : Hotlist) (n : CardNumber) (mark : Bool) :
    ((∃ e ∈ h.entries, e.number = n) → h.localAdd n mark = { h with entries := h.entries.map fun e =>
      if mark = true ∧ e.number = n ∧ e.origin = .localAdd then { e with ownBlock := true } else e })
    ∧ ((∀ e ∈ h.entries, e.number ≠ n) →
    (h.entries.length < 2048 → (h.localAdd n mark).localOrder = h.localOrder ++ [n]
      ∧ (∀ e, e ∈ (h.localAdd n mark).entries ↔ e = { number := n, origin := .localAdd, ownBlock := mark } ∨ e ∈ h.entries))
    ∧ (2048 ≤ h.entries.length →
      (∀ m ∈ h.localOrder, ∀ e ∈ h.entries, e.number = m → e.ownBlock = true) → h.localAdd n mark = h)
    ∧ (2048 ≤ h.entries.length → ∀ before v after, h.localOrder = before ++ v :: after → h.localOrder.Nodup →
      (∃ e ∈ h.entries, e.number = v ∧ e.ownBlock = false) →
      (∀ m ∈ before, ∀ e ∈ h.entries, e.number = m → e.ownBlock = true) →
      (h.localAdd n mark).localOrder = before ++ after ++ [n]
        ∧ (∀ e, e ∈ (h.localAdd n mark).entries
            ↔ e = { number := n, origin := .localAdd, ownBlock := mark } ∨ (e ∈ h.entries ∧ e.number ≠ v)))) := by
  refine ⟨Hotlist.localAdd_of_listed mark, fun hn => ⟨fun hroom => ?room, fun hfull hall => ?stays, fun hfull before v after horder
    hnodup hv hbefore => ?displaces⟩⟩
  case room =>
    rw [Hotlist.localAdd_of_room mark hn hroom]
    exact ⟨rfl, fun e => mem_insertHot _ _ _⟩
  case stays =>
    rw [Hotlist.localAdd_of_full mark hn hfull, Hotlist.victim_of_none hall]
  case displaces =>
    rw [Hotlist.localAdd_of_full mark hn hfull, Hotlist.victim_of_first horder hv hbefore]
    refine ⟨?_, fun e => (mem_insertHot _ _ _).trans (or_congr_right ?_)⟩
    · change h.localOrder.filter (fun m => decide (m ≠ v)) ++ [n] = _
      rw [horder, filter_ne_middle (horder ▸ hnodup)]
    · simp only [Hotlist.remove, List.mem_filter, decide_eq_true_iff]

theorem alertArrivalsAddAndNote : Claims.AlertArrivalsAddAndNote := by
  refine ⟨fun s p o hop n k block hp hplace ho hhop => ⟨fun hmark => ?_, fun hmark => ?_⟩, localAddFollowsTheList⟩
  · rw [exec_alert_of_taken n k hp hplace ho hhop hmark, if_pos rfl, State.noteHolders_eq]
    rfl
  · rw [exec_alert_of_taken n k hp hplace ho hhop hmark, if_neg Bool.false_ne_true, State.noteHolders_eq]
    rfl

/-- Settles O39, by the message and the hold at its card's entry. -/
theorem ringArrivalsActOnTheTables : Obligations.RingArrivalsActOnTheTables :=
  ⟨holdArrivalsActOnTheEntry, releaseArrivalsClearAndRecord, alertArrivalsAddAndNote⟩

end Sys2Proof.Machine
end

section
/-! SUPPORT. Settles O21: SET AISLE, and the tear entries that a shortened window expires (R19, R55, R140, R156, R205). -/

namespace Sys2Proof.Machine

-- One declaration at a time: each waiting elaboration thread counts against the memory limit of the one text.
set_option Elab.async false

/-! ### Tear entries that expire together (R55, R205) -/

/-- The TEAR UNRESOLVED draft of an entry. -/
def unresolvedDraft (stamp : Stamp) (e : TearEntry) : Draft :=
  (.tear .unresolved, stamp, e.face, { RecordFields.blank with number := some e.number, reference := e.reference })

/-- The tear table without the entries of a list. -/
def tearsWithout (l : List TearEntry) (gone : List TearEntry) : List TearEntry :=
  l.filter fun x => gone.all fun e => decide (x.number ≠ e.number)

theorem removeTear_tearsWithout (l : List TearEntry) (e : TearEntry) (gone : List TearEntry) :
    tearsWithout (removeTear l e.number) gone = tearsWithout l (e :: gone) := by
  rw [tearsWithout, removeTear, List.filter_filter]
  simp only [tearsWithout, List.all_cons, Bool.and_comm]

theorem State.foldl_expireTear_eq (l : List TearEntry) (s : State) : l.foldl (fun t e => t.expireTear e) s = { s with
    tears := tearsWithout s.tears l
    journal :=
      { records := s.journal.records ++ recordsFrom s.journal.next (l.map (unresolvedDraft s.stamp))
        next := Claims.nextAfter l.length s.journal.next }
    service := { s.service with flags := { s.service.flags with
      tear := s.service.flags.tear || !l.isEmpty
      journal := s.service.flags.journal || (List.range l.length).any fun i => [256, 192, 128, 64].contains (s.freeSlots - i) } } } := by
  induction l generalizing s with
  | nil => simp [tearsWithout, recordsFrom, Claims.nextAfter]
  | cons e l ih =>
    have hone : s.expireTear e = { s with
        tears := removeTear s.tears e.number
        journal := s.journal.with (.tear .unresolved) s.stamp e.face
          { RecordFields.blank with number := some e.number, reference := e.reference }
        service := { s.service with flags := { s.service.flags.afterRecord s.freeSlots with tear := true } } } := by
      rw [State.expireTear, State.resolveTear_eq]
      rfl
    have hfree : (s.expireTear e).freeSlots = s.freeSlots - 1 := State.freeSlots_of_journal (by rw [hone])
    have hstamp : (s.expireTear e).stamp = s.stamp := by
      rw [hone]
      rfl
    have hjournal : (s.service.flags.journal || (List.range (l.length + 1)).any fun i => [256, 192, 128, 64].contains (s.freeSlots - i))
        = (s.service.flags.journal || [256, 192, 128, 64].contains s.freeSlots
          || (List.range l.length).any fun i => [256, 192, 128, 64].contains (s.freeSlots - 1 - i)) :=
      congrArg FlagSet.journal (s.service.flags.afterRecords_succ l.length s.freeSlots)
    rw [List.foldl_cons, ih, hfree, hstamp, hone, removeTear_tearsWithout]
    simp only [List.map_cons, recordsFrom_cons, List.length_cons, Claims.nextAfter_succ, List.isEmpty_cons, Bool.not_false, Bool.or_true,
      Bool.true_or, Journal.with, List.append_assoc, List.singleton_append, FlagSet.afterRecord, hjournal]
    rfl

theorem recordsFrom_drafts (q : Word) (l : List Draft) :
    (recordsFrom q l).map (fun r => (r.kind, r.stamp, r.face, r.fields)) = l := by
  refine List.ext_getElem (by simp [recordsFrom]) fun i _ _ => ?_
  simp [recordsFrom, Draft.record]

/-- In a table of different numbers the entries that go are those whose window has passed. -/
theorem tearsWithout_of_filter {l gone : List TearEntry} {p : TearEntry → Bool} (hnodup : (l.map (·.number)).Nodup)
    (hgone : gone.Perm (l.filter p)) : tearsWithout l gone = l.filter fun e => !p e := by
  refine List.filter_congr fun x hx => ?_
  rw [Bool.eq_iff_iff, List.all_eq_true]
  simp only [decide_eq_true_iff, Bool.not_eq_true', hgone.mem_iff, List.mem_filter]
  refine ⟨fun h => Bool.eq_false_iff.mpr fun hp => h x ⟨hx, hp⟩ rfl, fun h e he heq => ?_⟩
  obtain rfl := List.inj_on_of_nodup_map hnodup hx he.1 heq
  exact Bool.false_ne_true (h.symm.trans he.2)

theorem State.expireTears_of_none {s : State} (h : s.tears.filter s.windowPassed = []) : s.expireTears = s := by
  unfold State.expireTears
  rw [h]
  rfl

/-- The entries that go do so with one record each, in a free order. -/
theorem State.expireTears_of_some {s : State} (hnodup : (s.tears.map (·.number)).Nodup) (h : s.tears.filter s.windowPassed ≠ []) :
    ∃ (records : List Record) (n : Nat), s.expireTears = { s with
        tears := s.tears.filter fun e => !s.windowPassed e
        journal := { records := s.journal.records ++ records
                     next := Claims.nextAfter (s.tears.filter s.windowPassed).length s.journal.next }
        service := { s.service with flags := { s.service.flags with
          tear := true
          journal := s.service.flags.journal || (List.range (s.tears.filter s.windowPassed).length).any fun i =>
            [256, 192, 128, 64].contains (s.freeSlots - i) } }
        freeCount := n }
      ∧ (records.map fun r => (r.kind, r.stamp, r.face, r.fields)).Perm ((s.tears.filter s.windowPassed).map (unresolvedDraft s.stamp))
      ∧ records.map (·.sequence)
        = (List.range (s.tears.filter s.windowPassed).length).map fun i => Claims.nextAfter i s.journal.next := by
  have hperm := freelyOrdered_perm s.freeCount (s.tears.filter s.windowPassed)
  refine ⟨recordsFrom s.journal.next ((freelyOrdered s.freeCount (s.tears.filter s.windowPassed)).map (unresolvedDraft s.stamp)),
    s.freeCount + (freelyOrdered s.freeCount (s.tears.filter s.windowPassed)).length, ?_, ?_, ?_⟩
  · have hsome : (freelyOrdered s.freeCount (s.tears.filter s.windowPassed)).isEmpty = false := by
      rw [hperm.isEmpty_eq]
      exact List.isEmpty_eq_false_iff.mpr h
    have htears := tearsWithout_of_filter hnodup hperm
    unfold State.expireTears
    rw [State.foldl_expireTear_eq, hsome, hperm.length_eq]
    simp only [State.drew, htears, Bool.not_false, Bool.or_true]
    rfl
  · rw [recordsFrom_drafts]
    exact hperm.map _
  · rw [recordsFrom_sequences, List.length_map, hperm.length_eq]

/-! ### The body of SET AISLE (R205) -/

theorem eq_zero_or_one {b : Byte} (h : b.toNat ≤ 1) : b = 0 ∨ b = 1 := by
  rcases Nat.le_one_iff_eq_zero_or_eq_one.mp h with h | h
  · exact .inl (BitVec.eq_of_toNat_eq h)
  · exact .inr (BitVec.eq_of_toNat_eq h)

/-- The polarity that a byte of 0 or 1 gives. -/
def polarityOf (b : Byte) : Polarity := if b = 0 then .blockedHigh else .blockedLow

theorem decodeIn_polarityList {b : Byte} (h : b.toNat ≤ 1) : decodeIn polarityList b = some (polarityOf b) := by
  rcases eq_zero_or_one h with rfl | rfl <;> rfl

theorem codeIn_polarityOf {b : Byte} (h : b.toNat ≤ 1) : codeIn polarityList (polarityOf b) = b := by
  rcases eq_zero_or_one h with rfl | rfl <;> rfl

/-- Every value of a SET AISLE body lies in its range, or is a code. -/
def AisleInRange (body : List Byte) : Prop :=
  (halfAt body 0).toNat ≤ 1023 ∧ (byteAt body 2).toNat ≤ 63 ∧ (byteAt body 3).toNat ≤ 2 ∧ ∀ i < 4, (byteAt body (4 + i)).toNat ≤ 1

/-- The values of an accepted body. -/
def aisleRequest (body : List Byte) (mode : AisleMode) : AisleRequest :=
  { station := halfAt body 0, gate := byteAt body 2, mode := mode
    polarity := { beam1 := polarityOf (byteAt body 4), beam2 := polarityOf (byteAt body 5)
                  beam3 := polarityOf (byteAt body 6), beam4 := polarityOf (byteAt body 7) }
    grantLifetime := max 3 (min 30 (byteAt body 8).toNat), tearWindow := max 10 (min 600 (halfAt body 9).toNat)
    ringTimeout := max 20 (min 500 (halfAt body 11).toNat), sightingLifetime := max 1 (min 7 (byteAt body 13).toNat) }

theorem readAisle_of_inRange {body : List Byte} {mode : AisleMode} (h : AisleInRange body)
    (hmode : decodeIn aisleModeList (byteAt body 3) = some mode) : readAisle body = some (aisleRequest body mode) := by
  obtain ⟨hstation, hgate, -, hpolarity⟩ := h
  have h4 := decodeIn_polarityList (hpolarity 0 (by decide))
  have h5 := decodeIn_polarityList (hpolarity 1 (by decide))
  have h6 := decodeIn_polarityList (hpolarity 2 (by decide))
  have h7 := decodeIn_polarityList (hpolarity 3 (by decide))
  simp only [readAisle, hmode, h4, h5, h6, h7]
  exact if_pos ⟨hstation, hgate⟩

theorem toNat_lt_of_decodeIn {α : Type} {l : List α} {b : Byte} {x : α} (h : decodeIn l b = some x) : b.toNat < l.length :=
  (List.getElem?_eq_some_iff.mp h).1

theorem readAisle_of_not_inRange {body : List Byte} (h : ¬ AisleInRange body) : readAisle body = none := by
  unfold readAisle
  split
  · rename_i mode p1 p2 p3 p4 hmode h4 h5 h6 h7
    refine if_neg fun hplace => h ⟨hplace.1, hplace.2, Nat.le_of_lt_succ (toNat_lt_of_decodeIn hmode), fun i hi => ?_⟩
    have hone : i = 0 ∨ i = 1 ∨ i = 2 ∨ i = 3 := by omega
    rcases hone with rfl | rfl | rfl | rfl
    exacts [Nat.le_of_lt_succ (toNat_lt_of_decodeIn h4), Nat.le_of_lt_succ (toNat_lt_of_decodeIn h5),
      Nat.le_of_lt_succ (toNat_lt_of_decodeIn h6), Nat.le_of_lt_succ (toNat_lt_of_decodeIn h7)]
  · rfl

/-! ### What SET AISLE stores -/

/-- A part with the values of a SET AISLE stored, its tear entries as they were. -/
def State.storeAisle (s : State) (r : AisleRequest) : State := { s with
  aisle := s.aisle.accept r s.now
  check := { s.check with challenge := r.station.zeroExtend 32 * 64 + r.gate.zeroExtend 32 }
  setup :=
    { place := some { station := r.station, gate := r.gate }, grantLifetime := r.grantLifetime
      tearWindow := r.tearWindow, ringTimeout := r.ringTimeout, sightingLifetime := r.sightingLifetime } }

theorem BeamInput.setPolarity_polarity (b : BeamInput) (p : Polarity) (now : Word) : (b.setPolarity p now).polarity = p := by
  unfold BeamInput.setPolarity
  split
  · rename_i h
    exact h.symm
  · rfl

theorem BeamInput.setPolarity_eq (b : BeamInput) (p : Polarity) (now : Word) : b.setPolarity p now =
    if p = b.polarity then b
    else { b with
      polarity := p
      pendingSince := if (if p = .blockedHigh then b.high else !b.high) = b.blocked then none else some (b.pendingSince.getD now) } := by
  unfold BeamInput.setPolarity
  cases p <;> rfl

theorem challenge_seed (station : Half) (gate : Byte) :
    station.zeroExtend 32 * 64 + gate.zeroExtend 32 = BitVec.ofNat 32 (station.toNat * 64 + gate.toNat) := by
  refine BitVec.eq_of_toNat_eq ?_
  have hs := station.isLt
  have hg := gate.isLt
  have h64 : (64 : Word).toNat = 64 := rfl
  simp only [BitVec.toNat_add, BitVec.toNat_mul, BitVec.truncate_eq_setWidth, BitVec.toNat_setWidth, BitVec.toNat_ofNat, h64]
  omega

theorem codeIn_polarityList (p : Polarity) : codeIn polarityList p = if p = .blockedHigh then 0 else 1 := by
  cases p <;> rfl

theorem State.aisleFields_eq (s : State) : s.aisleFields =
    (match s.setup.place with
        | some p => halfBytes p.station ++ [p.gate]
        | none => [0, 0, 0])
      ++ [codeIn aisleModeList s.aisle.mode, codeIn polarityList s.aisle.beams.beam1.polarity,
          codeIn polarityList s.aisle.beams.beam2.polarity, codeIn polarityList s.aisle.beams.beam3.polarity,
          codeIn polarityList s.aisle.beams.beam4.polarity, BitVec.ofNat 8 s.setup.grantLifetime]
      ++ natHalf s.setup.tearWindow ++ natHalf s.setup.ringTimeout ++ natHalf s.setup.sightingLifetime := by
  unfold State.aisleFields State.station State.gate
  cases s.setup.place <;> rfl

theorem State.storeAisle_fields {s : State} {body : List Byte} {mode : AisleMode} (h : AisleInRange body)
    (hmode : decodeIn aisleModeList (byteAt body 3) = some mode) : (s.storeAisle (aisleRequest body mode)).aisleFields =
      halfBytes (halfAt body 0) ++ [byteAt body 2, byteAt body 3, byteAt body 4, byteAt body 5, byteAt body 6,
          byteAt body 7, BitVec.ofNat 8 (aisleRequest body mode).grantLifetime]
        ++ natHalf (aisleRequest body mode).tearWindow ++ natHalf (aisleRequest body mode).ringTimeout
        ++ natHalf (aisleRequest body mode).sightingLifetime := by
  obtain ⟨-, -, -, hpolarity⟩ := h
  have h4 := codeIn_polarityOf (hpolarity 0 (by decide))
  have h5 := codeIn_polarityOf (hpolarity 1 (by decide))
  have h6 := codeIn_polarityOf (hpolarity 2 (by decide))
  have h7 := codeIn_polarityOf (hpolarity 3 (by decide))
  have h3 : codeIn aisleModeList mode = byteAt body 3 := codeIn_of_decodeIn (by decide) hmode
  rw [State.aisleFields_eq]
  simp only [State.storeAisle, Aisle.accept, BeamInput.setPolarity_polarity, aisleRequest, h3, h4, h5, h6, h7]
  simp only [List.append_assoc, List.cons_append, List.nil_append]

theorem exec_setAisle_of_none {s : State} {body : List Byte} (hs : s.listening) (hlen : body.length = 14) (h : readAisle body = none) :
    exec (.setAisle body) s = .next (s.replying 0x03 .outOfRange s.aisleFields) :=
  whenRunning_request_of_listening hs hlen (by simp only [h]; rfl)

theorem exec_setAisle_of_refused {s : State} {body : List Byte} {r : AisleRequest} (hs : s.listening) (hlen : body.length = 14)
    (h : readAisle body = some r) (hno : r.mode ≠ s.aisle.mode ∧ ¬ (s.aisle.queues.entry = [] ∧ s.aisle.queues.exit = [])) :
    exec (.setAisle body) s = .next (s.replying 0x03 .wrongState s.aisleFields) :=
  whenRunning_request_of_listening hs hlen (by simp only [h]; exact if_pos hno)

theorem exec_setAisle_of_accepted {s t : State} {body : List Byte} {r : AisleRequest} (hs : s.listening) (hlen : body.length = 14)
    (h : readAisle body = some r) (hyes : ¬ (r.mode ≠ s.aisle.mode ∧ ¬ (s.aisle.queues.entry = [] ∧ s.aisle.queues.exit = [])))
    (ht : (s.storeAisle r).hunting.expireTears = t.hunting) :
    exec (.setAisle body) s = .next (t.replying 0x03 .done t.aisleFields) := by
  refine whenRunning_request_of_listening hs hlen ?_
  simp only [h]
  refine (if_neg hyes).trans ?_
  have haccept : s.hunting.acceptAisle r = t.hunting := ht
  rw [haccept]
  rfl

/-- Settles O21: the body's ranges and the queues decide, and what is stored may expire tear entries. -/
theorem setAisleStoresEverythingTogether : Obligations.SetAisleStoresEverythingTogether := by
  unfold Obligations.SetAisleStoresEverythingTogether
  intro s body hs hlen inRange polarity setup occupied reads polarityCode stands
  have hstands : s.aisleFields = stands := by
    rw [State.aisleFields_eq]
    simp only [codeIn_polarityList]
    rfl
  have hoccupied : ¬ (s.aisle.queues.entry = [] ∧ s.aisle.queues.exit = []) ↔ occupied := not_and_or
  refine ⟨fun hno => ?range, fun mode hin hmode hne hocc => ?refused, fun mode hin hmode hok => ?accepted⟩
  case range => rw [exec_setAisle_of_none hs hlen (readAisle_of_not_inRange hno), hstands]
  case refused =>
    rw [exec_setAisle_of_refused hs hlen (readAisle_of_inRange hin hmode) ⟨hne, hoccupied.mpr hocc⟩, hstands]
  case accepted =>
    intro stored takes past gone
    have hyes : ¬ (mode ≠ s.aisle.mode ∧ ¬ (s.aisle.queues.entry = [] ∧ s.aisle.queues.exit = [])) := fun hno =>
      hok.elim (fun heq => hno.1 heq) (fun hfree => hfree (hoccupied.mp hno.2))
    have hstored : s.storeAisle (aisleRequest body mode) = stored := by
      unfold State.storeAisle Aisle.accept
      simp only [BeamInput.setPolarity_eq, challenge_seed]
      cases mode <;> rfl
    have hpast : (s.storeAisle (aisleRequest body mode)).hunting.windowPassed = past := by
      funext e
      simp only [State.windowPassed, past]
      cases e.state <;> rfl
    have hfields := State.storeAisle_fields (s := s) hin hmode
    have htakes {t : State} (ht : (s.storeAisle (aisleRequest body mode)).hunting.expireTears = t.hunting)
        (hf : t.aisleFields = (s.storeAisle (aisleRequest body mode)).aisleFields) : takes t := by
      have hexec := exec_setAisle_of_accepted hs hlen (readAisle_of_inRange hin hmode) hyes ht
      rw [hf, hfields] at hexec
      exact hexec
    refine ⟨fun hnone => ?_, fun hnodup hsome => ?_⟩
    · rw [← hstored]
      refine htakes (State.expireTears_of_none ?_) rfl
      rw [hpast]
      exact hnone
    · obtain ⟨records, n, hexpired, hperm, hsequences⟩ := State.expireTears_of_some
        (s := (s.storeAisle (aisleRequest body mode)).hunting) hnodup (by rw [hpast]; exact hsome)
      rw [hpast] at hexpired hperm hsequences
      refine ⟨records, n, ?_, hperm, hsequences⟩
      rw [← hstored]
      exact htakes (by rw [hexpired]; rfl) rfl

end Sys2Proof.Machine
end

section
/-! SUPPORT. What is staged: no command but those that reach the STAGE point opens an exchange of STAGE, and the STAGE point opens it in
IN_SERVICE with the image that its context holds. -/

namespace Sys2Proof.Machine

-- One declaration at a time: each waiting elaboration thread counts against the memory limit of the one text.
set_option Elab.async false

/-! ### The open exchange of STAGE -/

/-- What the open exchange of a face stages, if it is one of STAGE. -/
def CardCommand.staged : CardCommand → Option (List Byte × Half)
  | .stage image n => some (image, n)
  | _ => none

def FaceUnit.staged (u : FaceUnit) : Option (List Byte × Half) := u.exchange.bind fun e => e.command.staged

theorem FaceUnit.staged_of_stage {u : FaceUnit} {e : Exchange} {image : List Byte} {n : Half} (he : u.exchange = some e)
    (hc : e.command = .stage image n) : u.staged = some (image, n) := by
  simp [FaceUnit.staged, he, hc, CardCommand.staged]

theorem FaceUnit.stage_of_staged {u : FaceUnit} {image : List Byte} {n : Half} (h : u.staged = some (image, n)) :
    ∃ e, u.exchange = some e ∧ e.command = .stage image n := by
  obtain ⟨e, he, hc⟩ := Option.bind_eq_some_iff.mp h
  refine ⟨e, he, ?_⟩
  cases hcmd : e.command <;> rw [hcmd] at hc <;> cases hc
  rfl

theorem FaceUnit.staged_of_exchange {u v : FaceUnit} (h : u.exchange = v.exchange) : u.staged = v.staged := by
  rw [FaceUnit.staged, FaceUnit.staged, h]

theorem FaceUnit.staged_of_none {u : FaceUnit} (h : u.exchange = none) : u.staged = none := by
  rw [FaceUnit.staged, h]
  rfl

/-- No face has an exchange of STAGE open that it did not have before. -/
def OpensNone (s t : State) : Prop := ∀ f, (t.face f).staged = none ∨ (t.face f).staged = (s.face f).staged

theorem OpensNone.refl (s : State) : OpensNone s s := fun _ => .inr rfl

theorem OpensNone.trans {s t u : State} (h : OpensNone s t) (g : OpensNone t u) : OpensNone s u := fun f => by
  rcases g f with hn | hn
  · exact .inl hn
  · rw [hn]
    exact h f

theorem OpensNone.of_faces {s t : State} (h : t.faces = s.faces := by simp) : OpensNone s t := fun f =>
  .inr (by rw [State.face, h]; rfl)

theorem Even.opensNone {s t : State} (h : Even s t) : OpensNone s t := OpensNone.of_faces h.faces

theorem State.setFace_opensNone (s : State) (f : Face) {u : FaceUnit} (h : u.staged = none ∨ u.staged = (s.face f).staged) :
    OpensNone s (s.setFace f u) := fun g => by
  rcases Face.eq_or_other f g with rfl | rfl
  · rw [State.setFace_face]
    exact h
  · exact .inr (by rw [State.setFace_face_other])

/-- A face set with the exchange that it has, or with none. -/
theorem State.setFace_opensNone_of_same (s : State) (f : Face) {u : FaceUnit} (h : u.exchange = (s.face f).exchange := by rfl) :
    OpensNone s (s.setFace f u) := s.setFace_opensNone f (.inr (FaceUnit.staged_of_exchange h))

theorem State.setFace_opensNone_of_none (s : State) (f : Face) {u : FaceUnit} (h : u.exchange = none := by rfl) :
    OpensNone s (s.setFace f u) := s.setFace_opensNone f (.inl (FaceUnit.staged_of_none h))

theorem State.raise_opensNone (s : State) (g : Flag) : OpensNone s (s.raise g) := OpensNone.of_faces

theorem State.setService_opensNone (s : State) (v : Service) : OpensNone s (s.setService v) := OpensNone.of_faces

theorem State.setAisle_opensNone (s : State) (a : Aisle) : OpensNone s (s.setAisle a) := OpensNone.of_faces

theorem State.askTone_opensNone (s : State) (f : Face) (x : ShortTone) : OpensNone s (s.askTone f x) := OpensNone.of_faces

theorem State.ask_opensNone (s : State) (f : Face) {c : CardCommand} (h : c.staged = none) : OpensNone s (s.ask f c) :=
  s.setFace_opensNone f (.inl h)

theorem State.closeExchange_opensNone (s : State) (f : Face) : OpensNone s (s.closeExchange f) := s.setFace_opensNone_of_none f

theorem State.responded_opensNone (s : State) (f : Face) : OpensNone s (s.responded f) := by
  unfold State.responded
  split
  · exact OpensNone.refl s
  · exact s.setFace_opensNone_of_same f

/-! ### Ways a tap ends -/

theorem State.cardRemoved_opensNone (s : State) (f : Face) : OpensNone s (s.cardRemoved f) := OpensNone.of_faces

theorem State.leaveServing_opensNone (s : State) (f : Face) : OpensNone s (s.leaveServing f) := by
  unfold State.leaveServing
  dsimp only
  split
  · split
    · exact (s.setFace_opensNone_of_none f).trans (State.cardRemoved_opensNone _ f)
    · split
      · exact s.setFace_opensNone_of_none f
      · exact s.setFace_opensNone_of_none f
  · exact s.closeExchange_opensNone f

theorem State.conclude_opensNone (s : State) (f : Face) (st : CtxState) (i : Indication) (tone : Option ShortTone) :
    OpensNone s (s.conclude f st i tone) := by
  refine OpensNone.trans (OpensNone.of_faces ?_) (State.leaveServing_opensNone _ f)
  cases tone <;> simp

theorem State.endRefused_opensNone (s : State) (f : Face) (r : Reason) : OpensNone s (s.endRefused f r) :=
  OpensNone.trans OpensNone.of_faces (State.conclude_opensNone _ f _ _ _)

theorem State.endAbandoned_opensNone (s : State) (f : Face) : OpensNone s (s.endAbandoned f) :=
  OpensNone.trans OpensNone.of_faces (State.conclude_opensNone _ f _ _ _)

theorem State.endFailed_opensNone (s : State) (f : Face) (r : Reason) : OpensNone s (s.endFailed f r) := s.endRefused_opensNone f _

theorem State.endLost_opensNone (s : State) (f : Face) : OpensNone s (s.endLost f) := by
  unfold State.endLost
  split
  · exact s.endRefused_opensNone f _
  · exact s.endAbandoned_opensNone f

theorem State.tornWrite_opensNone (s : State) (f : Face) : OpensNone s (s.tornWrite f) := by
  unfold State.tornWrite
  dsimp only
  refine OpensNone.trans (OpensNone.of_faces ?_) (State.conclude_opensNone _ f _ _ _)
  split <;> simp

theorem State.confirmFare_opensNone (s : State) (f : Face) (img : CardImage) : OpensNone s (s.confirmFare f img) :=
  OpensNone.trans OpensNone.of_faces (State.conclude_opensNone _ f _ _ _)

theorem State.confirmBlock_opensNone (s : State) (f : Face) (img : CardImage) : OpensNone s (s.confirmBlock f img) :=
  OpensNone.trans OpensNone.of_faces (State.conclude_opensNone _ f _ _ _)

theorem State.confirmWrite_opensNone (s : State) (f : Face) : OpensNone s (s.confirmWrite f) := by
  unfold State.confirmWrite
  split
  · split
    · exact s.confirmBlock_opensNone f _
    · exact s.confirmFare_opensNone f _
  · exact OpensNone.refl s

theorem State.notWritten_opensNone (s : State) (f : Face) : OpensNone s (s.notWritten f) :=
  OpensNone.trans OpensNone.of_faces (State.endFailed_opensNone _ f _)

theorem State.confirmRead_opensNone (s : State) (f : Face) (bytes : List Byte) : OpensNone s (s.confirmRead f bytes) := by
  unfold State.confirmRead
  dsimp only
  split
  · exact s.confirmWrite_opensNone f
  · split
    · exact s.notWritten_opensNone f
    · exact s.tornWrite_opensNone f

theorem State.cardLost_opensNone (s : State) (f : Face) : OpensNone s (s.cardLost f) := by
  unfold State.cardLost
  split
  · exact s.conclude_opensNone f _ _ _
  · exact s.endLost_opensNone f
  · exact s.endLost_opensNone f
  · exact s.endFailed_opensNone f _
  · exact s.tornWrite_opensNone f
  · exact s.closeExchange_opensNone f

/-! ### The name answer, the read and the commit -/

theorem State.startReading_opensNone (s : State) (f : Face) : OpensNone s (s.startReading f) :=
  OpensNone.trans OpensNone.of_faces (State.ask_opensNone _ f rfl)

theorem State.nameChecks_opensNone (s : State) (f : Face) (a : NameAnswer) : OpensNone s (s.nameChecks f a) := by
  unfold State.nameChecks
  split
  · exact s.endRefused_opensNone f _
  · split
    · exact s.endRefused_opensNone f _
    · exact s.endRefused_opensNone f _
    · rename_i slot _ _ _
      have hevidence := (State.nameEvidence_even (s.setContext f { s.context f with key := some slot.key }) f a.status).faces
      have hfaces (t : State) (ht : t.faces = (s.setContext f { s.context f with key := some slot.key }).faces) : OpensNone s t :=
        OpensNone.of_faces (ht.trans rfl)
      split
      · rename_i t heq
        rw [heq] at hevidence
        exact (hfaces t hevidence).trans (t.endRefused_opensNone f _)
      · rename_i t _ heq
        rw [heq] at hevidence
        exact (hfaces t hevidence).trans (t.startReading_opensNone f)

theorem State.admitCard_opensNone (s : State) (f : Face) (a : NameAnswer) : OpensNone s (s.admitCard f a) := by
  unfold State.admitCard
  dsimp only
  split
  · exact OpensNone.trans OpensNone.of_faces (State.endRefused_opensNone _ f _)
  · exact OpensNone.trans OpensNone.of_faces (State.nameChecks_opensNone _ f a)

theorem State.resolveAtRead_opensNone (s : State) (f : Face) (bytes : List Byte) : OpensNone s (s.resolveAtRead f bytes).2 := by
  unfold State.resolveAtRead
  dsimp only
  split
  · exact OpensNone.refl s
  · split
    · exact OpensNone.refl s
    · split
      · exact OpensNone.of_faces
      · split
        · split
          · exact OpensNone.trans OpensNone.of_faces (State.conclude_opensNone _ f _ _ _)
          · exact OpensNone.of_faces
        · exact OpensNone.of_faces

theorem State.startProving_opensNone (s : State) (f : Face) : OpensNone s (s.startProving f) :=
  OpensNone.trans OpensNone.of_faces (State.ask_opensNone _ f rfl)

theorem State.readImage_opensNone (s : State) (f : Face) (bytes : List Byte) : OpensNone s (s.readImage f bytes) := by
  have hresolved := s.resolveAtRead_opensNone f bytes
  unfold State.readImage
  split
  · rename_i t heq
    rwa [heq] at hresolved
  · rename_i t heq
    rw [heq] at hresolved
    refine hresolved.trans ?_
    split
    · exact OpensNone.refl t
    · split
      · exact t.endFailed_opensNone f _
      · exact OpensNone.trans OpensNone.of_faces (State.startProving_opensNone _ f)

theorem State.makePending_faces {s t : State} {f : Face} (h : s.makePending f = some t) : t.faces = s.faces := by
  unfold State.makePending at h
  dsimp only at h
  split at h
  · split at h
    · cases h
    · cases h
      simp
  · cases h
    simp

theorem State.commit_opensNone (s : State) (f : Face) : OpensNone s (s.commit f) := by
  unfold State.commit
  split
  · rename_i t ht
    exact (OpensNone.of_faces (State.makePending_faces ht)).trans
      (OpensNone.trans OpensNone.of_faces (State.ask_opensNone _ f rfl))
  · dsimp only
    split
    · exact s.endRefused_opensNone f _
    · exact OpensNone.trans OpensNone.of_faces (State.endRefused_opensNone _ f _)

theorem State.readyToCommit_opensNone (s : State) (f : Face) : OpensNone s (s.readyToCommit f) := by
  unfold State.readyToCommit
  dsimp only
  split
  · split
    · exact OpensNone.trans OpensNone.of_faces (State.commit_opensNone _ f)
    · exact OpensNone.trans OpensNone.of_faces (State.endRefused_opensNone _ f _)
  · exact s.commit_opensNone f

/-! ### Field requests, faults and changes of service state -/

theorem State.fieldOnRequest_opensNone (s : State) (f : Face) (r : Bool) : OpensNone s (s.fieldOnRequest f r) := by
  unfold State.fieldOnRequest
  dsimp only
  split
  · exact s.setFace_opensNone_of_none f
  · split
    · exact s.setFace_opensNone_of_none f
    · exact OpensNone.refl s
  · exact s.setFace_opensNone_of_same f
  all_goals exact OpensNone.refl s

theorem State.fieldOffRequest_opensNone (s : State) (f : Face) : OpensNone s (s.fieldOffRequest f) := by
  unfold State.fieldOffRequest
  dsimp only
  split
  · exact s.setFace_opensNone_of_none f
  · exact s.setFace_opensNone_of_none f
  · exact (s.setFace_opensNone_of_none f).trans (State.cardRemoved_opensNone _ f)
  · exact s.setFace_opensNone_of_same f
  all_goals exact OpensNone.refl s

theorem State.fieldRequests_opensNone (s : State) (old new : ServiceState) : OpensNone s (s.fieldRequests old new) := by
  unfold State.fieldRequests
  split
  · exact OpensNone.refl s
  · split
    · exact (s.fieldOnRequest_opensNone _ _).trans (State.fieldOnRequest_opensNone _ _ _)
    · exact (s.fieldOffRequest_opensNone _).trans (State.fieldOffRequest_opensNone _ _)

theorem State.abortContext_opensNone (s : State) (f : Face) (r : Reason) : OpensNone s (s.abortContext f r) := by
  unfold State.abortContext
  split
  iterate 3 exact OpensNone.refl s
  · exact s.conclude_opensNone f _ _ _
  iterate 6 exact s.endRefused_opensNone f r
  iterate 2 exact OpensNone.of_faces

theorem State.handToContexts_opensNone (s : State) (new : ServiceState) : OpensNone s (s.handToContexts new) := by
  have aborted (r : Reason) : OpensNone s (s.abortContexts r) :=
    (s.abortContext_opensNone .street r).trans (State.abortContext_opensNone _ .paid r)
  cases new with
  | emergency => exact aborted _
  | lockdown => exact aborted _
  | _ => exact OpensNone.refl s

theorem State.enterPlain_opensNone (s : State) (new : ServiceState) : OpensNone s (s.enterPlain new) :=
  OpensNone.trans OpensNone.of_faces (State.fieldRequests_opensNone _ _ _)

theorem State.enterFree_opensNone (s : State) (new : ServiceState) : OpensNone s (s.enterFree new) := by
  have hbefore : OpensNone s ((s.setServiceState new).cancelGrants.drew 1) := OpensNone.of_faces (by simp [State.setServiceState])
  unfold State.enterFree
  dsimp only
  have driven (u : State) : OpensNone u (u.checkLock.setAisle u.checkLock.aisle.setFree) := OpensNone.of_faces
  refine OpensNone.trans ?_ (driven _)
  split
  · exact hbefore.trans ((State.handToContexts_opensNone _ _).trans (State.fieldRequests_opensNone _ _ _))
  · exact hbefore.trans ((State.fieldRequests_opensNone _ _ _).trans (State.handToContexts_opensNone _ _))

theorem State.lockDown_opensNone (s : State) (r : FaultRecord) : OpensNone s (s.lockDown r) :=
  OpensNone.trans (t := (s.setService { s.service with lockdownCause := some r }).enterFree .lockdown)
    (OpensNone.trans (OpensNone.of_faces rfl) (State.enterFree_opensNone _ _)) (OpensNone.of_faces (by simp [State.lockDown]))

theorem State.raiseFault_opensNone (s : State) (k : FaultKind) : OpensNone s (s.raiseFault k) := by
  unfold State.raiseFault
  dsimp only
  split
  · exact OpensNone.of_faces (by split <;> simp [State.fillFaultSlot])
  iterate 3
    split
    · exact s.lockDown_opensNone _
    · exact OpensNone.of_faces (by simp [State.fillFaultSlot])
  · exact OpensNone.of_faces

theorem State.readerFault_opensNone (s : State) (f : Face) : OpensNone s (s.readerFault f) :=
  (s.setFace_opensNone_of_none f).trans ((State.raiseFault_opensNone _ _).trans (State.cardRemoved_opensNone _ f))

theorem State.pollUnanswered_opensNone (s : State) (f : Face) (p : Poll) : OpensNone s (s.pollUnanswered f p) := by
  unfold State.pollUnanswered
  dsimp only
  generalize (if p.responded = true then (s.face f).missCount else (s.face f).missCount + 1) = misses
  split
  · refine OpensNone.trans (s.setFace_opensNone_of_same f ?_) (State.readerFault_opensNone _ f)
    rfl
  · split
    · split
      · refine OpensNone.trans (s.setFace_opensNone_of_same f ?_) (State.cardRemoved_opensNone _ f)
        rfl
      · exact s.setFace_opensNone_of_same f
    · exact s.setFace_opensNone_of_same f

theorem State.pollAnswered_opensNone (s : State) (f : Face) : OpensNone s (s.pollAnswered f) := by
  unfold State.pollAnswered
  dsimp only
  split
  · refine OpensNone.trans (s.setFace_opensNone_of_same f ?_) (State.ask_opensNone (State.setContext _ f _) f rfl)
    rfl
  · exact s.setFace_opensNone_of_same f

theorem State.pollCollision_opensNone (s : State) (f : Face) : OpensNone s (s.pollCollision f) := by
  unfold State.pollCollision
  dsimp only
  split
  · refine OpensNone.trans (s.setFace_opensNone_of_same f ?_) (State.askTone_opensNone _ f _)
    rfl
  · exact s.setFace_opensNone_of_same f

/-! ### The STAGE point -/

/-- A face's exchange of STAGE has begun as the rule says: in IN_SERVICE, with the image of its context. -/
def StageBegun (t : State) (f : Face) : Prop :=
  t.service.state = .inService ∧ ∃ w img, (t.face f).staged = some (w.toBytes, w.counter) ∧ (t.context f).staged = some w
    ∧ (t.context f).image = some img ∧ w.counter = img.counter + 1 ∧ (t.context f).state = .staging

/-- Each exchange of STAGE was open before, or has begun as the rule says. -/
def Stages (s t : State) : Prop :=
  ∀ f, (t.face f).staged = none ∨ (t.face f).staged = (s.face f).staged ∨ StageBegun t f

theorem OpensNone.stages {s t : State} (h : OpensNone s t) : Stages s t := fun f => (h f).imp_right .inl

theorem OpensNone.then {s t u : State} (h : OpensNone s t) (g : Stages t u) : Stages s u := fun f => by
  rcases g f with hn | hsame | hbegun
  · exact .inl hn
  · rw [hsame]
    exact (h f).imp_right .inl
  · exact .inr (.inr hbegun)

theorem State.stagePoint_stages (s : State) (f : Face) {w img : CardImage} (himg : (s.context f).image = some img)
    (hw : w.counter = img.counter + 1) : Stages s (s.stagePoint f w) := by
  by_cases hin : s.service.state = .inService
  · rw [State.stagePoint, if_pos hin]
    intro g
    rcases Face.eq_or_other f g with hg | hg
    · rw [hg]
      have hcontext : (((s.setContext f { s.context f with state := .staging, staged := some w }).ask f
          (.stage w.toBytes w.counter)).context f) = { s.context f with state := .staging, staged := some w } :=
        State.setContext_context s f _
      exact .inr (.inr ⟨hin, w, img, by rw [State.ask, State.setFace_face]; rfl, by rw [hcontext], by rw [hcontext]; exact himg, hw,
        by rw [hcontext]⟩)
    · exact .inr (.inl (by rw [hg, State.ask, State.setFace_face_other]; rfl))
  · rw [State.stagePoint, if_neg hin]
    exact (s.endFailed_opensNone f _).stages

theorem State.blockStage_stages (s : State) (f : Face) : Stages s (s.blockStage f) := by
  unfold State.blockStage
  split
  · exact s.stagePoint_stages f ‹_› rfl
  · exact (s.endRefused_opensNone f _).stages

theorem CardImage.withFare_counter (c : CardImage) (r : FareResult) : (c.withFare r).counter = c.counter := by
  unfold CardImage.withFare
  (repeat' split) <;> rfl

theorem State.evaluateWatch_image (s : State) (f : Face) (v : WatchValues) :
    ((s.evaluateWatch f v).2.context f).image = (s.context f).image := by
  unfold State.evaluateWatch
  split
  · split
    · rfl
    · have filled (t : State) (m : Byte) :
          ((t.setContext f { s.context f with watchUnits := some m }).context f).image = (s.context f).image := by
        rw [State.setContext_context]
      dsimp only
      split
      · exact filled _ _
      · exact filled _ _
      · exact filled _ _
  · rfl

/-- What is found leaves the fetched image. -/
theorem State.findEvidence_image (s : State) (f : Face) (k : EvidenceKind) :
    ((s.findEvidence f k).2.context f).image = (s.context f).image := by
  have turned (t : State) : ((t.turnToBlock f k).2.context f).image = (t.context f).image := by
    unfold State.turnToBlock
    dsimp only
    split
    · rw [State.setContext_context]
      simp [State.context]
    · simp [State.context]
  unfold State.findEvidence
  dsimp only
  split
  · rw [State.setContext_context]
    rfl
  · rw [State.setContext_context]
    rfl
  · rw [turned, State.setContext_context]
    rfl

theorem State.charge_stages (s : State) (f : Face) {c : CardImage} (himg : (s.context f).image = some c) :
    Stages s (s.charge f c) := by
  unfold State.charge
  split
  · exact (s.endRefused_opensNone f _).stages
  · split
    · exact (s.endRefused_opensNone f _).stages
    · rename_i result _
      set u := s.setContext f { s.context f with fare := some result }
      have himage : (u.context f).image = some c := by
        rw [State.setContext_context]
        exact himg
      have hwatched := u.evaluateWatch_even f (watchValues f c result)
      have hkept := u.evaluateWatch_image f (watchValues f c result)
      have hbefore : OpensNone s u := OpensNone.of_faces rfl
      dsimp only
      split
      · rename_i t heq
        rw [heq] at hwatched
        exact (hbefore.trans (hwatched.opensNone.trans (t.endRefused_opensNone f _))).stages
      · rename_i t heq
        rw [heq] at hwatched hkept
        exact (hbefore.trans hwatched.opensNone).then
          (t.stagePoint_stages f (hkept.trans himage) (CardImage.withFare_counter _ _))

/-- What DECIDING makes of the claims that others have laid: evidence CONCURRENT, unless it was flagged before. -/
def State.takeClaims (s : State) (f : Face) : Finding × State :=
  let c := s.context f
  let s1 := s.setContext f { c with state := .deciding, ringTimer := none, contested := false, notes := [] }
  if c.claimed = true ∧ c.flagged.contains .concurrent = false then s1.findEvidence f .concurrent else (.carryOn, s1)

theorem State.deciding_of_refused {s t : State} {f : Face} (h : s.takeClaims f = (.refused, t)) :
    s.deciding f = t.endRefused f .evidence := by
  unfold State.takeClaims at h
  unfold State.deciding
  dsimp only at h ⊢
  rw [h]

theorem State.deciding_of_block {s t : State} {f : Face} (h : s.takeClaims f = (.block, t)) : s.deciding f = t.blockStage f := by
  unfold State.takeClaims at h
  unfold State.deciding
  dsimp only at h ⊢
  rw [h]

theorem State.deciding_of_carryOn {s t : State} {f : Face} {img : CardImage} (h : s.takeClaims f = (.carryOn, t))
    (himg : (s.context f).image = some img) : s.deciding f = t.charge f img := by
  unfold State.takeClaims at h
  unfold State.deciding
  dsimp only at h ⊢
  rw [h, himg]

theorem State.deciding_of_no_image {s t : State} {f : Face} (h : s.takeClaims f = (.carryOn, t))
    (himg : (s.context f).image = none) : s.deciding f = t.endRefused f .cardInvalid := by
  unfold State.takeClaims at h
  unfold State.deciding
  dsimp only at h ⊢
  rw [h, himg]

theorem State.takeClaims_opensNone (s : State) (f : Face) : OpensNone s (s.takeClaims f).2 := by
  unfold State.takeClaims
  dsimp only
  split
  · exact OpensNone.trans (OpensNone.of_faces rfl) (State.findEvidence_even _ f _).opensNone
  · exact OpensNone.of_faces rfl

theorem State.takeClaims_image (s : State) (f : Face) : ((s.takeClaims f).2.context f).image = (s.context f).image := by
  unfold State.takeClaims
  dsimp only
  split
  · rw [State.findEvidence_image, State.setContext_context]
  · rw [State.setContext_context]

theorem State.deciding_stages (s : State) (f : Face) : Stages s (s.deciding f) := by
  have hopens := s.takeClaims_opensNone f
  have himage := s.takeClaims_image f
  rcases htaken : s.takeClaims f with ⟨verdict, t⟩
  rw [htaken] at hopens himage
  cases verdict with
  | refused =>
    rw [State.deciding_of_refused htaken]
    exact hopens.then (t.endRefused_opensNone f _).stages
  | block =>
    rw [State.deciding_of_block htaken]
    exact hopens.then (t.blockStage_stages f)
  | carryOn =>
    cases himg : (s.context f).image with
    | some img =>
      rw [State.deciding_of_carryOn htaken himg]
      exact hopens.then (t.charge_stages f (himage.trans himg))
    | none =>
      rw [State.deciding_of_no_image htaken himg]
      exact hopens.then (t.endRefused_opensNone f _).stages

theorem State.sendHold_stages (s : State) (f : Face) (r : Half) : Stages s (s.sendHold f r) := by
  unfold State.sendHold
  dsimp only
  split
  · exact (OpensNone.of_faces (by simp)).stages
  · exact OpensNone.then (OpensNone.of_faces rfl) (State.deciding_stages _ f)

theorem State.checkSightings_stages (s : State) (f : Face) (c : CardImage) : Stages s (s.checkSightings f c) := by
  have hfound := (s.findAll_even f (s.sightingFindings f c)).opensNone
  unfold State.checkSightings
  split
  · rename_i t heq
    rw [heq] at hfound
    exact hfound.then (t.endRefused_opensNone f _).stages
  · rename_i t heq
    rw [heq] at hfound
    exact hfound.then (t.blockStage_stages f)
  · rename_i t heq
    rw [heq] at hfound
    exact hfound.then (t.sendHold_stages f _)

theorem State.proofMatched_stages (s : State) (f : Face) : Stages s (s.proofMatched f) := by
  unfold State.proofMatched
  split
  · exact s.blockStage_stages f
  · split
    · exact s.checkSightings_stages f _
    · exact (s.endRefused_opensNone f _).stages

theorem State.proofFailed_stages (s : State) (f : Face) : Stages s (s.proofFailed f) := by
  unfold State.proofFailed
  split
  · exact (OpensNone.trans (OpensNone.of_faces rfl) (State.endRefused_opensNone _ f _)).stages
  · have hfound := (s.findEvidence_even f .forged).opensNone
    split
    · rename_i t heq
      rw [heq] at hfound
      refine hfound.then ?_
      split
      · exact t.checkSightings_stages f _
      · exact (t.endRefused_opensNone f _).stages
    · rename_i t _ heq
      rw [heq] at hfound
      exact hfound.then (t.endRefused_opensNone f _).stages

theorem State.holdReturns_stages (s : State) (n : CardNumber) (x : HoldContest) : Stages s (s.holdReturns n x) := by
  unfold State.holdReturns
  split
  · exact (OpensNone.refl s).stages
  · exact OpensNone.then (OpensNone.of_faces rfl) (State.deciding_stages _ _)

/-! ### Every command -/

theorem Stages.whenRunning {s t : State} {act : State → State} (h : whenRunning s act = .next t) (hact : Stages s (act s)) :
    Stages s t := by
  injection h with h
  rw [← h]
  split
  · exact hact
  · exact (OpensNone.refl s).stages

theorem OpensNone.whenRunning {s t : State} {act : State → State} (h : whenRunning s act = .next t) (hact : OpensNone s (act s)) :
    OpensNone s t := by
  injection h with h
  rw [← h]
  split
  · exact hact
  · exact OpensNone.refl s

theorem OpensNone.request {s : State} {kind : Byte} {length : Nat} {body : List Byte} {answer : State → Answer}
    (h : OpensNone s.hunting (answer s.hunting).after) : OpensNone s (s.request kind length body answer) := by
  have hhunting : OpensNone s s.hunting := OpensNone.of_faces rfl
  unfold State.request State.takeRequest State.takeFrame
  dsimp only
  split
  · exact hhunting.trans (OpensNone.of_faces rfl)
  · split
    · exact (hhunting.trans h).trans (OpensNone.of_faces rfl)
    · exact hhunting.trans (OpensNone.of_faces rfl)

/-- A card reply ends its exchange before it is handed on. -/
theorem Stages.cardReply {s : State} {f : Face} {expected : CardCommand → Bool} {act : State → State}
    (h : ∀ t : State, Stages t (act t)) : Stages s (s.cardReply f expected act) := by
  have hresponded := s.responded_opensNone f
  unfold State.cardReply
  dsimp only
  split
  · split
    · exact (hresponded.trans (State.closeExchange_opensNone _ f)).then (h _)
    · exact hresponded.stages
  · exact hresponded.stages

theorem execConfigDone_opensNone {body : List Byte} {s t : State} (h : execConfigDone body s = .next t) : OpensNone s t :=
  OpensNone.whenRunning h <| OpensNone.request <| by
    have ring (u : State) : OpensNone u (u.setRing { u.ring with state := .isolated }).sendCensus := OpensNone.of_faces
    split
    · unfold State.leaveStarting
      dsimp only [stateAnswer]
      split
      · exact ((State.enterFree_opensNone _ _).trans (State.raise_opensNone _ _)).trans (ring _)
      · exact (State.enterPlain_opensNone _ _).trans (ring _)
    · exact OpensNone.refl _

theorem execSetService_opensNone {body : List Byte} {s t : State} (h : execSetService body s = .next t) : OpensNone s t :=
  OpensNone.whenRunning h <| OpensNone.request <| by
    split
    · unfold State.setServiceTarget
      dsimp only [stateAnswer]
      split
      · exact State.enterPlain_opensNone _ _
      · split
        · exact State.enterPlain_opensNone _ _
        · split <;> exact OpensNone.refl _
    · exact OpensNone.refl _

theorem execEmergency_opensNone {body : List Byte} {s t : State} (h : execEmergency body s = .next t) : OpensNone s t :=
  OpensNone.whenRunning h <| OpensNone.request <| by
    split
    iterate 3 exact State.enterFree_opensNone _ _
    iterate 2 exact OpensNone.refl _

theorem State.resumeService_opensNone (s : State) : OpensNone s s.resumeService :=
  (((s.setService_opensNone _).trans (State.fieldOnRequest_opensNone _ .street true)).trans
    (State.fieldOnRequest_opensNone _ .paid true)).trans (State.setAisle_opensNone _ _)

theorem execResume_opensNone {body : List Byte} {s t : State} (h : execResume body s = .next t) : OpensNone s t :=
  OpensNone.whenRunning h <| OpensNone.request <| by
    split
    · exact State.resumeService_opensNone _
    · exact OpensNone.refl _

theorem execSetAisle_opensNone {body : List Byte} {s t : State} (h : execSetAisle body s = .next t) : OpensNone s t :=
  OpensNone.whenRunning h <| OpensNone.request <| by
    split
    · exact OpensNone.refl _
    · split
      · exact OpensNone.refl _
      · exact OpensNone.of_faces (by simp [State.acceptAisle])

theorem State.afterReset_opensNone (s : State) (b : Bool) : OpensNone s (s.afterReset b) := fun f => by
  cases f <;> exact .inl rfl

theorem State.restTears_opensNone (s : State) : OpensNone s s.restTears :=
  OpensNone.of_faces (foldl_keeps State.faces State.tearAtReset (fun t e => (t.tearAtReset_eq e).1) _ s)

theorem execReplySent_opensNone {s t : State} (h : execReplySent s = .next t) : OpensNone s t :=
  OpensNone.whenRunning h <| by
    split
    · exact OpensNone.refl s
    · split
      · exact (s.afterReset_opensNone _).trans (State.restTears_opensNone _)
      · split
        · exact OpensNone.of_faces rfl
        · exact OpensNone.of_faces rfl

theorem execPowerOn_opensNone {b : Bool} {s t : State} (h : execPowerOn b s = .next t) : OpensNone s t := by
  injection h with h
  rw [← h]
  refine OpensNone.trans (t := if s.storeKept = true ∧ b = true then s.powerOnValid else s.powerOnLost) ?_ (OpensNone.of_faces rfl)
  split
  · exact (s.afterReset_opensNone _).trans (State.restTears_opensNone _)
  · exact (s.afterReset_opensNone false).trans (OpensNone.of_faces (by simp [State.powerOnLost, State.fillFaultSlot]))

theorem execSettlingTimeExpiry_opensNone {f : Face} {s t : State} (h : execSettlingTimeExpiry f s = .next t) : OpensNone s t :=
  OpensNone.whenRunning h <| by
    dsimp only
    split
    · exact s.setFace_opensNone_of_same f
    · exact OpensNone.refl s

theorem execPollDue_opensNone {f : Face} {s t : State} (h : execPollDue f s = .next t) : OpensNone s t :=
  OpensNone.whenRunning h <| by
    dsimp only
    split
    · exact s.setFace_opensNone_of_same f
    · exact OpensNone.refl s

theorem execWakeTimeout_opensNone {f : Face} {s t : State} (h : execWakeTimeout f s = .next t) : OpensNone s t :=
  OpensNone.whenRunning h <| by
    split
    · exact OpensNone.refl s
    · split
      · exact OpensNone.refl s
      · split
        · exact s.pollUnanswered_opensNone f _
        · exact s.setFace_opensNone_of_same f

/-- What ends a poll in progress, after the response that it is. -/
theorem State.endPoll_opensNone (s : State) (f : Face) {act : State → State} (h : ∀ t, OpensNone t (act t)) :
    OpensNone s (if (s.face f).poll.isSome then act (s.responded f) else s.responded f) := by
  split
  · exact (s.responded_opensNone f).trans (h _)
  · exact s.responded_opensNone f

theorem execPresenceAnswer_opensNone {f : Face} {s t : State} (h : execPresenceAnswer f s = .next t) : OpensNone s t :=
  OpensNone.whenRunning h (s.endPoll_opensNone f fun u => u.pollAnswered_opensNone f)

theorem execCollisionReport_opensNone {f : Face} {s t : State} (h : execCollisionReport f s = .next t) : OpensNone s t :=
  OpensNone.whenRunning h (s.endPoll_opensNone f fun u => u.pollCollision_opensNone f)

theorem execGarbledReply_opensNone {f : Face} {s t : State} (h : execGarbledReply f s = .next t) : OpensNone s t :=
  OpensNone.whenRunning h (s.endPoll_opensNone f fun u => u.pollCollision_opensNone f)

theorem execSilenceNotice_opensNone {f : Face} {s t : State} (h : execSilenceNotice f s = .next t) : OpensNone s t :=
  OpensNone.whenRunning h (s.responded_opensNone f)

/-- A command sent once more stages what it staged. -/
theorem execCommandTimeout_opensNone {f : Face} {s t : State} (h : execCommandTimeout f s = .next t) : OpensNone s t :=
  OpensNone.whenRunning h <| by
    split
    · exact OpensNone.refl s
    · rename_i e he
      have hclosed := s.closeExchange_opensNone f
      split
      · exact OpensNone.refl s
      · split
        · exact s.setFace_opensNone f (.inr (by rw [FaceUnit.staged, FaceUnit.staged, he]; rfl))
        · split
          · exact hclosed.trans (OpensNone.trans OpensNone.of_faces (State.ask_opensNone _ f rfl))
          · exact hclosed.trans (State.cardLost_opensNone _ f)

theorem execNameAnswer_stages {f : Face} {n : CardNumber} {c g : Byte} {x : CardStatus} {s t : State}
    (h : execNameAnswer f n c g x s = .next t) : Stages s t :=
  Stages.whenRunning h <| Stages.cardReply fun u => by
    refine OpensNone.stages ?_
    dsimp only
    split
    · exact OpensNone.trans (OpensNone.of_faces rfl) (State.conclude_opensNone _ f _ _ _)
    · exact OpensNone.trans (OpensNone.of_faces rfl) (State.admitCard_opensNone _ f _)

theorem execCardImage_stages {f : Face} {b : List Byte} {s t : State} (h : execCardImage f b s = .next t) : Stages s t :=
  Stages.whenRunning h <| Stages.cardReply fun u => by
    refine OpensNone.stages ?_
    split
    · exact u.readImage_opensNone f b
    · exact u.confirmRead_opensNone f b
    · exact OpensNone.refl u

theorem execProofAnswer_stages {f : Face} {p : Word} {s t : State} (h : execProofAnswer f p s = .next t) : Stages s t :=
  Stages.whenRunning h <| Stages.cardReply fun u => by
    split
    · exact u.proofMatched_stages f
    · exact u.proofFailed_stages f

theorem execReady_stages {f : Face} {s t : State} (h : execReady f s = .next t) : Stages s t :=
  Stages.whenRunning h <| Stages.cardReply fun u => (u.readyToCommit_opensNone f).stages

theorem execStale_stages {f : Face} {s t : State} (h : execStale f s = .next t) : Stages s t :=
  Stages.whenRunning h <| Stages.cardReply fun u => (u.endFailed_opensNone f _).stages

theorem execSettled_stages {f : Face} {n : Half} {s t : State} (h : execSettled f n s = .next t) : Stages s t :=
  Stages.whenRunning h <| Stages.cardReply fun u => by
    split
    · exact (u.confirmWrite_opensNone f).stages
    · exact (u.notWritten_opensNone f).stages

theorem execHold_stages {o hop : Byte} {n : CardNumber} {r : Half} {x : HoldContest} {s t : State}
    (h : execHold o hop n r x s = .next t) : Stages s t :=
  Stages.whenRunning h <| by
    unfold State.ringArrival
    split
    · exact (Even.ite (Even.refl s) (s.send_even _)).opensNone.stages
    · split
      · exact s.holdReturns_stages n x
      · exact (Even.ite (Even.refl s) ((State.send_even _ _).after (s.holdArrives_even o n r))).opensNone.stages

theorem execRingTimeout_stages {f : Face} {s t : State} (h : execRingTimeout f s = .next t) : Stages s t :=
  Stages.whenRunning h <| by
    split
    · exact OpensNone.then (OpensNone.of_faces (by simp)) (State.deciding_stages _ f)
    · exact (OpensNone.refl s).stages

theorem execBeamStuck_opensNone {b : Beam} {s t : State} (h : execBeamStuck b s = .next t) : OpensNone s t :=
  OpensNone.whenRunning h <| by
    have ended (u : State) : OpensNone u (if u.aisle.clear then u.endRun u.now else u) :=
      (Even.ite (u.endRun_even _) (Even.refl u)).opensNone
    dsimp only
    split
    · exact ((s.setAisle_opensNone _).trans (State.raiseFault_opensNone _ _)).trans (ended _)
    · exact OpensNone.refl s

theorem execLimitDebounceExpiry_opensNone {l : Limit} {s t : State} (h : execLimitDebounceExpiry l s = .next t) : OpensNone s t :=
  OpensNone.whenRunning h <| by
    split
    · unfold State.acceptLimit
      dsimp only
      split
      · exact OpensNone.of_faces rfl
      · split
        · exact OpensNone.trans (OpensNone.of_faces rfl) (State.raiseFault_opensNone _ _)
        · exact OpensNone.of_faces rfl
    · exact OpensNone.refl s

theorem execTravelTimeout_opensNone {s t : State} (h : execTravelTimeout s = .next t) : OpensNone s t :=
  OpensNone.whenRunning h <| by
    split
    · exact OpensNone.trans (OpensNone.of_faces rfl) (State.raiseFault_opensNone _ _)
    · exact OpensNone.refl s

theorem execEmergencyDebounceExpiry_opensNone {s t : State} (h : execEmergencyDebounceExpiry s = .next t) : OpensNone s t :=
  OpensNone.whenRunning h <| by
    have accepted (v : Service) : OpensNone s (s.setService v) := OpensNone.of_faces rfl
    dsimp only
    split
    · split
      · exact accepted _
      · unfold State.emergencyAsserted
        split
        iterate 3 exact ((accepted _).trans (State.enterFree_opensNone _ _)).trans (State.raise_opensNone _ _)
        iterate 2 exact accepted _
    · exact OpensNone.refl s

theorem exec_stages {c : Instr} {s t : State} (h : exec c s = .next t) : Stages s t := by
  cases c with
  | identify => exact (execIdentify_even h).opensNone.stages
  | setClock => exact (execSetClock_even h).opensNone.stages
  | setAisle => exact (execSetAisle_opensNone h).stages
  | loadStations => exact (execLoadStations_even h).opensNone.stages
  | loadBands => exact (execLoadBands_even h).opensNone.stages
  | loadFares => exact (execLoadFares_even h).opensNone.stages
  | loadClasses => exact (execLoadClasses_even h).opensNone.stages
  | loadKey => exact (execLoadKey_even h).opensNone.stages
  | setPolicy => exact (execSetPolicy_even h).opensNone.stages
  | configDone => exact (execConfigDone_opensNone h).stages
  | setService => exact (execSetService_opensNone h).stages
  | emergency => exact (execEmergency_opensNone h).stages
  | resume => exact (execResume_opensNone h).stages
  | releaseDays => exact (execReleaseDays_even h).opensNone.stages
  | hotlistAdd => exact (execHotlistAdd_even h).opensNone.stages
  | hotlistRemove => exact (execHotlistRemove_even h).opensNone.stages
  | hotlistRange => exact (execHotlistRange_even h).opensNone.stages
  | hotlistQuery => exact (execHotlistQuery_even h).opensNone.stages
  | pushSighting => exact (execPushSighting_even h).opensNone.stages
  | setWatchUnit => exact (execSetWatchUnit_even h).opensNone.stages
  | setWatchCommon => exact (execSetWatchCommon_even h).opensNone.stages
  | watchStatus => exact (execWatchStatus_even h).opensNone.stages
  | clearWatch => exact (execClearWatch_even h).opensNone.stages
  | attention => exact (execAttention_even h).opensNone.stages
  | setAttentionMask => exact (execSetAttentionMask_even h).opensNone.stages
  | readFault => exact (execReadFault_even h).opensNone.stages
  | clearFault => exact (execClearFault_even h).opensNone.stages
  | readJournal => exact (execReadJournal_even h).opensNone.stages
  | freeJournal => exact (execFreeJournal_even h).opensNone.stages
  | readCounters => exact (execReadCounters_even h).opensNone.stages
  | aisleStatus => exact (execAisleStatus_even h).opensNone.stages
  | tearList => exact (execTearList_even h).opensNone.stages
  | reset => exact (execReset_even h).opensNone.stages
  | unknownRequest => exact (execUnknownRequest_even h).opensNone.stages
  | checkMismatch => exact (execCheckMismatch_even h).opensNone.stages
  | framingError => exact (execFramingError_even h).opensNone.stages
  | frameGapTimeout => exact (execFrameGapTimeout_even h).opensNone.stages
  | frameOverrun => exact (execFrameOverrun_even h).opensNone.stages
  | replySent => exact (execReplySent_opensNone h).stages
  | powerOn => exact (execPowerOn_opensNone h).stages
  | hardwareResetAssert => exact (execHardwareResetAssert_even h).opensNone.stages
  | powerLoss => exact (execPowerLoss_even h).opensNone.stages
  | settlingTimeExpiry => exact (execSettlingTimeExpiry_opensNone h).stages
  | pollDue => exact (execPollDue_opensNone h).stages
  | wakeTimeout => exact (execWakeTimeout_opensNone h).stages
  | presenceAnswer => exact (execPresenceAnswer_opensNone h).stages
  | collisionReport => exact (execCollisionReport_opensNone h).stages
  | garbledReply => exact (execGarbledReply_opensNone h).stages
  | silenceNotice => exact (execSilenceNotice_opensNone h).stages
  | commandTimeout => exact (execCommandTimeout_opensNone h).stages
  | nameAnswer => exact execNameAnswer_stages h
  | cardImage => exact execCardImage_stages h
  | proofAnswer => exact execProofAnswer_stages h
  | ready => exact execReady_stages h
  | stale => exact execStale_stages h
  | settled => exact execSettled_stages h
  | hold => exact execHold_stages h
  | release => exact (execRelease_even h).opensNone.stages
  | alert => exact (execAlert_even h).opensNone.stages
  | census => exact (execCensus_even h).opensNone.stages
  | badRingMessage => exact (execBadRingMessage_even h).opensNone.stages
  | ringOutSent => exact (execRingOutSent_even h).opensNone.stages
  | ringTimeout => exact execRingTimeout_stages h
  | censusDue => exact (execCensusDue_even h).opensNone.stages
  | peerHoldExpiry => exact (execPeerHoldExpiry_even h).opensNone.stages
  | displacedHoldExpiry => exact (execDisplacedHoldExpiry_even h).opensNone.stages
  | tearWindowExpiry => exact (execTearWindowExpiry_even h).opensNone.stages
  | beamInputChange => exact (execBeamInputChange_even h).opensNone.stages
  | beamDebounceExpiry => exact (execBeamDebounceExpiry_even h).opensNone.stages
  | beamStuck => exact (execBeamStuck_opensNone h).stages
  | limitInputChange => exact (execLimitInputChange_even h).opensNone.stages
  | limitDebounceExpiry => exact (execLimitDebounceExpiry_opensNone h).stages
  | travelTimeout => exact (execTravelTimeout_opensNone h).stages
  | closeDelayExpiry => exact (execCloseDelayExpiry_even h).opensNone.stages
  | grantExpiry => exact (execGrantExpiry_even h).opensNone.stages
  | passageAlarmEnd => exact (execPassageAlarmEnd_even h).opensNone.stages
  | watchAlarmEnd => exact (execWatchAlarmEnd_even h).opensNone.stages
  | shortToneEnd => exact (execShortToneEnd_even h).opensNone.stages
  | emergencyInputChange => exact (execEmergencyInputChange_even h).opensNone.stages
  | emergencyDebounceExpiry => exact (execEmergencyDebounceExpiry_opensNone h).stages
  | minuteTick => exact (execMinuteTick_even h).opensNone.stages
  | backupSupplyFailure => exact (execBackupSupplyFailure_even h).opensNone.stages
  | frameStart => exact (execFrameStart_even h).opensNone.stages

/-- Settles O59: every command opens an exchange of STAGE only at the STAGE point. -/
theorem stagesBeginOnlyInService : Obligations.StagesBeginOnlyInService := by
  intro c s t f e image n h he hc hnew
  have hstaged : (t.face f).staged = some (image, n) := FaceUnit.staged_of_stage he hc
  rcases exec_stages h f with hnone | hsame | ⟨hin, w, img, hw, hcontext, himg, hcounter, hstate⟩
  · rw [hstaged] at hnone
    cases hnone
  · obtain ⟨x, hx, hcx⟩ := FaceUnit.stage_of_staged (hsame.symm.trans hstaged)
    exact absurd hcx (hnew x hx)
  · rw [hstaged] at hw
    cases hw
    exact ⟨hin, w, img, hcontext, himg, rfl, rfl, CardImage.toBytes_length w, hcounter, hstate⟩

end Sys2Proof.Machine
end

section
/-! SUPPORT. The fare unit: the exit fare stage by stage, the bands of the tables, the entry charges, and the bounds that each charge
keeps. -/

namespace Sys2Proof.Machine

-- One declaration at a time: each waiting elaboration thread counts against the memory limit of the one text.
set_option Elab.async false

/-! ### Tests of a card's record (R67 to R70, R76) -/

theorem stale_iff (k : FareClock) (e : EntryRecord) : stale k e = true ↔ e.day.toNat + 1 < k.today.toNat := by
  simp only [stale, decide_eq_true_eq]
  omega

theorem passCovers_pair_iff (k : FareClock) (p : Option Pass) (x y : Option Byte) : passCovers k p [x, y] = true ↔
    ∃ q zi zo, p = some q ∧ k.today.toNat ≤ q.lastDay.toNat ∧ x = some zi ∧ y = some zo
      ∧ q.zoneLow.toNat ≤ zi.toNat ∧ zi.toNat ≤ q.zoneHigh.toNat ∧ q.zoneLow.toNat ≤ zo.toNat ∧ zo.toNat ≤ q.zoneHigh.toNat := by
  cases p <;> cases x <;> cases y <;> simp [passCovers, Pass.coversZone, and_assoc]

theorem passCovers_single_iff (k : FareClock) (p : Option Pass) (x : Option Byte) : passCovers k p [x] = true ↔
    ∃ q z, p = some q ∧ k.today.toNat ≤ q.lastDay.toNat ∧ x = some z ∧ q.zoneLow.toNat ≤ z.toNat ∧ z.toNat ≤ q.zoneHigh.toNat := by
  cases p <;> cases x <;> simp [passCovers, Pass.coversZone]

/-- An entry of today within an enabled window, on a peak day (R70). -/
def Peaked (u : FareUnit) (k : FareClock) (e : EntryRecord) : Prop :=
  e.day = k.today ∧ k.peakDay = true
    ∧ ∃ w ∈ u.fares.windows.toList, w.1.toNat ≤ e.minute.toNat ∧ e.minute.toNat < w.2.toNat

theorem peakPercent_of_peaked {u : FareUnit} {k : FareClock} {e : EntryRecord} (h : Peaked u k e) :
    peakPercent u k e = u.fares.peakPercent.toNat := by
  obtain ⟨hday, hpeak, w, hw, hin⟩ := h
  exact if_pos ⟨hday, hpeak, List.any_eq_true.mpr ⟨w, hw, decide_eq_true hin⟩⟩

theorem peakPercent_of_not_peaked {u : FareUnit} {k : FareClock} {e : EntryRecord} (h : ¬ Peaked u k e) : peakPercent u k e = 100 :=
  if_neg fun ⟨hday, hpeak, hany⟩ => by
    obtain ⟨w, hw, hin⟩ := List.any_eq_true.mp hany
    exact h ⟨hday, hpeak, w, hw, of_decide_eq_true hin⟩

theorem afterCap_eq (cap : Half) (spend f : Nat) :
    afterCap cap.toNat spend f = if cap = 0 then f else min f (cap.toNat - spend) := by
  have hzero : cap.toNat = 0 ↔ cap = 0 := by bv_omega
  rw [afterCap]
  exact if_congr hzero rfl rfl

theorem afterOverstay_eq (u : FareUnit) (jm f : Nat) :
    afterOverstay u jm f = f + if u.fares.overstayLimit.toNat < jm then u.fares.overstayCharge.toNat else 0 := by
  unfold afterOverstay
  split <;> rfl

/-! ### The exit fare (R67 to R74) -/

/-- Stage 7 follows the stages before it. -/
theorem exitFare_eq (u : FareUnit) (k : FareClock) (c : CardImage) :
    exitFare u k c = Claims.exitAnswer u k c (exitStages u k c).1 (exitStages u k c).2 := by
  unfold exitFare settleFare Claims.exitAnswer
  dsimp only
  split
  · rename_i hnone
    by_cases h : c.balance.toInt - ((min (exitStages u k c).1 65535 : Nat) : Int) < -(u.fares.floor.toNat : Int)
    · rw [if_pos h]
    · rw [if_neg h] at hnone
      cases hnone
  · rename_i fare after hsome
    by_cases h : c.balance.toInt - ((min (exitStages u k c).1 65535 : Nat) : Int) < -(u.fares.floor.toNat : Int)
    · rw [if_pos h] at hsome
      cases hsome
    · rw [if_neg h] at hsome ⊢
      cases hsome
      cases (exitStages u k c).2 <;> cases c.entry <;> rfl

theorem exitFare_of_stages {u : FareUnit} {k : FareClock} {c : CardImage} {f4 : Nat} {spend : Option Nat}
    (h : exitStages u k c = (f4, spend)) : exitFare u k c = Claims.exitAnswer u k c f4 spend := by
  rw [exitFare_eq, h]

theorem exitStages_of_no_entry {u : FareUnit} {k : FareClock} {c : CardImage} (h : c.entry = none) :
    exitStages u k c = (u.fares.incompleteFare.toNat, none) := by
  unfold exitStages
  rw [h]

theorem exitStages_of_stale {u : FareUnit} {k : FareClock} {c : CardImage} {e : EntryRecord} (h : c.entry = some e)
    (hs : stale k e = true) : exitStages u k c = (u.fares.incompleteFare.toNat, none) := by
  unfold exitStages
  rw [h]
  exact if_pos hs

theorem exitStages_of_grace {u : FareUnit} {k : FareClock} {c : CardImage} {e : EntryRecord} (h : c.entry = some e)
    (hs : stale k e ≠ true) (hg : e.station = k.station ∧ journeyMinutes k e ≤ u.fares.grace.toNat) :
    exitStages u k c = (0, none) := by
  unfold exitStages
  rw [h]
  exact (if_neg hs).trans (if_pos hg)

theorem exitStages_of_pass {u : FareUnit} {k : FareClock} {c : CardImage} {e : EntryRecord} (h : c.entry = some e)
    (hs : stale k e ≠ true) (hg : ¬ (e.station = k.station ∧ journeyMinutes k e ≤ u.fares.grace.toNat))
    (hp : passCovers k c.pass [u.zone e.station, u.zone k.station] = true) :
    exitStages u k c = (afterOverstay u (journeyMinutes k e) 0, none) := by
  unfold exitStages
  rw [h]
  exact (if_neg hs).trans ((if_neg hg).trans (if_pos hp))

theorem exitStages_of_fare {u : FareUnit} {k : FareClock} {c : CardImage} {e : EntryRecord} (h : c.entry = some e)
    (hs : stale k e ≠ true) (hg : ¬ (e.station = k.station ∧ journeyMinutes k e ≤ u.fares.grace.toNat))
    (hp : passCovers k c.pass [u.zone e.station, u.zone k.station] ≠ true) (f3 : Nat)
    (hf : f3 = afterCap (u.classEntry c.cls).cap.toNat (spendToday k c) (afterTransfer u.fares.transferCredit.toNat e
      (roundedFare (u.baseFare (u.band e.station k.station)) (peakPercent u k e) (u.classEntry c.cls).discount.toNat
        u.fares.step.toNat))) :
    exitStages u k c = (afterOverstay u (journeyMinutes k e) f3, some (min 65535 (spendToday k c + f3))) := by
  unfold exitStages
  rw [h, hf]
  exact (if_neg hs).trans ((if_neg hg).trans (if_neg hp))

theorem exitFareFollowsItsStages : Claims.ExitFareFollowsItsStages := by
  intro u k c answer q
  refine ⟨fun h => exitFare_of_stages (exitStages_of_no_entry h), fun e he => ?_⟩
  intro isStale elapsed jm graced covered extra b peaked d spend
  have hstale : stale k e = true ↔ isStale := stale_iff k e
  have hcovered : passCovers k c.pass [u.zone e.station, u.zone k.station] = true ↔ covered := passCovers_pair_iff k c.pass _ _
  refine ⟨fun hs => exitFare_of_stages (exitStages_of_stale he (hstale.mpr hs)),
    fun hs hg => exitFare_of_stages (exitStages_of_grace he (mt hstale.mp hs) hg), fun hs hg hp => ?pass,
    fun hs hg hp percent hpeaked hplain => ?fare⟩
  case pass =>
    rw [exitFare_of_stages (exitStages_of_pass he (mt hstale.mp hs) hg (hcovered.mpr hp)), afterOverstay_eq, Nat.zero_add]
    rfl
  case fare =>
    have hpercent : peakPercent u k e = percent := by
      by_cases h : Peaked u k e
      · rw [peakPercent_of_peaked h, hpeaked h]
      · rw [peakPercent_of_not_peaked h, hplain h]
    intro s f1 f2 f3
    have hfare := exitStages_of_fare (u := u) he (mt hstale.mp hs) hg (mt hcovered.mp hp) f3
      (by rw [hpercent]; exact (afterCap_eq _ _ _).symm)
    rw [afterOverstay_eq] at hfare
    exact exitFare_of_stages hfare

/-! ### Bands (R57, R59, R60) -/

theorem FareUnit.zone_of_loaded {u : FareUnit} {a : Half} (ha : a.toNat < 1024) (hl : u.stations[a.toNat].loaded = true) :
    u.zone a = some u.stations[a.toNat].zone := by
  simp [FareUnit.zone, FareUnit.stationEntry, Vector.getD, ha, hl]

theorem FareUnit.zone_of_not_loaded {u : FareUnit} {a : Half} (ha : a.toNat < 1024) (hl : u.stations[a.toNat].loaded = false) :
    u.zone a = none := by
  simp [FareUnit.zone, FareUnit.stationEntry, Vector.getD, ha, hl]

theorem FareUnit.zone_of_unknown {u : FareUnit} {a : Half} (ha : 1024 ≤ a.toNat) : u.zone a = none := by
  simp [FareUnit.zone, FareUnit.stationEntry, Vector.getD, Nat.not_lt.mpr ha]

theorem FareUnit.band_of_zones {u : FareUnit} {a b : Half} {za zb : Byte} (ha : u.zone a = some za) (hb : u.zone b = some zb) :
    u.band a b = u.cell za zb := by
  unfold FareUnit.band
  rw [ha, hb]

/-- Without a zone at one end, band 15. -/
theorem FareUnit.band_of_no_zone {u : FareUnit} {a : Half} (ha : u.zone a = none) (b : Half) : u.band a b = 15 ∧ u.band b a = 15 := by
  unfold FareUnit.band
  rw [ha]
  cases u.zone b <;> exact ⟨rfl, rfl⟩

theorem bandsComeFromTheMatrix : Claims.BandsComeFromTheMatrix := by
  intro u a b
  refine ⟨?cells, fun ha hl => FareUnit.band_of_no_zone (FareUnit.zone_of_not_loaded ha hl) b,
    fun ha => FareUnit.band_of_no_zone (FareUnit.zone_of_unknown ha) b, fun h => ⟨?_, ?_⟩⟩
  · intro ha hb za zb hla hlb h g
    rw [FareUnit.band_of_zones (FareUnit.zone_of_loaded ha hla) (FareUnit.zone_of_loaded hb hlb)]
    simp [FareUnit.cell, Vector.getD, za, zb, h, g]
  · simp [FareUnit.minimumTravel, Vector.getD, h]
  · simp [FareUnit.baseFare, Vector.getD, h]

/-! ### The entry charges (R75 to R78) -/

/-- An entry record is charged for unless it is stale or of a released station-day. -/
def EntryCharged (u : FareUnit) (k : FareClock) (c : CardImage) : Prop :=
  ∃ e, c.entry = some e ∧ k.today.toNat ≤ e.day.toNat + 1 ∧ (e.station, e.day) ∉ u.released

theorem entryCharge_of_charged {u : FareUnit} {k : FareClock} {c : CardImage} (h : EntryCharged u k c) :
    entryCharge u k c = u.fares.incompleteFare := by
  obtain ⟨e, he, hday, hreleased⟩ := h
  unfold entryCharge
  rw [he]
  exact (if_neg (mt (stale_iff k e).mp (Nat.not_lt.mpr hday))).trans (if_neg (by simpa using hreleased))

theorem entryCharge_of_not_charged {u : FareUnit} {k : FareClock} {c : CardImage} (h : ¬ EntryCharged u k c) :
    entryCharge u k c = 0 := by
  unfold entryCharge
  split
  · rfl
  · rename_i e he
    split
    · rfl
    · rename_i hs
      split
      · rfl
      · rename_i hr
        exact absurd ⟨e, he, Nat.not_lt.mp (mt (stale_iff k e).mpr hs), by simpa using hr⟩ h

theorem transferEligible_iff (u : FareUnit) (k : FareClock) (c : CardImage) : transferEligible u k c = true ↔
    ∃ j rest, c.history = j :: rest ∧ u.group k.station ≠ 0 ∧ u.group j.station = u.group k.station
      ∧ j.day = k.today ∧ j.minute.toNat ≤ k.now.toNat ∧ k.now.toNat - j.minute.toNat ≤ u.fares.transferWindow.toNat := by
  unfold transferEligible
  cases c.history <;> simp [and_assoc]

theorem entryChargesAndTheirTests : Claims.EntryChargesAndTheirTests := by
  intro u k c charged covered transfers q hcharged hplain after
  have hq : entryCharge u k c = q := by
    by_cases h : EntryCharged u k c
    · rw [entryCharge_of_charged h, hcharged h]
    · rw [entryCharge_of_not_charged h, hplain h]
  have hcovered : passCovers k c.pass [u.zone k.station] = true ↔ covered := passCovers_single_iff k c.pass _
  have hnot : passCovers k c.pass [u.zone k.station] = false ↔ ¬ covered := by rw [← hcovered, Bool.not_eq_true]
  unfold entryFare
  rw [hq]
  refine ⟨fun h => if_pos h, fun hfloor hp hmin => (if_neg (not_lt.mpr hfloor)).trans (if_pos ⟨hnot.mpr hp, hmin⟩),
    fun hfloor h => ⟨transferEligible u k c, transferEligible_iff u k c, ?_⟩⟩
  refine (if_neg (not_lt.mpr hfloor)).trans (if_neg fun ⟨hp, hmin⟩ => ?_)
  rcases h with h | h
  · exact hnot.mp hp h
  · exact absurd hmin (not_lt.mpr h)

/-- Settles O48: the stages, the bands and the entry charges, each from the equation of its case. -/
theorem faresFollowTheirStages : Obligations.FaresFollowTheirStages :=
  ⟨fun _ _ _ => ⟨rfl, rfl⟩, exitFareFollowsItsStages, bandsComeFromTheMatrix, entryChargesAndTheirTests⟩

/-! ### What every charge keeps (R71, R79) -/

/-- What an exit leaves as day spend is within the cap, or what the card held for today. -/
theorem exitStages_spend_le {u : FareUnit} {k : FareClock} {c : CardImage} {n : Nat} (h : (exitStages u k c).2 = some n)
    (hcap : (u.classEntry c.cls).cap ≠ 0) : n ≤ max (u.classEntry c.cls).cap.toNat (spendToday k c) := by
  cases he : c.entry with
  | none => rw [exitStages_of_no_entry he] at h; cases h
  | some e =>
    by_cases hs : stale k e = true
    · rw [exitStages_of_stale he hs] at h; cases h
    by_cases hg : e.station = k.station ∧ journeyMinutes k e ≤ u.fares.grace.toNat
    · rw [exitStages_of_grace he hs hg] at h; cases h
    by_cases hp : passCovers k c.pass [u.zone e.station, u.zone k.station] = true
    · rw [exitStages_of_pass he hs hg hp] at h; cases h
    rw [exitStages_of_fare he hs hg hp _ rfl, afterCap_eq, if_neg hcap] at h
    cases h
    omega

/-- A balance within the image check's range less a fare is written as it is. -/
theorem toInt_balanceAfter {b : Word} (hlow : -99999 ≤ b.toInt) (hhigh : b.toInt ≤ 999999) {f : Nat} (hf : f ≤ 65535) :
    (BitVec.ofInt 32 (b.toInt - f)).toInt = b.toInt - f := by
  rw [BitVec.toInt_ofInt, Int.bmod_eq_of_le]
  · omega
  · omega

theorem exitFare_keepsFloorAndCap {u : FareUnit} {k : FareClock} {c : CardImage} {x : FareResult}
    (hlow : -99999 ≤ c.balance.toInt) (hhigh : c.balance.toInt ≤ 999999) (h : exitFare u k c = .ok x) :
    x.balanceAfter.toInt = c.balance.toInt - x.fare.toNat ∧ -(u.fares.floor.toNat : Int) ≤ x.balanceAfter.toInt
    ∧ ∀ day spend, x.dayRecord = some (day, spend) → day = k.today
        ∧ ((u.classEntry c.cls).cap ≠ 0 → spend.toNat ≤ max (u.classEntry c.cls).cap.toNat (spendToday k c)) := by
  rw [exitFare_eq] at h
  unfold Claims.exitAnswer at h
  dsimp only at h
  have hle : min (exitStages u k c).1 65535 ≤ 65535 := Nat.min_le_right _ _
  generalize min (exitStages u k c).1 65535 = fare at h hle
  split at h
  · cases h
  · rename_i hfloor
    cases h
    have hafter := toInt_balanceAfter hlow hhigh hle
    have hfare : (BitVec.ofNat 16 fare).toNat = fare := by simp; omega
    refine ⟨by rw [hafter, hfare], by rw [hafter]; exact not_lt.mp hfloor, fun day spend hday => ?_⟩
    cases hspend : (exitStages u k c).2 with
    | none => rw [hspend] at hday; cases hday
    | some n =>
      rw [hspend] at hday
      cases hday
      exact ⟨rfl, fun hcap => (Nat.mod_le _ _).trans (exitStages_spend_le hspend hcap)⟩

theorem entryFare_keepsFloor {u : FareUnit} {k : FareClock} {c : CardImage} {x : FareResult}
    (hlow : -99999 ≤ c.balance.toInt) (hhigh : c.balance.toInt ≤ 999999) (h : entryFare u k c = .ok x) :
    x.balanceAfter.toInt = c.balance.toInt - x.fare.toNat ∧ -(u.fares.floor.toNat : Int) ≤ x.balanceAfter.toInt
      ∧ x.dayRecord = none := by
  unfold entryFare at h
  dsimp only at h
  split at h
  · cases h
  · rename_i hfloor
    split at h
    · cases h
    · cases h
      have hafter := toInt_balanceAfter hlow hhigh (f := (entryCharge u k c).toNat) (by omega)
      exact ⟨hafter, by rw [hafter]; exact not_lt.mp hfloor, rfl⟩

/-- Settles O49: the test of the floor at either face, and the cap of stage 5. -/
theorem chargesKeepFloorAndCap : Obligations.ChargesKeepFloorAndCap := by
  intro u k f c x hlow hhigh h
  cases f with
  | paid => exact exitFare_keepsFloorAndCap hlow hhigh h
  | street =>
    obtain ⟨hbalance, hfloor, hnone⟩ := entryFare_keepsFloor hlow hhigh h
    exact ⟨hbalance, hfloor, fun _ _ hday => by rw [hnone] at hday; cases hday⟩

end Sys2Proof.Machine
end

section
/-! SUPPORT. Evidence as it is found one kind after the other, and the name answer: admission, reservation, key and name checks. -/

namespace Sys2Proof.Machine

-- One declaration at a time: each waiting elaboration thread counts against the memory limit of the one text.
set_option Elab.async false

/-! ### Evidence by its policy (R28, R46, R113, R121) -/

/-- The part with evidence of the kinds `flagged` found and flagged on a face, CLONE attention raised. -/
def State.flagging (s : State) (f : Face) (flagged : List EvidenceKind) : State := { s with
  service := { s.service with flags := s.service.flags.raise .clone }
  contexts := s.contexts.set f { s.context f with flagged := (s.context f).flagged ++ flagged } }

/-- The same with a kind found after them whose policy is not FLAG. -/
def State.refusing (s : State) (f : Face) (flagged : List EvidenceKind) (k : EvidenceKind) : State := { s with
  service := { s.service with flags := s.service.flags.raise .clone }
  contexts := s.contexts.set f { s.context f with flagged := (s.context f).flagged ++ flagged, refusing := some k } }

/-- A LOCAL add with the own-block mark, and an ALERT with the block flag (R46, R121, R123). -/
def State.blocked (s : State) (n : CardNumber) (k : EvidenceKind) : State := { s with
  hotlist := s.hotlist.localAdd n true, ring := Claims.joined s.ring (.alert s.gate 0 n k 1) }

theorem State.findEvidence_of_flag {s : State} (f : Face) {k : EvidenceKind} (hk : s.check.policies.get k = .flag) :
    s.findEvidence f k = (.carryOn, s.flagging f [k]) := by
  simp only [State.findEvidence, State.raise_check, hk]
  rfl

/-- A kind found behind others that were flagged. -/
theorem State.flagging_refusing (s : State) (f : Face) (flagged : List EvidenceKind) (k : EvidenceKind) :
    (s.flagging f flagged).refusing f [] k = s.refusing f flagged k := by
  cases f <;> simp only [State.refusing, State.flagging, State.context, PerFace.get, PerFace.set, List.append_nil] <;> rfl

theorem State.flagging_flagging (s : State) (f : Face) (l m : List EvidenceKind) :
    (s.flagging f l).flagging f m = s.flagging f (l ++ m) := by
  cases f <;> simp only [State.flagging, State.context, PerFace.get, PerFace.set, List.append_assoc] <;> rfl

theorem State.refusing_nil (s : State) (f : Face) (k : EvidenceKind) :
    (s.raise .clone).setContext f { (s.raise .clone).context f with refusing := some k } = s.refusing f [] k := by
  cases f <;> simp only [State.refusing, State.setContext, State.context, PerFace.get, PerFace.set, List.append_nil] <;> rfl

theorem State.turnToBlock_of_refusing (s : State) (f : Face) (flagged : List EvidenceKind) (k : EvidenceKind) :
    (s.refusing f flagged k).turnToBlock f k =
      if ((s.refusing f flagged k).blocked (s.context f).number k).hotlist.listed (s.context f).number then
        (.block, ((s.refusing f flagged k).blocked (s.context f).number k).setContext f
          { s.context f with flagged := (s.context f).flagged ++ flagged, refusing := some k, blockPath := true })
      else (.refused, (s.refusing f flagged k).blocked (s.context f).number k) := by
  have hnumber : ((s.refusing f flagged k).context f).number = (s.context f).number := by cases f <;> rfl
  have hsent : ((s.refusing f flagged k).localAdd (s.context f).number true).send
      (.alert (s.refusing f flagged k).gate 0 (s.context f).number k (markByte true))
      = (s.refusing f flagged k).blocked (s.context f).number k := by
    rw [State.send_eq]
    rfl
  unfold State.turnToBlock
  dsimp only
  rw [hnumber, hsent]
  split
  · cases f <;> rfl
  · rfl

/-- The tap does not carry on as it was. -/
theorem State.turnToBlock_ends (s : State) (f : Face) (k : EvidenceKind) : (s.turnToBlock f k).1 ≠ .carryOn := by
  unfold State.turnToBlock
  dsimp only
  split <;> nofun

theorem State.findEvidence_of_refuseAndBlock {s : State} (f : Face) {k : EvidenceKind}
    (hk : s.check.policies.get k = .refuseAndBlock) : s.findEvidence f k = (s.refusing f [] k).turnToBlock f k := by
  simp only [State.findEvidence, State.raise_check, hk, State.refusing_nil]

theorem State.findEvidence_of_refuse_eq {s : State} (f : Face) {k : EvidenceKind} (hk : s.check.policies.get k = .refuse) :
    s.findEvidence f k = (.refused, s.refusing f [] k) := by
  rw [State.findEvidence_of_refuse f hk, ← State.refusing_nil]
  rfl

/-! ### Kinds found one after the other (R108, R111) -/

theorem State.findAll_cons_of_flag {s : State} (f : Face) {k : EvidenceKind} (hk : s.check.policies.get k = .flag)
    (l : List EvidenceKind) : s.findAll f (k :: l) = (s.flagging f [k]).findAll f l := by
  rw [State.findAll, State.findEvidence_of_flag f hk]

/-- What is found behind kinds under FLAG is found with these flagged. -/
theorem State.findAll_append (s : State) (f : Face) {flagged : List EvidenceKind} (hne : flagged ≠ [])
    (hflag : ∀ k ∈ flagged, s.check.policies.get k = .flag) (l : List EvidenceKind) :
    s.findAll f (flagged ++ l) = (s.flagging f flagged).findAll f l := by
  induction flagged generalizing s with
  | nil => exact absurd rfl hne
  | cons k ks ih =>
    rw [List.cons_append, State.findAll_cons_of_flag f (hflag k List.mem_cons_self)]
    cases ks with
    | nil => rfl
    | cons j js =>
      rw [ih (s.flagging f [k]) (List.cons_ne_nil _ _) fun x hx => hflag x (List.mem_cons_of_mem _ hx), State.flagging_flagging]
      rfl

theorem State.findAll_of_flagged (s : State) (f : Face) {flagged : List EvidenceKind} (hne : flagged ≠ [])
    (hflag : ∀ k ∈ flagged, s.check.policies.get k = .flag) : s.findAll f flagged = (.carryOn, s.flagging f flagged) := by
  have h := s.findAll_append f hne hflag []
  rwa [List.append_nil] at h

/-- The first kind under REFUSE ends the checks; a CONCURRENT originates an ALERT with its block flag clear. -/
theorem State.findAll_of_refuse (s : State) (f : Face) {flagged : List EvidenceKind}
    (hflag : ∀ k ∈ flagged, s.check.policies.get k = .flag) {k : EvidenceKind} (hk : s.check.policies.get k = .refuse)
    (rest : List EvidenceKind) :
    s.findAll f (flagged ++ k :: rest) = (.refused, { s.refusing f flagged k with
      ring := if k = .concurrent then Claims.joined s.ring (.alert s.gate 0 (s.context f).number .concurrent 0) else s.ring }) := by
  have headed (t : State) (ht : t.check = s.check) : t.findAll f (k :: rest) = (.refused, { t.refusing f [] k with
      ring := if k = .concurrent then Claims.joined t.ring (.alert t.gate 0 (t.context f).number .concurrent 0)
        else t.ring }) := by
    rw [State.findAll, State.findEvidence_of_refuse_eq f (by rw [ht]; exact hk)]
    dsimp only
    by_cases hc : k = .concurrent
    · have hpolicy : t.check.policies.concurrent = .refuse := by
        rw [ht]
        rw [hc] at hk
        exact hk
      have hnumber : ((t.refusing f [] k).context f).number = (t.context f).number := by cases f <;> rfl
      rw [if_pos ⟨hc, hpolicy⟩, if_pos hc, State.send_eq, hnumber]
      rfl
    · rw [if_neg fun h => hc h.1, if_neg hc]
      rfl
  cases hl : flagged with
  | nil => exact headed s rfl
  | cons j js =>
    rw [← hl, s.findAll_append f (by rw [hl]; nofun) hflag, headed (s.flagging f flagged) rfl, State.flagging_refusing]
    have hnumber : ((s.flagging f flagged).context f).number = (s.context f).number := by cases f <;> rfl
    rw [hnumber]
    rfl

/-- The first kind under REFUSE_AND_BLOCK turns to the block path, or ends the tap where its number cannot be listed. -/
theorem State.findAll_of_refuseAndBlock (s : State) (f : Face) {flagged : List EvidenceKind}
    (hflag : ∀ k ∈ flagged, s.check.policies.get k = .flag) {k : EvidenceKind} (hk : s.check.policies.get k = .refuseAndBlock)
    (rest : List EvidenceKind) : s.findAll f (flagged ++ k :: rest) = (s.refusing f flagged k).turnToBlock f k := by
  have headed (t : State) (ht : t.check = s.check) : t.findAll f (k :: rest) = (t.refusing f [] k).turnToBlock f k := by
    rw [State.findAll, State.findEvidence_of_refuseAndBlock f (by rw [ht]; exact hk)]
    have hends := (t.refusing f [] k).turnToBlock_ends f k
    generalize (t.refusing f [] k).turnToBlock f k = turned at hends
    obtain ⟨verdict, u⟩ := turned
    have hnotRefuse : ¬ (k = .concurrent ∧ t.check.policies.concurrent = .refuse) := by
      rintro ⟨rfl, hp⟩
      rw [ht] at hp
      exact absurd (hp.symm.trans hk) (by decide)
    cases verdict with
    | block => rfl
    | refused => exact if_neg hnotRefuse
    | carryOn => exact absurd rfl hends
  cases hl : flagged with
  | nil => exact headed s rfl
  | cons j js => rw [← hl, s.findAll_append f (by rw [hl]; nofun) hflag, headed (s.flagging f flagged) rfl, State.flagging_refusing]

/-- The name checks find BLOCKED, then HOTLISTED, one kind after the other. -/
theorem State.nameEvidence_eq (s : State) (f : Face) (st : CardStatus) : s.nameEvidence f st
    = s.findAll f ((if st = .blocked then [EvidenceKind.blocked] else [])
      ++ (if s.hotlisted (s.context f).number then [EvidenceKind.hotlisted] else [])) := by
  have second (t : State) (hlist : t.hotlisted (t.context f).number = s.hotlisted (s.context f).number) :
      (if t.hotlisted (t.context f).number then t.findEvidence f .hotlisted else (.carryOn, t))
        = t.findAll f (if s.hotlisted (s.context f).number then [EvidenceKind.hotlisted] else []) := by
    rw [hlist]
    split
    · rw [State.findAll]
      rcases t.findEvidence f .hotlisted with ⟨verdict, u⟩
      cases verdict <;> rfl
    · rfl
  by_cases hst : st = .blocked
  · rw [if_pos hst, State.nameEvidence, if_pos hst, List.singleton_append, State.findAll]
    cases hk : s.check.policies.get .blocked with
    | flag =>
      rw [State.findEvidence_of_flag f hk]
      refine second _ ?_
      have hnumber : ((s.flagging f [.blocked]).context f).number = (s.context f).number := by cases f <;> rfl
      rw [hnumber]
      rfl
    | refuse =>
      rw [State.findEvidence_of_refuse_eq f hk]
      rfl
    | refuseAndBlock =>
      rw [State.findEvidence_of_refuseAndBlock f hk]
      have hends := (s.refusing f [] .blocked).turnToBlock_ends f .blocked
      generalize (s.refusing f [] .blocked).turnToBlock f .blocked = turned at hends
      obtain ⟨verdict, u⟩ := turned
      cases verdict with
      | carryOn => exact absurd rfl hends
      | block => rfl
      | refused => rfl
  · rw [if_neg hst, State.nameEvidence, if_neg hst]
    exact second s rfl

/-! ### Before admission (R25) -/

theorem State.refusesBefore_iff (s : State) (f : Face) : s.refusesBefore f = true ↔
    s.service.state = .closed ∨ s.service.state = .emergency ∨ s.service.clock.isSet = false
      ∨ (s.aisle.mode = .exitOnly ∧ f = .street) ∨ (s.aisle.mode = .entryOnly ∧ f = .paid)
      ∨ s.freeSlots < s.obligations + 3 := by
  have hserves : s.aisle.mode.serves f.direction = false
      ↔ (s.aisle.mode = .exitOnly ∧ f = .street) ∨ (s.aisle.mode = .entryOnly ∧ f = .paid) := by
    cases s.aisle.mode <;> cases f <;> decide
  have hadmits : s.admits = false ↔ s.freeSlots < s.obligations + 3 := by simp [State.admits]
  simp only [State.refusesBefore, Bool.or_eq_true, Bool.not_eq_true', decide_eq_true_eq, hserves, hadmits, or_assoc]

/-- The part that admits or refuses a name answer: its exchange over, its context holding the name. -/
def State.namedBy (s : State) (f : Face) (a : NameAnswer) : State := { (Claims.heard s f) with
  contexts := s.contexts.set f { s.context f with name := some a } }

theorem exec_nameAnswer_of_naming {s : State} {f : Face} {e : Exchange} (hp : s.power = .running) (he : (s.face f).exchange = some e)
    (hc : e.command = .name) (hs : (s.face f).state = .serving) (n : CardNumber) (cls g : Byte) (st : CardStatus) :
    let a : NameAnswer := { number := n, cls := cls, generation := g, status := st }
    exec (.nameAnswer f n cls g st) s = .next
      (if (s.namedBy f a).refusesBefore f then (s.namedBy f a).refuseBefore f else (s.namedBy f a).admitCard f a) := by
  intro a
  change execNameAnswer f n cls g st s = _
  rw [execNameAnswer, whenRunning_of_running _ hp, State.cardReply_of_expected _ hs he (by simp [hc])]
  rfl

theorem State.namedBy_refusesBefore_iff {s : State} {f : Face} (hst : (s.context f).state = .naming) (a : NameAnswer) :
    (s.namedBy f a).refusesBefore f = true ↔
    s.service.state = .closed ∨ s.service.state = .emergency ∨ s.service.clock.isSet = false
      ∨ (s.aisle.mode = .exitOnly ∧ f = .street) ∨ (s.aisle.mode = .entryOnly ∧ f = .paid)
      ∨ s.freeSlots < s.obligations + 3 := by
  have howed : (s.namedBy f a).obligations = s.obligations := by cases f <;> rfl
  rw [State.refusesBefore_iff, howed]
  rfl

/-! ### The reservation and the key (R18, R27) -/

theorem Aisle.refuses_of_free {a : Aisle} {d : Direction} (h : a.leaf ≠ .jammed)
    (hb : ¬ (a.mode = .bidirectional ∧ a.lock ≠ .unlocked ∧ a.lock ≠ lockOf d)) (hq : (a.queues.get d).length < 3) :
    a.refuses d = none := (if_neg h).trans ((if_neg hb).trans (if_neg (Nat.not_le.mpr hq)))

theorem Aisle.refuses_of_jammed {a : Aisle} (d : Direction) (h : a.leaf = .jammed) : a.refuses d = some .aisleFault := if_pos h

theorem Aisle.refuses_of_busy {a : Aisle} {d : Direction} (h : a.leaf ≠ .jammed)
    (hb : a.mode = .bidirectional ∧ a.lock ≠ .unlocked ∧ a.lock ≠ lockOf d) : a.refuses d = some .aisleBusy :=
  (if_neg h).trans (if_pos hb)

theorem Aisle.refuses_of_full {a : Aisle} {d : Direction} (h : a.leaf ≠ .jammed)
    (hb : ¬ (a.mode = .bidirectional ∧ a.lock ≠ .unlocked ∧ a.lock ≠ lockOf d)) (hq : 3 ≤ (a.queues.get d).length) :
    a.refuses d = some .queueFull := (if_neg h).trans ((if_neg hb).trans (if_pos hq))

/-- The lock of a face's direction, as the statements write it. -/
theorem lockOf_direction (f : Face) : lockOf f.direction = match f with
    | .street => .entry
    | .paid => .exit := by cases f <;> rfl

/-- The part with the card admitted, its place not yet asked for. -/
def State.admittedBy (s : State) (f : Face) (a : NameAnswer) : State := { (Claims.heard s f) with
  contexts := s.contexts.set f { s.context f with name := some a, state := .admitted } }

theorem State.admitCard_of_refused {s : State} {f : Face} {a : NameAnswer} {r : Reason} (h : s.aisle.refuses f.direction = some r) :
    (s.namedBy f a).admitCard f a = (s.admittedBy f a).endRefused f r := by
  have hadmitted : (s.namedBy f a).setContext f { (s.namedBy f a).context f with state := .admitted } = s.admittedBy f a := by
    cases f <;> rfl
  have hrefuses : (s.admittedBy f a).aisle.refuses f.direction = some r := h
  rw [State.admitCard]
  dsimp only
  rw [hadmitted, hrefuses]

theorem State.admitCard_of_reserved {s : State} {f : Face} {a : NameAnswer} (h : s.aisle.refuses f.direction = none) :
    (s.namedBy f a).admitCard f a = ((s.admittedBy f a).reserve f).nameChecks f a := by
  have hadmitted : (s.namedBy f a).setContext f { (s.namedBy f a).context f with state := .admitted } = s.admittedBy f a := by
    cases f <;> rfl
  have hrefuses : (s.admittedBy f a).aisle.refuses f.direction = none := h
  rw [State.admitCard]
  dsimp only
  rw [hadmitted, hrefuses]

theorem State.nameChecks_of_unknown {s : State} {f : Face} {a : NameAnswer}
    (h : ∀ slot, s.check.keys.toList[a.generation.toNat]? = some slot → slot.state = .empty) :
    s.nameChecks f a = s.endRefused f .unknownKey := by
  unfold State.nameChecks
  split
  · rfl
  · rename_i slot hslot
    rw [h slot hslot]

theorem State.nameChecks_of_retired {s : State} {f : Face} {a : NameAnswer} {slot : KeySlot}
    (hslot : s.check.keys.toList[a.generation.toNat]? = some slot) (h : slot.state = .retired) :
    s.nameChecks f a = s.endRefused f .keyRetired := by
  unfold State.nameChecks
  simp only [hslot, h]

theorem State.nameChecks_of_active {s : State} {f : Face} {a : NameAnswer} {slot : KeySlot} {t : State} {verdict : Finding}
    (hslot : s.check.keys.toList[a.generation.toNat]? = some slot) (h : slot.state = .active)
    (hfound : (s.setContext f { s.context f with key := some slot.key }).nameEvidence f a.status = (verdict, t)) :
    s.nameChecks f a = if verdict = .refused then t.endRefused f .evidence else t.startReading f := by
  unfold State.nameChecks
  simp only [hslot, h, hfound]
  cases verdict <;> rfl

/-- The admitted card with its place RESERVED and its key copied. -/
def State.keyed (s : State) (f : Face) (a : NameAnswer) (key : Word) : State := { (Claims.heard s f) with
  contexts := s.contexts.set f
    { s.context f with state := .admitted, name := some a, key := some key, reservation := .held }
  aisle := { s.aisle with
    queues := s.aisle.queues.set f.direction
      (s.aisle.queues.get f.direction ++ [{ face := f, number := a.number, state := .reserved }])
    lock := if s.aisle.lock = .unlocked then lockOf f.direction else s.aisle.lock } }

theorem State.keyed_eq (s : State) (f : Face) (a : NameAnswer) (key : Word) :
    ((s.admittedBy f a).reserve f).setContext f { ((s.admittedBy f a).reserve f).context f with key := some key }
      = s.keyed f a key := by
  cases f <;> rfl

theorem State.keyed_context (s : State) (f : Face) (a : NameAnswer) (key : Word) : (s.keyed f a key).context f
    = { s.context f with state := .admitted, name := some a, key := some key, reservation := .held } := by
  cases f <;> rfl

/-! ### The name answer -/

/-- A name answer in NAMING that passes every check before the name checks. -/
structure Admits (s : State) (f : Face) (g : Byte) (slot : KeySlot) : Prop where
  running : s.power = .running
  asked : ∃ e, (s.face f).exchange = some e ∧ e.command = .name
  serving : (s.face f).state = .serving
  naming : (s.context f).state = .naming
  inService : s.service.state = .inService
  clock : s.service.clock.isSet = true
  entryOnly : s.aisle.mode = .entryOnly → f = .street
  exitOnly : s.aisle.mode = .exitOnly → f = .paid
  room : s.obligations + 3 ≤ s.freeSlots
  leaf : s.aisle.leaf ≠ .jammed
  lock : s.aisle.mode = .bidirectional → s.aisle.lock = .unlocked ∨ s.aisle.lock = lockOf f.direction
  queue : (s.aisle.queues.get f.direction).length < 3
  key : s.check.keys.toList[g.toNat]? = some slot
  active : slot.state = .active

theorem Admits.not_turnedAway {s : State} {f : Face} {g : Byte} {slot : KeySlot} (h : Admits s f g slot) (a : NameAnswer) :
    (s.namedBy f a).refusesBefore f ≠ true := by
  rw [Ne, State.namedBy_refusesBefore_iff h.naming]
  rintro (hc | hc | hc | ⟨hm, hf⟩ | ⟨hm, hf⟩ | hc)
  · exact absurd (h.inService.symm.trans hc) (by decide)
  · exact absurd (h.inService.symm.trans hc) (by decide)
  · exact absurd (h.clock.symm.trans hc) (by decide)
  · exact absurd ((h.exitOnly hm).symm.trans hf) (by decide)
  · exact absurd ((h.entryOnly hm).symm.trans hf) (by decide)
  · exact absurd h.room (Nat.not_le.mpr hc)

/-- What the name checks find decides: the tap ends, or FETCH is asked for. -/
theorem Admits.exec_eq {s : State} {f : Face} {g : Byte} {slot : KeySlot} (h : Admits s f g slot) (n : CardNumber) (cls : Byte)
    (st : CardStatus) {t : State} {verdict : Finding}
    (hfound : (s.keyed f { number := n, cls := cls, generation := g, status := st } slot.key).findAll f
      ((if st = .blocked then [EvidenceKind.blocked] else []) ++ (if s.hotlisted n then [EvidenceKind.hotlisted] else []))
        = (verdict, t)) :
    exec (.nameAnswer f n cls g st) s = .next (if verdict = .refused then t.endRefused f .evidence else t.startReading f) := by
  obtain ⟨e, he, hc⟩ := h.asked
  set a : NameAnswer := { number := n, cls := cls, generation := g, status := st }
  have hrefuses : s.aisle.refuses f.direction = none := Aisle.refuses_of_free h.leaf
    (fun ⟨hm, hu, hl⟩ => (h.lock hm).elim hu hl) h.queue
  rw [exec_nameAnswer_of_naming h.running he hc h.serving, if_neg (h.not_turnedAway a), State.admitCard_of_reserved hrefuses]
  refine congrArg _ (State.nameChecks_of_active (slot := slot) h.key h.active ?_)
  rw [State.keyed_eq, State.nameEvidence_eq, State.keyed_context]
  exact hfound

theorem nameAnswerAdmitsAndFetches : Claims.NameAnswerAdmitsAndFetches := by
  intro s f e n cls g slot u c d own hp he hc hs hst hin hclock hentry hexit hroom hleaf hlock hq hkey hactive hlist
  have hadmits : Admits s f g slot := ⟨hp, ⟨e, he, hc⟩, hs, hst, hin, hclock, hentry, hexit, hroom, hleaf,
    by rw [lockOf_direction]; exact hlock, hq, hkey, hactive⟩
  rw [hadmits.exec_eq n cls .active (verdict := .carryOn) (t := s.keyed f _ slot.key) (by rw [hlist]; rfl), if_neg (by decide)]
  cases f <;> rfl

theorem nameAnswerRefusals : Claims.NameAnswerRefusals := by
  intro s f e n cls g st u c hp he hc hs hst turnedAway q busy named admitted takes
  set a : NameAnswer := { number := n, cls := cls, generation := g, status := st }
  have haway := State.namedBy_refusesBefore_iff hst a
  have hexec := exec_nameAnswer_of_naming hp he hc hs n cls g st
  have hbusy : busy ↔ s.aisle.mode = .bidirectional ∧ s.aisle.lock ≠ .unlocked ∧ s.aisle.lock ≠ lockOf f.direction := by
    cases f <;> exact Iff.rfl
  have stays (ha : ¬ turnedAway) {t : State} (ht : (s.namedBy f a).admitCard f a = t) : takes t :=
    hexec.trans (congrArg _ ((if_neg (mt haway.mp ha)).trans ht))
  have reserved (ha : ¬ turnedAway) (hl : s.aisle.leaf ≠ .jammed) (hb : ¬ busy) (hq : q.length < 3) {t : State}
      (ht : ((s.admittedBy f a).reserve f).nameChecks f a = t) : takes t :=
    stays ha ((State.admitCard_of_reserved (Aisle.refuses_of_free hl (mt hbusy.mpr hb) hq)).trans ht)
  refine ⟨fun ha => ?away, fun ha hl => ?jammed, fun ha hl hb => ?busy, fun ha hl hb hq => ?full,
    fun ha hl hb hq hempty => ?unknown, fun ha hl hb hq slot hslot hretired => ?retired⟩
  case away =>
    refine hexec.trans (congrArg _ ((if_pos (haway.mpr ha)).trans ?_))
    rw [State.refuseBefore, State.conclude_eq _ f .stop .refuse (.inr (.inr rfl))]
    have hserving : ((s.namedBy f a).face f).state = .serving := by cases f <;> exact hs
    rw [faceLeft, contextLeft, if_pos hserving, if_pos hserving]
    have hoff : ((s.namedBy f a).face f).offPending = u.offPending := by cases f <;> rfl
    unfold Claims.contextAfter Claims.faceAfter
    rw [hoff]
    cases hu : u.offPending <;> cases f <;> rfl
  case jammed => exact stays ha (State.admitCard_of_refused (Aisle.refuses_of_jammed _ hl))
  case busy => exact stays ha (State.admitCard_of_refused (Aisle.refuses_of_busy hl (hbusy.mp hb)))
  case full => exact stays ha (State.admitCard_of_refused (Aisle.refuses_of_full hl (mt hbusy.mpr hb) hq))
  case unknown => exact reserved ha hl hb hq (State.nameChecks_of_unknown hempty)
  case retired => exact reserved ha hl hb hq (State.nameChecks_of_retired hslot hretired)

theorem nameChecksFindEvidence : Claims.NameChecksFindEvidence := by
  intro s f e n cls g st slot flagged u c q own hp he hc hs hst hin hclock hentry hexit hroom hleaf hlock hq hkey hactive hflag
    found h d takes reads
  set a : NameAnswer := { number := n, cls := cls, generation := g, status := st }
  set t := s.keyed f a slot.key with ht
  have hadmits : Admits s f g slot := ⟨hp, ⟨e, he, hc⟩, hs, hst, hin, hclock, hentry, hexit, hroom, hleaf,
    by rw [lockOf_direction]; exact hlock, hq, hkey, hactive⟩
  have ended {v : State} (hv : t.findAll f found = (.refused, v)) : takes (v.endRefused f .evidence) :=
    (hadmits.exec_eq n cls st hv).trans (congrArg _ (if_pos rfl))
  have reading {v : State} {verdict : Finding} (hv : t.findAll f found = (verdict, v)) (hne : verdict ≠ .refused) :
      takes (v.startReading f) := (hadmits.exec_eq n cls st hv).trans (congrArg _ (if_neg hne))
  refine ⟨fun hfound hne => ?flag, fun k rest hfound hk => ?refuse, fun k rest hfound hk => ?block⟩
  case flag =>
    have hread := reading ((congrArg (t.findAll f) hfound).trans (t.findAll_of_flagged f hne hflag)) (by decide)
    have heq : (t.flagging f flagged).startReading f = reads h d := by cases f <;> rfl
    exact heq ▸ hread
  case refuse =>
    have hkind : k ≠ .concurrent := by
      intro hk
      have hmem : k ∈ found := hfound ▸ List.mem_append_right _ List.mem_cons_self
      rw [hk] at hmem
      simp only [found, List.mem_append] at hmem
      rcases hmem with hmem | hmem
      · split at hmem <;> simp at hmem
      · split at hmem <;> simp at hmem
    have hend := ended ((congrArg (t.findAll f) hfound).trans (t.findAll_of_refuse f hflag hk rest))
    rw [if_neg hkind] at hend
    have heq : ({ t.refusing f flagged k with ring := t.ring } : State)
        = { h with contexts := s.contexts.set f { d with refusing := some k } } := by cases f <;> rfl
    exact heq ▸ hend
  case block =>
    intro v
    have hturn := (congrArg (t.findAll f) hfound).trans
      ((t.findAll_of_refuseAndBlock f hflag hk rest).trans (t.turnToBlock_of_refusing f flagged k))
    have hv : (t.refusing f flagged k).blocked (t.context f).number k = v := by cases f <;> rfl
    have hn : (t.context f).number = n := by cases f <;> rfl
    rw [hv, hn] at hturn
    refine ⟨fun hlisted => ?_, fun hlisted => ?_⟩
    · exact ended (hturn.trans (if_neg (by rw [hlisted]; decide)))
    · have hread := reading (hturn.trans (if_pos hlisted)) (by decide)
      have heq : (v.setContext f { t.context f with
          flagged := (t.context f).flagged ++ flagged, refusing := some k, blockPath := true }).startReading f
          = reads v { d with refusing := some k, blockPath := true } := by cases f <;> rfl
      exact heq ▸ hread

/-- Settles O29: the tests before admission, the reservation and the key, then the name checks one kind after the other. -/
theorem nameAnswersAreAdmittedOrRefused : Obligations.NameAnswersAreAdmittedOrRefused :=
  ⟨nameAnswerAdmitsAndFetches, nameAnswerRefusals, nameChecksFindEvidence⟩

end Sys2Proof.Machine
end

section
/-! SUPPORT. The sighting checks: the kinds that each test finds, and what the policies make of them at the proof answer. -/

namespace Sys2Proof.Machine

-- One declaration at a time: each waiting elaboration thread counts against the memory limit of the one text.
set_option Elab.async false

/-! ### The tests (R109, R110) -/

theorem counterTest_eq_replay_iff (c : CardImage) (x : Sighting) :
    counterTest c x = some .replay ↔ c.counter.toNat < x.counter.toNat := by
  unfold counterTest
  split
  · simp_all
  · split <;> simp_all

theorem counterTest_eq_divergent_iff (c : CardImage) (x : Sighting) :
    counterTest c x = some .divergent ↔ c.counter = x.counter ∧ c.chain ≠ x.chain := by
  unfold counterTest
  split
  · rename_i hlt
    have hne : c.counter ≠ x.counter := fun h => by simp [h] at hlt
    simp [hne]
  · split <;> simp_all

theorem counterTest_cases (c : CardImage) (x : Sighting) :
    counterTest c x = none ∨ counterTest c x = some .replay ∨ counterTest c x = some .divergent := by
  unfold counterTest
  split
  · exact .inr (.inl rfl)
  · split
    · exact .inr (.inr rfl)
    · exact .inl rfl

theorem State.travelTest_eq (s : State) (c : CardImage) (x : Sighting) : s.travelTest c x =
    if x.counter.toNat < c.counter.toNat ∧ x.station ≠ s.station ∧ s.service.clock.isSet = true
      ∧ 0 ≤ ((s.today.toNat : Int) - x.day.toNat) * 1440 + ((s.minuteNow.toNat : Int) - x.minute.toNat)
      ∧ ((s.today.toNat : Int) - x.day.toNat) * 1440 + ((s.minuteNow.toNat : Int) - x.minute.toNat)
        < s.fare.minimumTravel x.station s.station
    then some .impossible else none := by
  unfold State.travelTest
  dsimp only
  split
  · rename_i h
    exact if_congr ⟨fun g => ⟨h.1, h.2.1, h.2.2, g⟩, fun g => g.2.2.2⟩ rfl rfl
  · rename_i h
    exact (if_neg fun g => h ⟨g.1, g.2.1, g.2.2.1⟩).symm

/-! ### The kinds found (R108) -/

theorem State.sightingFindings_of_entry {s : State} {f : Face} {e : SightingEntry} (img : CardImage)
    (hnodup : (s.sightings.map (·.number)).Nodup) (he : e ∈ s.sightings) (hn : e.number = (s.context f).number)
    (hholds : (s.context f).holdsEntry = true) : s.sightingFindings f img =
      (e.sighting.bind (counterTest img)).toList ++ (if e.contestNote.isSome then [EvidenceKind.concurrent] else [])
        ++ (e.sighting.bind (s.travelTest img)).toList := by
  rw [State.sightingFindings, if_pos hholds, ← hn, findSighting_of_mem hnodup he]

theorem State.sightingFindings_of_none {s : State} {f : Face} (img : CardImage)
    (h : (s.context f).holdsEntry = false ∨ ∀ e ∈ s.sightings, e.number ≠ (s.context f).number) : s.sightingFindings f img = [] := by
  unfold State.sightingFindings
  rcases h with h | h
  · rw [h]
    rfl
  · rw [findSighting_of_absent h]
    exact ite_self _

/-- What the counter test, the contest note and the travel test give stands in the order of R108. -/
theorem findings_sublist (x y : Option EvidenceKind) (b : Bool) (hx : x = none ∨ x = some .replay ∨ x = some .divergent)
    (hy : y = none ∨ y = some .impossible) :
    (x.toList ++ (if b then [EvidenceKind.concurrent] else []) ++ y.toList).Sublist [.replay, .divergent, .concurrent, .impossible] := by
  rcases hx with rfl | rfl | rfl <;> rcases hy with rfl | rfl <;> cases b <;> decide

theorem sightingTestsFindTheirKinds : Claims.SightingTestsFindTheirKinds := by
  refine ⟨fun s f img e hnodup he hn hholds => ?_, fun s f img h => State.sightingFindings_of_none img h⟩
  intro found minutes
  have hfound : found = _ := State.sightingFindings_of_entry img hnodup he hn hholds
  have hcounter : e.sighting.bind (counterTest img) = none ∨ e.sighting.bind (counterTest img) = some .replay
      ∨ e.sighting.bind (counterTest img) = some .divergent := by
    cases e.sighting with
    | none => exact .inl rfl
    | some x => exact counterTest_cases img x
  have htravel : e.sighting.bind (s.travelTest img) = none ∨ e.sighting.bind (s.travelTest img) = some .impossible := by
    cases e.sighting with
    | none => exact .inl rfl
    | some x =>
      change s.travelTest img x = none ∨ s.travelTest img x = some .impossible
      rw [State.travelTest_eq]
      split
      · exact .inr rfl
      · exact .inl rfl
  have hnote (k : EvidenceKind) : k ∈ (if e.contestNote.isSome then [EvidenceKind.concurrent] else [])
      ↔ k = .concurrent ∧ e.contestNote ≠ none := by
    cases e.contestNote <;> simp
  have hmem (k : EvidenceKind) : k ∈ found ↔ e.sighting.bind (counterTest img) = some k ∨ (k = .concurrent ∧ e.contestNote ≠ none)
      ∨ e.sighting.bind (s.travelTest img) = some k := by
    rw [hfound, List.mem_append, List.mem_append, Option.mem_toList, Option.mem_toList, hnote, or_assoc]
  have hcounterNot {k : EvidenceKind} (hr : k ≠ .replay) (hd : k ≠ .divergent) : e.sighting.bind (counterTest img) ≠ some k := by
    intro h
    rcases hcounter with hc | hc | hc <;> rw [h] at hc <;> cases hc <;> contradiction
  have htravelNot {k : EvidenceKind} (hi : k ≠ .impossible) : e.sighting.bind (s.travelTest img) ≠ some k := by
    intro h
    rcases htravel with hc | hc <;> rw [h] at hc <;> cases hc
    contradiction
  have hlaterNot {k : EvidenceKind} (hc : k ≠ .concurrent) (hi : k ≠ .impossible) : ¬ ((k = .concurrent ∧ e.contestNote ≠ none)
      ∨ e.sighting.bind (s.travelTest img) = some k) := fun h => h.elim (fun h => hc h.1) (htravelNot hi)
  refine ⟨?replay, ?divergent, ?concurrent, ?impossible, ?order⟩
  case replay =>
    rw [hmem, or_iff_left (hlaterNot (by decide) (by decide)), Option.bind_eq_some_iff]
    simp only [counterTest_eq_replay_iff]
  case divergent =>
    rw [hmem, or_iff_left (hlaterNot (by decide) (by decide)), Option.bind_eq_some_iff]
    simp only [counterTest_eq_divergent_iff]
  case concurrent =>
    rw [hmem, or_iff_right (hcounterNot (by decide) (by decide)), or_iff_left (htravelNot (by decide)), eq_self, true_and]
  case impossible =>
    rw [hmem, or_iff_right (hcounterNot (by decide) (by decide)), or_iff_right (fun h => nomatch h.1), Option.bind_eq_some_iff]
    have himpossible (x : Sighting) : s.travelTest img x = some .impossible ↔ x.counter.toNat < img.counter.toNat
        ∧ x.station ≠ s.station ∧ s.service.clock.isSet = true ∧ 0 ≤ minutes x
        ∧ minutes x < s.fare.minimumTravel x.station s.station := by
      rw [State.travelTest_eq]
      split
      · rename_i h
        exact iff_of_true rfl h
      · rename_i h
        exact iff_of_false nofun h
    simp only [himpossible]
  case order =>
    rw [hfound]
    exact findings_sublist _ _ _ hcounter htravel

/-! ### What the policies make of them (R28, R33, R37, R46, R111) -/

theorem State.checkSightings_of_refused {s t : State} {f : Face} {c : CardImage}
    (h : s.findAll f (s.sightingFindings f c) = (.refused, t)) : s.checkSightings f c = t.endRefused f .evidence := by
  rw [State.checkSightings, h]

theorem State.checkSightings_of_block {s t : State} {f : Face} {c : CardImage}
    (h : s.findAll f (s.sightingFindings f c) = (.block, t)) : s.checkSightings f c = t.blockStage f := by
  rw [State.checkSightings, h]

theorem State.checkSightings_of_carryOn {s t : State} {f : Face} {c : CardImage}
    (h : s.findAll f (s.sightingFindings f c) = (.carryOn, t)) : s.checkSightings f c = t.sendHold f c.counter := by
  rw [State.checkSightings, h]

theorem sightingFindingsFollowTheirPolicies : Claims.SightingFindingsFollowTheirPolicies := by
  intro s f img v proof flagged c hw hname himg hproof hb hflag raised h d takes sends
  set t := Claims.heard s f with ht
  have hmatched : t.proofMatched f = t.checkSightings f img := by
    have hcontext : t.context f = c := rfl
    simp only [State.proofMatched, hcontext, hb, himg]
    rfl
  have checked {u : State} (hu : t.checkSightings f img = u) : takes u :=
    (exec_proofAnswer_of_waits proof hw).trans (congrArg _ ((if_pos hproof).trans (hmatched.trans hu)))
  have hfindings : t.sightingFindings f img = s.sightingFindings f img := rfl
  have hholding : Claims.holding (t.flagging f flagged) f ((t.flagging f flagged).context f) img.counter
      = Claims.holding h f d img.counter := by cases f <;> rfl
  have hflagged (hfound : s.sightingFindings f img = flagged) (hne : flagged ≠ []) :
      t.checkSightings f img = (t.flagging f flagged).sendHold f img.counter :=
    State.checkSightings_of_carryOn ((congrArg (t.findAll f) (hfindings.trans hfound)).trans (t.findAll_of_flagged f hne hflag))
  refine ⟨fun hfound hne hup hroom => ?hold, fun hfound hne hbypass => ?bypass, fun k rest hfound hk => ?refuse,
    fun k rest hfound hk => ?block⟩
  case hold =>
    exact checked ((hflagged hfound hne).trans ((State.sendHold_of_room (s := t.flagging f flagged) f _ hup hroom).trans hholding))
  case bypass =>
    refine checked ((hflagged hfound hne).trans ((State.sendHold_of_bypass (s := t.flagging f flagged) f _ hbypass).trans ?_))
    refine congrArg (State.deciding · f) ?_
    cases f <;> rfl
  case refuse =>
    refine checked ((State.checkSightings_of_refused ((congrArg (t.findAll f) (hfindings.trans hfound)).trans
      (t.findAll_of_refuse f hflag hk rest))).trans ?_)
    refine congrArg (State.endRefused · f .evidence) ?_
    cases f <;> rfl
  case block =>
    intro u
    have hturn := (congrArg (t.findAll f) (hfindings.trans hfound)).trans
      ((t.findAll_of_refuseAndBlock f hflag hk rest).trans (t.turnToBlock_of_refusing f flagged k))
    have hu : (t.refusing f flagged k).blocked (t.context f).number k = u := by cases f <;> rfl
    have hcontext : t.context f = c := rfl
    rw [hu, hcontext] at hturn
    set b : Context := { d with refusing := some k, blockPath := true }
    have hlisted (hl : u.hotlist.listed c.number = true) :
        t.checkSightings f img = (u.setContext f b).stagePoint f { Claims.rewritten s img img.balance with status := .blocked } :=
      (State.checkSightings_of_block (hturn.trans (if_pos hl))).trans (State.blockStage_of_image (img := img)
        (by rw [State.setContext_context]; exact himg))
    refine ⟨fun hl => ?_, fun hl hin => ?_, fun hl hclosed => ?_⟩
    · exact checked (State.checkSightings_of_refused (hturn.trans (if_neg (by rw [hl]; decide))))
    · refine checked ((hlisted hl).trans ((State.stagePoint_of_inService f _ (by exact hin)).trans ?_))
      cases f <;> rfl
    · have hout : (u.setContext f b).service.state ≠ .inService := fun hin => by
        have : s.service.state = .inService := hin
        rw [hclosed] at this
        cases this
      refine checked ((hlisted hl).trans ((State.stagePoint_of_blockPath_of_not_inService _
        (by rw [State.setContext_context]) hout).trans (congrArg (State.endRefused · f .evidence) ?_)))
      cases f <;> rfl

/-- Settles O33: each test with what it finds, then the kinds found one after the other. -/
theorem sightingChecksFollowTheirPolicies : Obligations.SightingChecksFollowTheirPolicies :=
  ⟨sightingTestsFindTheirKinds, sightingFindingsFollowTheirPolicies⟩

end Sys2Proof.Machine
end

section
/-! SUPPORT. DECIDING: the claims of others, the charge, the watch unit's answer and the image to be staged. -/

namespace Sys2Proof.Machine

-- One declaration at a time: each waiting elaboration thread counts against the memory limit of the one text.
set_option Elab.async false

/-! ### The claims of others (R36, R113) -/

/-- The context of a tap in DECIDING, its claims taken. -/
def Context.deciding (c : Context) : Context := { c with state := .deciding, ringTimer := none, contested := false, notes := [] }

/-- Claims that no CONCURRENT was flagged for before. -/
theorem Context.claimed_iff (c : Context) : (c.claimed = true ∧ c.flagged.contains .concurrent = false)
    ↔ (c.contested = true ∨ c.notes ≠ []) ∧ .concurrent ∉ c.flagged := by
  have hnotes : (!c.notes.isEmpty) = true ↔ c.notes ≠ [] := by cases c.notes <;> simp
  rw [Context.claimed, Bool.or_eq_true, hnotes, List.contains_eq_mem, decide_eq_false_iff_not]

theorem State.takeClaims_of_none {s : State} {f : Face}
    (h : ¬ (((s.context f).contested = true ∨ (s.context f).notes ≠ []) ∧ .concurrent ∉ (s.context f).flagged)) :
    s.takeClaims f = (.carryOn, s.setContext f (s.context f).deciding) := if_neg (mt (Context.claimed_iff _).mp h)

theorem State.takeClaims_of_claimed {s : State} {f : Face}
    (h : ((s.context f).contested = true ∨ (s.context f).notes ≠ []) ∧ .concurrent ∉ (s.context f).flagged) :
    s.takeClaims f = (s.setContext f (s.context f).deciding).findEvidence f .concurrent := if_pos ((Context.claimed_iff _).mpr h)

/-! ### The charge and the watch unit (R36, R135 to R138) -/

theorem State.charge_of_unset {s : State} {f : Face} {c : CardImage} (h : s.service.clock.isSet = false) :
    s.charge f c = s.endRefused f .noTime := if_pos h

theorem State.charge_of_refused {s : State} {f : Face} {c : CardImage} {r : Reason} (h : s.service.clock.isSet = true)
    (hr : fareRequest s.fare s.fareClock f c = .error r) : s.charge f c = s.endRefused f r := by
  rw [State.charge, if_neg (by rw [h]; decide), hr]

theorem State.charge_of_detained {s t : State} {f : Face} {c : CardImage} {x : FareResult} (h : s.service.clock.isSet = true)
    (hx : fareRequest s.fare s.fareClock f c = .ok x)
    (hw : (s.setContext f { s.context f with fare := some x }).evaluateWatch f (watchValues f c x) = (.detain, t)) :
    s.charge f c = t.endRefused f .watchDetain := by
  rw [State.charge, if_neg (by rw [h]; decide), hx]
  dsimp only
  rw [hw]

theorem State.charge_of_proceeding {s t : State} {f : Face} {c : CardImage} {x : FareResult} (h : s.service.clock.isSet = true)
    (hx : fareRequest s.fare s.fareClock f c = .ok x)
    (hw : (s.setContext f { s.context f with fare := some x }).evaluateWatch f (watchValues f c x) = (.proceed, t)) :
    s.charge f c = t.stagePoint f (t.fareImage c x) := by
  rw [State.charge, if_neg (by rw [h]; decide), hx]
  dsimp only
  rw [hw]

theorem State.evaluateWatch_of_no_match {s : State} {f : Face} {v : WatchValues} (h : effectiveMatch s.watch v = false) :
    s.evaluateWatch f v = (.proceed, s) := if_neg (by rw [h]; decide)

theorem State.evaluateWatch_of_countdown {s : State} {f : Face} {v : WatchValues} (h : effectiveMatch s.watch v = true)
    (hc : s.watch.countdown ≠ 0) :
    s.evaluateWatch f v = (.proceed, { s with watch := { s.watch with countdown := s.watch.countdown - 1 } }) :=
  (if_pos h).trans (if_pos hc)

/-- The part after the watch unit has fired: WATCH attention, the status with this transaction or with its more mark, the matched units
in the context. -/
def State.fired (s : State) (f : Face) (v : WatchValues) : State :=
  (({ s with watch := { s.watch with status := fillStatus s.watch.status v (matchedUnits s.watch.units.toList v) } } : State).raise
    .watch).setContext f { s.context f with watchUnits := some (matchedUnits s.watch.units.toList v) }

theorem State.evaluateWatch_of_detain {s : State} {f : Face} {v : WatchValues} (h : effectiveMatch s.watch v = true)
    (hc : s.watch.countdown = 0) (ha : s.watch.action = .detain) : s.evaluateWatch f v = (.detain, s.fired f v) := by
  rw [State.evaluateWatch, if_pos h, if_neg (not_not.mpr hc)]
  dsimp only
  split
  · rename_i hother
    exact absurd (ha.symm.trans hother) (by decide)
  · rfl
  · rename_i hother
    exact absurd (ha.symm.trans hother) (by decide)

theorem State.evaluateWatch_of_report {s : State} {f : Face} {v : WatchValues} (h : effectiveMatch s.watch v = true)
    (hc : s.watch.countdown = 0) (ha : s.watch.action = .report) : s.evaluateWatch f v = (.proceed, s.fired f v) := by
  rw [State.evaluateWatch, if_pos h, if_neg (not_not.mpr hc)]
  dsimp only
  split
  · rfl
  · rename_i hother
    exact absurd (ha.symm.trans hother) (by decide)
  · rename_i hother
    exact absurd (ha.symm.trans hother) (by decide)

theorem State.evaluateWatch_of_alarm {s : State} {f : Face} {v : WatchValues} (h : effectiveMatch s.watch v = true)
    (hc : s.watch.countdown = 0) (ha : s.watch.action = .alarm) :
    s.evaluateWatch f v = (.proceed, (s.fired f v).startWatchAlarm) := by
  rw [State.evaluateWatch, if_pos h, if_neg (not_not.mpr hc)]
  dsimp only
  split
  · rename_i hother
    exact absurd (ha.symm.trans hother) (by decide)
  · rename_i hother
    exact absurd (ha.symm.trans hother) (by decide)
  · rfl

theorem fillStatus_eq (st : Option WatchStatus) (v : WatchValues) (m : Byte) : fillStatus st v m = some (match st with
    | none => { number := v.number, face := v.face, units := m, sequence := none, more := false }
    | some y => { y with more := true }) := by cases st <;> rfl

/-! ### The STAGE point of a fare write (R16, R37) -/

theorem State.fareImage_eq (s : State) (img : CardImage) (x : FareResult) : s.fareImage img x =
    { Claims.rewritten s img x.balanceAfter with
      balance := x.balanceAfter
      spendDay := match x.dayRecord with
        | some d => d.1
        | none => img.spendDay
      daySpend := match x.dayRecord with
        | some d => d.2
        | none => img.daySpend
      entry := x.entry
      history := match x.journey with
        | some j => (j :: img.history).take 3
        | none => img.history } := by
  obtain ⟨fare, balance, day, entry, journey, station⟩ := x
  cases day <;> cases journey <;> rfl

theorem State.stagePoint_of_closed {s : State} {f : Face} (w : CardImage) (hb : (s.context f).blockPath = false)
    (h : s.service.state = .closed) : s.stagePoint f w = s.endRefused f .closed := by
  rw [State.stagePoint, if_neg (by rw [h]; decide), State.endFailed, hb]
  rfl

/-! ### DECIDING -/

/-- Settles O34: the claims of others, the charge, the watch unit and the STAGE point, one after the other. -/
theorem decidingStopsAtTheFirstRefusal : Obligations.DecidingStopsAtTheFirstRefusal := by
  intro s f img c himg hb d claimed ends asked values matched image
  have hdeciding : (s.setContext f d).context f = d := State.setContext_context ..
  -- A tap without claims is charged in DECIDING.
  have charged (h : ¬ claimed) : s.deciding f = (s.setContext f d).charge f img :=
    State.deciding_of_carryOn (State.takeClaims_of_none h) himg
  have priced (x : FareResult) : (s.setContext f d).setContext f { (s.setContext f d).context f with fare := some x }
      = s.setContext f { d with fare := some x } := by
    rw [hdeciding, State.setContext_setContext]
  have watched {x : FareResult} (h : ¬ claimed) (hset : s.service.clock.isSet = true) (hx : asked = .ok x) {t : State}
      (hw : (s.setContext f { d with fare := some x }).evaluateWatch f (values x) = (.proceed, t)) :
      s.deciding f = t.stagePoint f (t.fareImage img x) :=
    (charged h).trans (State.charge_of_proceeding hset hx (by rw [priced]; exact hw))
  -- The STAGE point in each service state, for a part that differs from `s` where the image does not look.
  have stages (t u : State) (e : Context) (x : FareResult) (hplace : t.setup = s.setup) (hservice : t.service.state = s.service.state)
      (hcontext : (t.context f).blockPath = false) (htu : Claims.staged t f (t.context f) (image x) = Claims.staged u f e (image x))
      (hend : t = { u with contexts := s.contexts.set f e }) (hd : s.deciding f = t.stagePoint f (t.fareImage img x)) :
      (s.service.state = .inService → s.deciding f = Claims.staged u f e (image x))
      ∧ (s.service.state = .closed → s.deciding f = ({ u with contexts := s.contexts.set f e } : State).endRefused f .closed) := by
    have himage : t.fareImage img x = image x := by
      have hwritten : Claims.rewritten t img x.balanceAfter = Claims.rewritten s img x.balanceAfter := by
        simp only [Claims.rewritten, State.station, State.gate, hplace]
      have hbuilt := State.fareImage_eq t img x
      rw [hwritten] at hbuilt
      exact hbuilt
    rw [himage] at hd
    refine ⟨fun hin => ?_, fun hclosed => ?_⟩
    · rw [hd, State.stagePoint_of_inService f _ (hservice.trans hin), htu]
    · rw [hd, State.stagePoint_of_closed _ hcontext (hservice.trans hclosed), ← hend]
  refine ⟨fun x => ⟨rfl, rfl, rfl, rfl, rfl, ?values⟩, fun h hk => ?refused, fun h hk => ?flagged, fun h hk => ?block,
    fun h hset => (charged h).trans (State.charge_of_unset hset), fun h hset r hr => (charged h).trans (State.charge_of_refused hset hr),
    fun h hset x hx hm => ?unmatched, fun h hset x hx hm hc => ?counted, fun h hset x hx hm hc => ?fired⟩
  case values => cases hx : x.entryStation <;> simp [values, WatchValues.value, hx]
  case refused =>
    have hfound := State.findEvidence_of_refuse (s := s.setContext f d) f (k := .concurrent) hk
    rw [State.deciding_of_refused ((State.takeClaims_of_claimed h).trans hfound)]
    refine congrArg (State.endRefused · f .evidence) ?_
    cases f <;> rfl
  case flagged =>
    set t : State := { s with
      contexts := s.contexts.set f { c with contested := false, notes := [], flagged := c.flagged ++ [.concurrent] }
      service := { s.service with flags := s.service.flags.raise .clone } } with ht
    have hcontext : t.context f = { c with contested := false, notes := [], flagged := c.flagged ++ [.concurrent] } :=
      State.setContext_context s f _
    have hfound := State.findEvidence_of_flag (s := s.setContext f d) f (k := .concurrent) (by exact hk)
    have hnone : ¬ (((t.context f).contested = true ∨ (t.context f).notes ≠ []) ∧ .concurrent ∉ (t.context f).flagged) := by
      rw [hcontext]
      simp
    have himg' : (t.context f).image = some img := by
      rw [hcontext]
      exact himg
    rw [State.deciding_of_carryOn ((State.takeClaims_of_claimed h).trans hfound) himg,
      State.deciding_of_carryOn (State.takeClaims_of_none hnone) himg']
    refine congrArg (State.charge · f img) ?_
    cases f <;> rfl
  case block =>
    intro b u blocking
    have hturn := (State.takeClaims_of_claimed h).trans ((State.findEvidence_of_refuseAndBlock (s := s.setContext f d) f (by exact hk)).trans
      ((s.setContext f d).turnToBlock_of_refusing f [] .concurrent))
    have hu : ((s.setContext f d).refusing f [] .concurrent).blocked ((s.setContext f d).context f).number .concurrent = u := by
      rw [← State.refusing_nil]
      cases f <;> rfl
    have hn : ((s.setContext f d).context f).number = c.number := by rw [hdeciding]; rfl
    rw [hu, hn, hdeciding, List.append_nil] at hturn
    have hset : u.setContext f { b with blockPath := true } = blocking := by cases f <;> rfl
    have hlisted (hl : u.hotlist.listed c.number = true) :
        s.deciding f = blocking.stagePoint f { Claims.rewritten s img img.balance with status := .blocked } := by
      rw [State.deciding_of_block (hturn.trans (if_pos hl))]
      refine (State.blockStage_of_image (img := img) (by rw [State.setContext_context]; exact himg)).trans ?_
      rw [← hset]
      rfl
    refine ⟨fun hl => State.deciding_of_refused (hturn.trans (if_neg (by rw [hl]; decide))), fun hl hclosed => ?_, fun hl hin => ?_⟩
    · refine (hlisted hl).trans (State.stagePoint_of_blockPath_of_not_inService _ ?_ ?_)
      · rw [← hset, State.setContext_context]
      · intro hin
        have : s.service.state = .inService := hin
        rw [hclosed] at this
        cases this
    · refine (hlisted hl).trans ((State.stagePoint_of_inService f _ (by exact hin)).trans ?_)
      cases f <;> rfl
  case unmatched =>
    refine stages (s.setContext f { d with fare := some x }) s { d with fare := some x } x rfl rfl ?_ ?_ rfl
      (watched h hset hx (State.evaluateWatch_of_no_match hm))
    · rw [State.setContext_context]
      exact hb
    · cases f <;> rfl
  case counted =>
    intro counted
    refine stages { s.setContext f { d with fare := some x } with watch := { s.watch with countdown := s.watch.countdown - 1 } }
      counted { d with fare := some x } x rfl rfl ?_ ?_ rfl (watched h hset hx (State.evaluateWatch_of_countdown hm hc))
    · cases f <;> exact hb
    · cases f <;> rfl
  case fired =>
    intro e fired stages'
    have hfires : (s.setContext f { d with fare := some x }).fired f (values x) = { fired with contexts := s.contexts.set f e } := by
      unfold State.fired
      rw [fillStatus_eq]
      cases f <;> rfl
    have hcontext : (({ fired with contexts := s.contexts.set f e } : State).context f) = e := State.setContext_context s f _
    refine ⟨fun ha => ?_, fun ha => ?_, fun ha => ?_⟩
    · refine (charged h).trans ((State.charge_of_detained (s := s.setContext f d) hset hx ?_).trans
        (congrArg (State.endRefused · f .watchDetain) hfires))
      rw [priced]
      exact State.evaluateWatch_of_detain hm hc ha
    · refine stages { fired with contexts := s.contexts.set f e } fired e x rfl rfl (by rw [hcontext]; exact hb) ?_ rfl
        ((watched h hset hx (State.evaluateWatch_of_report hm hc ha)).trans (by rw [hfires]))
      rw [hcontext]
      cases f <;> rfl
    · refine stages (({ fired with contexts := s.contexts.set f e } : State).startWatchAlarm) _ e x rfl rfl
        (by exact (congrArg Context.blockPath hcontext).trans hb) ?_ rfl
        ((watched h hset hx (State.evaluateWatch_of_alarm hm hc ha)).trans (by rw [hfires]))
      cases f <;> rfl

end Sys2Proof.Machine
end

section
/-! SUPPORT. READY and STALE: the tear table asked for a PENDING entry, the entry that gives way, and the commit. -/

namespace Sys2Proof.Machine

-- One declaration at a time: each waiting elaboration thread counts against the memory limit of the one text.
set_option Elab.async false

/-! ### The TORN entry that gives way (R52) -/

theorem foldl_max_ge {α : Type} (g : α → Nat) (l : List α) (m : Nat) :
    m ≤ l.foldl (fun m e => max m (g e)) m ∧ ∀ e ∈ l, g e ≤ l.foldl (fun m e => max m (g e)) m := by
  induction l generalizing m with
  | nil => exact ⟨le_rfl, nofun⟩
  | cons x xs ih =>
    obtain ⟨hstart, hrest⟩ := ih (max m (g x))
    refine ⟨(le_max_left _ _).trans hstart, fun e he => ?_⟩
    rcases List.mem_cons.mp he with rfl | he
    · exact (le_max_right _ _).trans hstart
    · exact hrest e he

theorem foldl_max_attained {α : Type} (g : α → Nat) (l : List α) (m : Nat) :
    l.foldl (fun m e => max m (g e)) m = m ∨ ∃ e ∈ l, g e = l.foldl (fun m e => max m (g e)) m := by
  induction l generalizing m with
  | nil => exact .inl rfl
  | cons x xs ih =>
    rcases ih (max m (g x)) with h | ⟨e, he, h⟩
    · rcases max_choice m (g x) with hm | hm
      · exact .inl (h.trans hm)
      · exact .inr ⟨x, List.mem_cons_self, (h.trans hm).symm⟩
    · exact .inr ⟨e, List.mem_cons_of_mem _ he, h⟩

theorem TearEntry.age_of_torn {e : TearEntry} {start q : Word} (h : e.state = .torn start q) (now : Word) :
    e.age now = some (now - start).toNat := by
  rw [TearEntry.age, h]

theorem TearEntry.torn_of_age {e : TearEntry} {now : Word} {n : Nat} (h : e.age now = some n) :
    ∃ start q, e.state = .torn start q ∧ (now - start).toNat = n := by
  unfold TearEntry.age at h
  split at h
  · rename_i start q hs
    exact ⟨start, q, hs, Option.some.inj h⟩
  · cases h

/-- The oldest windows are TORN entries of the table that no other TORN entry is older than. -/
theorem oldestTears_spec {now : Word} {l : List TearEntry} {x : TearEntry} (h : x ∈ oldestTears now l) :
    x ∈ l ∧ ∃ start q, x.state = .torn start q
      ∧ ∀ y ∈ l, ∀ start' q', y.state = .torn start' q' → (now - start').toNat ≤ (now - start).toNat := by
  obtain ⟨hx, hage⟩ := List.mem_filter.mp h
  obtain ⟨start, q, hs, htop⟩ := TearEntry.torn_of_age (of_decide_eq_true hage)
  refine ⟨hx, start, q, hs, fun y hy start' q' hy' => ?_⟩
  have hle := (foldl_max_ge (fun e : TearEntry => (e.age now).getD 0) l 0).2 y hy
  rw [TearEntry.age_of_torn hy', Option.getD_some] at hle
  rw [htop]
  exact hle

theorem oldestTears_ne_nil {now : Word} {l : List TearEntry} {x : TearEntry} (hx : x ∈ l) (hs : x.state ≠ .pending) :
    oldestTears now l ≠ [] := by
  have top (y : TearEntry) (hy : y ∈ l) (hage : y.age now = some (l.foldl (fun m e => max m ((e.age now).getD 0)) 0)) :
      oldestTears now l ≠ [] := List.ne_nil_of_mem (List.mem_filter.mpr ⟨hy, decide_eq_true hage⟩)
  have hge := (foldl_max_ge (fun e : TearEntry => (e.age now).getD 0) l 0).2
  rcases foldl_max_attained (fun e : TearEntry => (e.age now).getD 0) l 0 with hzero | ⟨y, hy, hattained⟩
  · cases hstate : x.state with
    | pending => exact absurd hstate hs
    | torn start q =>
      have hage := TearEntry.age_of_torn hstate now
      have hle := hge x hx
      rw [hage, Option.getD_some, hzero] at hle
      exact top x hx (by rw [hage, hzero, Nat.le_zero.mp hle])
  · by_cases hnone : y.age now = none
    · rw [hnone] at hattained
      cases hstate : x.state with
      | pending => exact absurd hstate hs
      | torn start q =>
        have hage := TearEntry.age_of_torn hstate now
        have hle := hge x hx
        rw [hage, Option.getD_some, ← hattained] at hle
        exact top x hx (by rw [hage, ← hattained, Nat.le_zero.mp hle]; rfl)
    · obtain ⟨n, hn⟩ := Option.ne_none_iff_exists'.mp hnone
      exact top y hy (by rw [← hattained, hn]; rfl)

theorem State.tearVictim_of_torn {s : State} {x : TearEntry} (hx : x ∈ s.tears) (hs : x.state ≠ .pending) :
    ∃ v, s.tearVictim = some v := by
  have hlen := List.length_pos_iff.mpr (oldestTears_ne_nil (now := s.now) hx hs)
  exact ⟨_, List.getElem?_eq_getElem (Nat.mod_lt _ hlen)⟩

/-! ### The PENDING entry and the commit (R39, R51, R52) -/

/-- The part that waits for SETTLED with the PENDING entry `e`. -/
def State.settlingWith (s : State) (f : Face) (e : TearEntry) : State := { s with
  tears := s.tears ++ [e]
  contexts := s.contexts.set f { s.context f with state := .settling }
  faces := s.faces.set f { s.face f with exchange := some { command := .settle, sentAt := s.now, resent := false } } }

theorem findTear_of_absent {l : List TearEntry} {n : CardNumber} (h : ∀ x ∈ l, x.number ≠ n) : findTear l n = none :=
  List.find?_eq_none.mpr fun x hx => by simpa using h x hx

/-- A number without an entry: the table makes room and takes its PENDING entry. -/
theorem State.commit_of_absent {s : State} {f : Face} (hnone : ∀ x ∈ s.tears, x.number ≠ (s.context f).number) :
    s.commit f = s.tearRoom.settlingWith f (s.pendingTear f) := by
  have hfind : findTear s.tears (s.pendingTear f).number = none := findTear_of_absent hnone
  have hmake : s.makePending f = some { s.tearRoom with tears := s.tearRoom.tears ++ [s.pendingTear f] } := by
    rw [State.makePending]
    dsimp only
    rw [hfind]
  rw [State.commit, hmake]
  rfl

theorem State.commit_of_room {s : State} {f : Face} (hnone : ∀ x ∈ s.tears, x.number ≠ (s.context f).number)
    (hroom : s.tears.length < 16) : s.commit f = s.settlingWith f (s.pendingTear f) := by
  have htable : s.tearRoom = s := if_pos hroom
  rw [State.commit_of_absent hnone, htable]

theorem State.commit_of_torn {s : State} {f : Face} {x : TearEntry} (hnodup : (s.tears.map (·.number)).Nodup) (hx : x ∈ s.tears)
    (hn : x.number = (s.context f).number) (hs : x.state ≠ .pending) :
    s.commit f = (s.resolveTear .unresolved x none).settlingWith f (s.pendingTear f) := by
  have hfind : findTear s.tears (s.pendingTear f).number = some x := by
    rw [← findTear_of_mem hnodup hx, hn]
    rfl
  have hmake : s.makePending f = some { s.resolveTear .unresolved x none with
      tears := (s.resolveTear .unresolved x none).tears ++ [s.pendingTear f] } := by
    rw [State.makePending]
    dsimp only
    rw [hfind]
    exact if_neg hs
  rw [State.commit, hmake]
  rfl

theorem State.commit_of_full {s : State} {f : Face} {v : TearEntry} (hnone : ∀ x ∈ s.tears, x.number ≠ (s.context f).number)
    (hfull : s.tears.length = 16) (hv : s.tearVictim = some v) :
    s.commit f = (((s.drew 1).resolveTear .unresolved v none).raise .tear).settlingWith f (s.pendingTear f) := by
  have hroom : s.tearRoom = ((s.drew 1).resolveTear .unresolved v none).raise .tear := by
    rw [State.tearRoom, if_neg (by rw [hfull]; decide), hv]
  rw [State.commit_of_absent hnone, hroom]

/-- The table refuses while an entry for the number is PENDING. -/
theorem State.makePending_of_pending {s : State} {f : Face} (hown : ∃ x ∈ s.tears, x.number = (s.context f).number)
    (hpending : ∀ x ∈ s.tears, x.number = (s.context f).number → x.state = .pending) : s.makePending f = none := by
  obtain ⟨x, hx, hn⟩ := hown
  have hsome : (findTear s.tears (s.context f).number).isSome := List.find?_isSome.mpr ⟨x, hx, by simpa using hn⟩
  obtain ⟨old, hold⟩ := Option.isSome_iff_exists.mp hsome
  have hfind : findTear s.tears (s.pendingTear f).number = some old := hold
  rw [State.makePending]
  dsimp only
  rw [hfind]
  exact if_pos (hpending old (mem_of_findTear hold) (findTear_number hold))

theorem State.commit_of_pending {s : State} {f : Face} (h : s.makePending f = none) (hb : (s.context f).blockPath = false) :
    s.commit f = ((s.raise .clone).setContext f { s.context f with refusing := some .concurrent }).endRefused f .evidence := by
  rw [State.commit, h]
  exact if_neg (by rw [hb]; decide)

theorem State.commit_of_pending_of_blockPath {s : State} {f : Face} (h : s.makePending f = none)
    (hb : (s.context f).blockPath = true) : s.commit f = s.endRefused f .evidence := by
  rw [State.commit, h]
  exact if_pos hb

theorem State.pendingTear_eq {s : State} {f : Face} {img w : CardImage} (himg : (s.context f).image = some img)
    (hw : (s.context f).staged = some w) : s.pendingTear f =
      { number := (s.context f).number, cls := (s.context f).cls, face := f
        kind := if (s.context f).blockPath then .block else if f = .street then .entry else .exit
        oldCounter := img.counter, newCounter := w.counter
        fare := if (s.context f).blockPath then 0 else ((s.context f).fare.map (·.fare)).getD 0, balanceAfter := w.balance
        written := if s.service.clock.isSet then some (s.service.clock.day, s.service.clock.minute) else none
        state := .pending } := by
  simp only [State.pendingTear, Context.fetchedCounter, Context.newCounter, Context.writeBalance, himg, hw]
  cases f <;> rfl

/-! ### READY and STALE (R38, R39) -/

theorem State.readyToCommit_of_flag {s : State} {f : Face} (hb : (s.context f).blockPath = false)
    (h : ((s.context f).contested = true ∨ (s.context f).notes ≠ []) ∧ .concurrent ∉ (s.context f).flagged)
    (hk : s.check.policies.concurrent = .flag) : s.readyToCommit f = ((s.raise .clone).setContext f { s.context f with
      contested := false, notes := [], flagged := (s.context f).flagged ++ [.concurrent] }).commit f := by
  have hclaimed := (Context.claimed_iff _).mpr h
  have hpolicy (t : State) (ht : t.check = s.check) : t.check.policies.concurrent = .flag := ht ▸ hk
  rw [State.readyToCommit]
  dsimp only
  rw [if_pos ⟨hb, hclaimed.1, hclaimed.2⟩]
  split
  · rw [State.setContext_context, State.setContext_setContext]
  · rename_i hother
    exact absurd (hpolicy _ rfl) hother

theorem State.readyToCommit_of_refusal {s : State} {f : Face} (hb : (s.context f).blockPath = false)
    (h : ((s.context f).contested = true ∨ (s.context f).notes ≠ []) ∧ .concurrent ∉ (s.context f).flagged)
    (hk : s.check.policies.concurrent ≠ .flag) : s.readyToCommit f = ((s.raise .clone).setContext f { s.context f with
      contested := false, notes := [], refusing := some .concurrent }).endRefused f .evidence := by
  have hclaimed := (Context.claimed_iff _).mpr h
  rw [State.readyToCommit]
  dsimp only
  rw [if_pos ⟨hb, hclaimed.1, hclaimed.2⟩]
  split
  · rename_i hflag
    exact absurd hflag hk
  · rw [State.setContext_context, State.setContext_setContext]

theorem State.readyToCommit_of_none {s : State} {f : Face} (h : ¬ ((s.context f).blockPath = false
    ∧ ((s.context f).contested = true ∨ (s.context f).notes ≠ []) ∧ .concurrent ∉ (s.context f).flagged)) :
    s.readyToCommit f = s.commit f := by
  rw [State.readyToCommit]
  exact if_neg fun ⟨hb, hc, hf⟩ => h ⟨hb, (Context.claimed_iff _).mp ⟨hc, hf⟩⟩

theorem exec_ready_of_waits {s : State} {f : Face} (hw : Claims.waits s f (fun x => ∃ i n, x = .stage i n) .staging) :
    exec (.ready f) s = .next ((Claims.heard s f).readyToCommit f) := by
  obtain ⟨hp, hs, ⟨e, he, i, n, hcmd⟩, -⟩ := hw
  change execReady f s = _
  rw [execReady, whenRunning_of_running _ hp, State.cardReply_of_expected _ hs he (by rw [hcmd]; rfl)]

theorem exec_stale_of_waits {s : State} {f : Face} (hw : Claims.waits s f (fun x => ∃ i n, x = .stage i n) .staging) :
    exec (.stale f) s = .next (Claims.failed (Claims.heard s f) f .writeFailed) := by
  obtain ⟨hp, hs, ⟨e, he, i, n, hcmd⟩, -⟩ := hw
  change execStale f s = _
  rw [execStale, whenRunning_of_running _ hp, State.cardReply_of_expected _ hs he (by rw [hcmd]; rfl)]
  rfl

/-- Settles O35: the claims since DECIDING, then what the tear table holds for the number. -/
theorem readyCommitsAndStaleFails : Obligations.ReadyCommitsAndStaleFails := by
  intro s f img w c hw himg hstaged claimed h raised takes entry commits own resolved gone asks
  have hready := exec_ready_of_waits hw
  -- What the tear table is asked by a part that differs from `h` in its flags and in the context `d`.
  have asked (g : FlagSet) (d : Context) (hnumber : d.number = c.number) (hcls : d.cls = c.cls) (himage : d.image = c.image)
      (hstage : d.staged = c.staged) (hfare : d.fare = c.fare) (hpath : d.blockPath = c.blockPath)
      (hclone : ({ s.service with flags := g.raise .clone } : Service) = raised)
      (hcommit : (Claims.heard s f).readyToCommit f
        = ({ h with service := { s.service with flags := g }, contexts := s.contexts.set f d } : State).commit f) :
      asks { h with service := { s.service with flags := g } } d := by
    set v : State := { h with service := { s.service with flags := g }, contexts := s.contexts.set f d } with hv
    have hcontext : v.context f = d := State.setContext_context s f d
    have hentry : v.pendingTear f = entry := by
      rw [State.pendingTear_eq (img := img) (w := w) (by rw [hcontext, himage]; exact himg) (by rw [hcontext, hstage]; exact hstaged),
        hcontext, hnumber, hcls, hfare, hpath]
    have hn : (v.context f).number = c.number := by rw [hcontext, hnumber]
    have taken {t : State} (ht : v.commit f = t) : takes t := hready.trans (congrArg _ (hcommit.trans ht))
    refine ⟨fun hnone hroom => ?room, fun hown hpending hb => ?pending, fun hnodup x hx hxn start q hs => ?torn,
      fun hnodup hnone hfull ⟨y, hy, hys⟩ => ?full⟩
    case room =>
      refine taken ((State.commit_of_room (s := v) (by rw [hn]; exact hnone) hroom).trans ?_)
      rw [hentry]
      cases f <;> rfl
    case pending =>
      have hrefused : v.makePending f = none := State.makePending_of_pending (by rw [hn]; exact hown) (by rw [hn]; exact hpending)
      refine taken ((State.commit_of_pending hrefused (by rw [hcontext, hpath]; exact hb)).trans ?_)
      refine congrArg (State.endRefused · f .evidence) ?_
      rw [hcontext, ← hclone]
      cases f <;> rfl
    case torn =>
      refine taken ((State.commit_of_torn (s := v) hnodup hx (by rw [hn]; exact hxn) (by rw [hs]; nofun)).trans ?_)
      have href : x.reference = some q := by rw [TearEntry.reference, hs]
      rw [hentry, State.resolveTear_eq, href]
      simp only [commits, gone, Bool.or_false]
      cases f <;> rfl
    case full =>
      obtain ⟨x, hx⟩ := State.tearVictim_of_torn (s := v) hy hys
      obtain ⟨hmem, start, q, hs, holdest⟩ := oldestTears_spec (List.mem_of_getElem? hx)
      refine ⟨x, hmem, start, q, hs, holdest, taken ((State.commit_of_full (s := v) (by rw [hn]; exact hnone) hfull hx).trans ?_)⟩
      have href : x.reference = some q := by rw [TearEntry.reference, hs]
      rw [hentry, State.resolveTear_eq, href]
      simp only [commits, gone, Bool.or_true]
      cases f <;> rfl
  have hself : ({ h with service := { s.service with flags := s.service.flags }, contexts := s.contexts.set f c } : State) = h :=
    congrArg (fun x => ({ h with contexts := x } : State)) (s.contexts.set_get f)
  refine ⟨fun hno => ?none, fun hb hown hpending => ?blockPath, fun hclaimed hk => ?flag, fun hclaimed hk => ?refused,
    exec_stale_of_waits hw⟩
  case none =>
    refine asked s.service.flags c rfl rfl rfl rfl rfl rfl rfl ?_
    rw [hself]
    exact State.readyToCommit_of_none hno
  case blockPath =>
    refine hready.trans (congrArg _ ((State.readyToCommit_of_none fun hc => ?_).trans
      (State.commit_of_pending_of_blockPath (State.makePending_of_pending hown hpending) hb)))
    exact absurd (hc.1.symm.trans hb) (by decide)
  case flag =>
    refine asked (s.service.flags.raise .clone) _ rfl rfl rfl rfl rfl rfl rfl ?_
    exact State.readyToCommit_of_flag (s := h) hclaimed.1 hclaimed.2 hk
  case refused =>
    exact hready.trans (congrArg _ (State.readyToCommit_of_refusal (s := h) hclaimed.1 hclaimed.2 hk))

end Sys2Proof.Machine
end

section
/-! SUPPORT. The read: the image check field by field, and the card image that arrives in READING. -/

namespace Sys2Proof.Machine

-- One declaration at a time: each waiting elaboration thread counts against the memory limit of the one text.
set_option Elab.async false

/-! ### Images that cannot be read (R15 step 1, R210) -/

theorem readMark_eq_none_iff (b : Byte) : readMark b = none ↔ 1 < b.toNat := by
  unfold readMark
  by_cases h0 : b = 0
  · simp [h0]
  · by_cases h1 : b = 1
    · simp [h1]
    · simp only [if_neg h0, if_neg h1, true_iff]
      bv_omega

theorem readMark_eq_true_iff (b : Byte) : readMark b = some true ↔ b = 1 := by
  unfold readMark
  split
  · rename_i h
    simp [h]
  · split
    · rename_i h
      simp [h]
    · rename_i h
      exact iff_of_false nofun h

theorem readEntry_eq_none_iff (bs : List Byte) : readEntry bs = none
    ↔ 1 < (byteAt bs 25).toNat ∨ (byteAt bs 25 = 1 ∧ 1 < (byteAt bs 33).toNat) := by
  unfold readEntry
  rw [← readMark_eq_none_iff, ← readMark_eq_true_iff, ← readMark_eq_none_iff]
  cases readMark (byteAt bs 25) with
  | none => simp
  | some b =>
    cases b with
    | false => simp
    | true => cases readMark (byteAt bs 33) <;> simp

theorem readHistory_eq_none_iff (bs : List Byte) : readHistory bs = none ↔ 3 < (byteAt bs 34).toNat := by
  unfold readHistory
  split
  · rename_i h
    simp [Nat.not_lt.mpr h]
  · rename_i h
    simp [Nat.not_le.mp h]

theorem readPass_eq_none_iff (bs : List Byte) : readPass bs = none ↔ 1 < (byteAt bs 59).toNat := by
  unfold readPass
  rw [← readMark_eq_none_iff]
  cases readMark (byteAt bs 59) with
  | none => simp
  | some b => cases b <;> simp

theorem CardImage.ofBytes_eq_none_iff (bs : List Byte) : CardImage.ofBytes bs = none ↔ bs.length ≠ 64
    ∨ decodeIn cardStatusList (byteAt bs 10) = none ∨ readEntry bs = none ∨ readHistory bs = none ∨ readPass bs = none := by
  unfold CardImage.ofBytes
  by_cases hlen : bs.length = 64
  · rw [if_pos hlen]
    cases decodeIn cardStatusList (byteAt bs 10) <;> cases readEntry bs <;> cases readHistory bs <;> cases readPass bs <;>
      simp [hlen]
  · simp [hlen]

/-! ### The image check (R15) -/

theorem CardImage.fieldsValid_iff (c : CardImage) (a : NameAnswer) : c.fieldsValid a = true ↔ Claims.fieldsInRange a c := by
  have hentry : (match c.entry with
      | some e => decide (e.station.toNat ≤ 1023 ∧ e.gate.toNat ≤ 63 ∧ e.minute.toNat ≤ 1439)
      | none => true) = true ↔ ∀ e, c.entry = some e → e.station.toNat ≤ 1023 ∧ e.gate.toNat ≤ 63 ∧ e.minute.toNat ≤ 1439 := by
    cases c.entry <;> simp
  have hpass : (match c.pass with
      | some p => decide (p.zoneLow.toNat ≤ 31 ∧ p.zoneHigh.toNat ≤ 31)
      | none => true) = true ↔ ∀ p, c.pass = some p → p.zoneLow.toNat ≤ 31 ∧ p.zoneHigh.toNat ≤ 31 := by
    cases c.pass <;> simp
  unfold CardImage.fieldsValid Claims.fieldsInRange
  simp only [Bool.and_eq_true, List.all_eq_true, decide_eq_true_eq]
  refine ⟨fun ⟨⟨⟨⟨hn, hc, hg, hs, hcls⟩, he⟩, hh⟩, hp⟩ => ⟨hn, hc, hg, hs, hcls, hentry.mp he, hh, hpass.mp hp⟩,
    fun ⟨hn, hc, hg, hs, hcls, he, hh, hp⟩ => ⟨⟨⟨⟨hn, hc, hg, hs, hcls⟩, hentry.mpr he⟩, hh⟩, hpass.mpr hp⟩⟩

theorem balanceValid_iff (b : Word) : balanceValid b = true ↔ -99999 ≤ b.toInt ∧ b.toInt ≤ 999999 := decide_eq_true_iff

/-- The check of an image that can be read, and its answer for each counter. -/
theorem checkImage_of_valid {a : NameAnswer} {bs : List Byte} {c : CardImage} (hc : CardImage.ofBytes bs = some c)
    (hf : Claims.fieldsInRange a c) (hb : -99999 ≤ c.balance.toInt ∧ c.balance.toInt ≤ 999999) :
    checkImage a bs = if c.counter = 65535 then .error .counterExhausted else .ok c := by
  unfold checkImage
  rw [hc]
  exact (if_neg (by rw [(c.fieldsValid_iff a).mpr hf]; decide)).trans
    (if_neg (by rw [(balanceValid_iff _).mpr hb]; decide))

theorem checkImage_of_unreadable {a : NameAnswer} {bs : List Byte} (h : CardImage.ofBytes bs = none) :
    checkImage a bs = .error .cardInvalid := by
  unfold checkImage
  rw [h]

theorem checkImage_of_invalid {a : NameAnswer} {bs : List Byte} {c : CardImage} (hc : CardImage.ofBytes bs = some c)
    (h : ¬ (Claims.fieldsInRange a c ∧ -99999 ≤ c.balance.toInt ∧ c.balance.toInt ≤ 999999)) :
    checkImage a bs = .error .cardInvalid := by
  unfold checkImage
  rw [hc]
  by_cases hf : Claims.fieldsInRange a c
  · have hb : balanceValid c.balance = false := by
      rw [← Bool.not_eq_true, balanceValid_iff]
      exact fun hb => h ⟨hf, hb⟩
    exact (if_neg (by rw [(c.fieldsValid_iff a).mpr hf]; decide)).trans (if_pos hb)
  · exact if_pos (by rw [← Bool.not_eq_true, c.fieldsValid_iff]; exact hf)

/-- Every image is one of the three. -/
theorem checkImage_cases (a : NameAnswer) (bs : List Byte) : checkImage a bs = .error .cardInvalid
    ∧ (∀ c, CardImage.ofBytes bs = some c →
      ¬ (Claims.fieldsInRange a c ∧ -99999 ≤ c.balance.toInt ∧ c.balance.toInt ≤ 999999))
    ∨ ∃ c, CardImage.ofBytes bs = some c ∧ Claims.fieldsInRange a c ∧ (-99999 ≤ c.balance.toInt ∧ c.balance.toInt ≤ 999999)
      ∧ checkImage a bs = if c.counter = 65535 then .error .counterExhausted else .ok c := by
  cases hc : CardImage.ofBytes bs with
  | none => exact .inl ⟨checkImage_of_unreadable hc, fun c h => nomatch h⟩
  | some c =>
    by_cases h : Claims.fieldsInRange a c ∧ -99999 ≤ c.balance.toInt ∧ c.balance.toInt ≤ 999999
    · exact .inr ⟨c, rfl, h.1, h.2, checkImage_of_valid hc h.1 h.2⟩
    · exact .inl ⟨checkImage_of_invalid hc h, fun d hd => Option.some.inj hd ▸ h⟩

theorem checkImage_eq_ok_iff (a : NameAnswer) (bs : List Byte) (img : CardImage) : checkImage a bs = .ok img
    ↔ CardImage.ofBytes bs = some img ∧ Claims.fieldsInRange a img
      ∧ (-99999 ≤ img.balance.toInt ∧ img.balance.toInt ≤ 999999) ∧ img.counter ≠ 65535 := by
  refine ⟨fun h => ?_, fun ⟨hc, hf, hb, hn⟩ => by rw [checkImage_of_valid hc hf hb, if_neg hn]⟩
  rcases checkImage_cases a bs with ⟨hbad, -⟩ | ⟨c, hc, hf, hb, hcheck⟩
  · rw [hbad] at h
    cases h
  · rw [hcheck] at h
    by_cases hn : c.counter = 65535
    · rw [if_pos hn] at h
      cases h
    · rw [if_neg hn] at h
      cases h
      exact ⟨hc, hf, hb, hn⟩

theorem checkImage_eq_exhausted_iff (a : NameAnswer) (bs : List Byte) : checkImage a bs = .error .counterExhausted
    ↔ ∃ img, CardImage.ofBytes bs = some img ∧ Claims.fieldsInRange a img
      ∧ (-99999 ≤ img.balance.toInt ∧ img.balance.toInt ≤ 999999) ∧ img.counter = 65535 := by
  refine ⟨fun h => ?_, fun ⟨img, hc, hf, hb, hn⟩ => by rw [checkImage_of_valid hc hf hb, if_pos hn]⟩
  rcases checkImage_cases a bs with ⟨hbad, -⟩ | ⟨c, hc, hf, hb, hcheck⟩
  · rw [hbad] at h
    cases h
  · rw [hcheck] at h
    by_cases hn : c.counter = 65535
    · exact ⟨c, hc, hf, hb, hn⟩
    · rw [if_neg hn] at h
      cases h

theorem checkImage_error {a : NameAnswer} {bs : List Byte} {r : Reason} (h : checkImage a bs = .error r) :
    r = .cardInvalid ∨ r = .counterExhausted := by
  rcases checkImage_cases a bs with ⟨hbad, -⟩ | ⟨c, hc, hf, hb, hcheck⟩
  · rw [hbad] at h
    cases h
    exact .inl rfl
  · rw [hcheck] at h
    split at h
    · cases h
      exact .inr rfl
    · cases h

/-! ### The card image in READING (R19, R30) -/

theorem exec_cardImage_of_fetch {s : State} {f : Face} {e : Exchange} {image : List Byte} (hp : s.power = .running)
    (hs : (s.face f).state = .serving) (he : (s.face f).exchange = some e) (hc : e.command = .fetch) (hl : image.length = 64)
    (hst : (s.context f).state = .reading) : exec (.cardImage f image) s = .next ((Claims.heard s f).readImage f image) := by
  have hstate : ((Claims.heard s f).context f).state = .reading := hst
  change execCardImage f image s = _
  rw [execCardImage, whenRunning_of_running _ hp, State.cardReply_of_expected _ hs he (by simp [hc, hl])]
  simp only [hstate]

/-- A tap that goes on after its TORN entry finds faces and contexts as they were. -/
theorem State.resolveAtRead_continues {s : State} {f : Face} {image : List Byte} (h : (s.resolveAtRead f image).1 = .continues) :
    (s.resolveAtRead f image).2.contexts = s.contexts ∧ (s.resolveAtRead f image).2.faces = s.faces := by
  revert h
  unfold State.resolveAtRead
  dsimp only
  split
  · exact fun _ => ⟨rfl, rfl⟩
  · split
    · exact fun _ => ⟨rfl, rfl⟩
    · split
      · simp
      · split
        · split
          · exact nofun
          · simp
        · simp

theorem State.resolveAtRead_of_no_torn {s : State} {f : Face} (image : List Byte)
    (h : ∀ x ∈ s.tears, x.number = (s.context f).number → x.state = .pending) : s.resolveAtRead f image = (.continues, s) := by
  unfold State.resolveAtRead
  dsimp only
  cases hfind : findTear s.tears (s.context f).number with
  | none => rfl
  | some e => exact if_pos (h e (mem_of_findTear hfind) (findTear_number hfind))

theorem State.readImage_of_ended {s : State} {f : Face} {image : List Byte} (h : (s.resolveAtRead f image).1 = .ended) :
    s.readImage f image = (s.resolveAtRead f image).2 := by
  unfold State.readImage
  generalize s.resolveAtRead f image = x at h ⊢
  obtain ⟨r, t⟩ := x
  cases h
  rfl

theorem State.readImage_of_error {s : State} {f : Face} {image : List Byte} {a : NameAnswer} {x : Reason}
    (h : (s.resolveAtRead f image).1 = .continues) (hname : (s.context f).name = some a) (hx : checkImage a image = .error x) :
    s.readImage f image = (s.resolveAtRead f image).2.endFailed f x := by
  have hcontexts := (State.resolveAtRead_continues h).1
  unfold State.readImage
  generalize s.resolveAtRead f image = r at h hcontexts ⊢
  obtain ⟨resolution, t⟩ := r
  cases h
  have hname' : (t.context f).name = some a := by rw [State.context, hcontexts]; exact hname
  simp only [hname', hx]

theorem State.readImage_of_ok {s : State} {f : Face} {image : List Byte} {a : NameAnswer} {img : CardImage}
    (h : (s.resolveAtRead f image).1 = .continues) (hname : (s.context f).name = some a) (hx : checkImage a image = .ok img) :
    s.readImage f image = ((({ (s.resolveAtRead f image).2 with
      contexts := s.contexts.set f { s.context f with image := some img } } : State).setOwnHold f).startProving f) := by
  have hcontexts := (State.resolveAtRead_continues h).1
  unfold State.readImage
  generalize s.resolveAtRead f image = r at h hcontexts ⊢
  obtain ⟨resolution, t⟩ := r
  cases h
  have hcontext : t.context f = s.context f := by rw [State.context, hcontexts]; rfl
  have hset : t.setContext f { t.context f with image := some img }
      = { t with contexts := s.contexts.set f { s.context f with image := some img } } := by
    rw [State.setContext, hcontext, hcontexts]
  have hname' : (t.context f).name = some a := by rw [hcontext]; exact hname
  rw [← hset]
  simp only [hname', hx]

theorem State.startProving_eq (s : State) (f : Face) {v : Word} (hv : nextChallenge s.check.challenge = v) :
    s.startProving f = { s with
      check := { s.check with challenge := v }
      contexts := s.contexts.set f { s.context f with state := .proving, challenge := some v }
      faces := s.faces.set f { s.face f with exchange := some { command := .prove v, sentAt := s.now, resent := false } } } := by
  rw [State.startProving, hv]
  cases f <;> rfl

/-- Settles O30: the entry of the tear table first, then the check of the image. -/
theorem cardImageIsCheckedAndProved : Obligations.CardImageIsCheckedAndProved := by
  refine ⟨?read, fun a image => ⟨?unreadable, checkImage_eq_ok_iff a image, checkImage_eq_exhausted_iff a image,
    fun r => checkImage_error⟩⟩
  case unreadable =>
    rw [CardImage.ofBytes_eq_none_iff, decodeIn_eq_none_iff, readEntry_eq_none_iff, readHistory_eq_none_iff, readPass_eq_none_iff,
      or_assoc]
    exact Iff.rfl
  case read =>
    intro s f e a image c hp hs he hc hst hname hl h r takes
    have hexec := exec_cardImage_of_fetch hp hs he hc hl hst
    have hnumber : c.number = a.number := by simp [c, Context.number, hname]
    refine ⟨fun hno => ?none, fun hended => ?ended, fun hgoes img himg => ?proved, fun hgoes x hx => ?failed⟩
    case none =>
      exact State.resolveAtRead_of_no_torn (s := h) image fun x hx hn => hno x hx (hn.trans hnumber)
    case ended => exact hexec.trans (congrArg _ (State.readImage_of_ended hended))
    case failed => exact hexec.trans (congrArg _ (State.readImage_of_error (s := h) hgoes hname hx))
    case proved =>
      intro held v
      refine hexec.trans (congrArg _ ((State.readImage_of_ok (s := h) hgoes hname himg).trans ?_))
      have hcheck : held.check = s.check := by simp [held, r, h, Claims.heard]
      have hnow : held.now = s.now := by simp [held, r, h, Claims.heard]
      have hfaces : held.faces = h.faces :=
        (State.setOwnHold_keeps _ f).2.2.2.2.2.2.1.trans (State.resolveAtRead_continues hgoes).2
      have hface : held.face f = h.face f := by rw [State.face, hfaces]; rfl
      change held.startProving f = _
      have hv : nextChallenge held.check.challenge = v := by rw [hcheck, nextChallenge]
      rw [State.startProving_eq held f hv, hcheck, hnow, hfaces, hface]

end Sys2Proof.Machine
end

section
/-! SUPPORT. A write recorded as a LOCAL sighting, a reservation that becomes a grant, and a TORN entry met at its card's read. -/

namespace Sys2Proof.Machine

-- One declaration at a time: each waiting elaboration thread counts against the memory limit of the one text.
set_option Elab.async false

/-! ### A write recorded as a sighting (R82 to R84, R90) -/

/-- The sightings table after a write was recorded for a number. -/
def sightingsRecorded (l : List SightingEntry) (n : CardNumber) (x : Sighting) : List SightingEntry :=
  match findOrCreate l n with
  | some (e, room) => touchSighting room { e with sighting := some x }
  | none => l

theorem State.recordSighting_eq (s : State) (n : CardNumber) (x : Sighting) :
    s.recordSighting n x = { s with sightings := sightingsRecorded s.sightings n x } := by
  unfold State.recordSighting sightingsRecorded
  cases findOrCreate s.sightings n <;> rfl

theorem sightingsRecorded_of_mem {l : List SightingEntry} (hnodup : (l.map (·.number)).Nodup) {e : SightingEntry} (he : e ∈ l)
    (x : Sighting) : sightingsRecorded l e.number x
      = (l.filter fun y => decide (y.number ≠ e.number)) ++ [{ e with sighting := some x }] := by
  unfold sightingsRecorded
  rw [findOrCreate_of_mem hnodup he]
  rfl

theorem sightingsRecorded_recorded {l : List SightingEntry} (hnodup : (l.map (·.number)).Nodup) (n : CardNumber) (x : Sighting) :
    Claims.recorded l n x (sightingsRecorded l n x) := by
  refine ⟨fun e he hn => ?_, fun habsent => ?_⟩
  · subst hn
    exact sightingsRecorded_of_mem hnodup he x
  · unfold sightingsRecorded
    rcases sightingRoom_cases hnodup with ⟨room, hroom, -, hjoins⟩ | ⟨hroom, -, hjoins⟩
    · rw [findOrCreate_of_absent habsent, hroom]
      exact hjoins _ (by exact habsent)
    · rw [findOrCreate_of_absent habsent, hroom]
      exact hjoins _

theorem State.sendCommitted_eq (s : State) (n : CardNumber) (x : Sighting) : s.sendCommitted n x = { s with
    ring := Claims.joined s.ring (.release s.gate 0 n
      (.committed x.counter x.chain x.station x.day x.minute (codeIn directionList x.direction))) } := s.send_eq _

/-! ### The grant (R151, R157, R158, R161) -/

theorem Claims.closeDelay_of_granted {a : Aisle} {q : PerDirection (List QueueEntry)} {t : Word} {e : QueueEntry}
    (he : e ∈ q.entry ++ q.exit) (hg : e.isGranted = true) : Claims.closeDelay a q t = none := by
  have hno : ¬ ∀ x ∈ q.entry ++ q.exit, x.isGranted = false := fun h => by
    rw [h e he] at hg
    cases hg
  exact if_neg fun h => hno h.2.1

theorem PerDirection.mem_append_of_get {α : Type} {p : PerDirection (List α)} {d : Direction} {x : α} (h : x ∈ p.get d) :
    x ∈ p.entry ++ p.exit := by
  cases d with
  | entry => exact List.mem_append_left _ h
  | exit => exact List.mem_append_right _ h

theorem State.grant_of_not_held {s : State} {f : Face} (q : Word) (h : (s.context f).reservation ≠ .held) : s.grant f q = s :=
  if_neg h

/-- A held reservation becomes a grant in its place of the queue. -/
theorem State.grant_of_held {s : State} {f : Face} (q : Word) (h : (s.context f).reservation = .held)
    {before after : List QueueEntry} {p : QueueEntry} (hqueue : s.aisle.queues.get f.direction = before ++ p :: after)
    (hface : p.face = f) (hstate : p.state = .reserved) (hbefore : ∀ y ∈ before, y.face ≠ f ∨ y.state ≠ .reserved) :
    s.grant f q = { s with
      aisle := Claims.grantedAisle s f
        (before ++ { p with state := .granted q s.now (s.setup.grantLifetime * 1000) false } :: after) } := by
  set granted : QueueEntry := { p with state := .granted q s.now (s.setup.grantLifetime * 1000) false }
  have hupdated : updateFirst (QueueEntry.isReservedBy f) (fun e => { e with state := .granted q s.now s.grantLifetimeMs false })
      (s.aisle.queues.get f.direction) = before ++ granted :: after := by
    rw [hqueue]
    refine updateFirst_append_cons _ after (fun y hy => ?_) (decide_eq_true ⟨hface, hstate⟩)
    exact decide_eq_false fun ⟨hf, hs⟩ => (hbefore y hy).elim (absurd hf) (absurd hs)
  set a : Aisle := { s.aisle with queues := s.aisle.queues.set f.direction (before ++ granted :: after) } with ha
  have hmem : granted ∈ a.queues.entry ++ a.queues.exit := PerDirection.mem_append_of_get (d := f.direction) (by
    rw [ha, PerDirection.get_set]
    exact List.mem_append_right _ List.mem_cons_self)
  have hany : a.anyGranted = true := List.any_eq_true.mpr ⟨granted, hmem, rfl⟩
  have hopening : a.startOpening s.now = { a with
      leaf := if a.openLimit.accepted then .opened else .opening
      travelStart := if a.openLimit.accepted then none else some s.now
      closeStart := none } := by
    rw [Aisle.startOpening_eq]
    by_cases hlimit : a.openLimit.accepted = true
    · have hopen : Claims.reachesOpen a s.now = Claims.leafAt a .opened none none := by
        rw [Claims.reachesOpen, if_neg (by rw [hany]; nofun)]
      rw [if_pos hlimit, if_pos hlimit, if_pos hlimit, hopen]
      rfl
    · rw [if_neg hlimit, if_neg hlimit, if_neg hlimit]
      rfl
  have hrefresh : a.refreshClose s.now = { a with closeStart := none } := by
    rw [Aisle.refreshClose_eq, Claims.closeDelay_of_granted hmem rfl]
  rw [State.grant, if_pos h]
  dsimp only
  rw [hupdated]
  change (s.setAisle (if s.aisle.leaf = .closed ∨ s.aisle.leaf = .closing then a.startOpening s.now else a.refreshClose s.now)).count
    f.direction (fun k => { k with granted := k.granted + 1 }) = _
  unfold Claims.grantedAisle
  dsimp only
  by_cases hshut : s.aisle.leaf = .closed ∨ s.aisle.leaf = .closing
  · rw [if_pos hshut, if_pos hshut, if_pos hshut, hopening]
    exact rfl
  · rw [if_neg hshut, if_neg hshut, if_neg hshut, hrefresh]
    exact rfl

theorem faceLeft_of_serving {u : FaceUnit} (h : u.state = .serving) (now : Word) (idle : Bool) :
    faceLeft u now idle = Claims.faceAfter u now idle := if_pos h

theorem contextLeft_of_serving {u : FaceUnit} (h : u.state = .serving) (rest : Context) :
    contextLeft u rest = Claims.contextAfter u rest := if_pos h

/-! ### A TORN entry met at a read (R53, R54) -/

theorem TearKind.direction_of_written {k : TearKind} (h : k ≠ .block) (f : Face) :
    k.direction f = if k = .entry then .entry else .exit := by
  cases k with
  | entry => rfl
  | exit => rfl
  | block => exact absurd rfl h

theorem codeIn_direction_of_kind (k : TearKind) :
    codeIn directionList (if k = .entry then Direction.entry else .exit) = if k = .entry then 0 else 1 := by
  split <;> rfl

/-- What a recovery leaves beside its record: the sighting and the RELEASE. -/
theorem State.recoverSighting_eq {s : State} {e : TearEntry} (image : List Byte) (hk : e.kind ≠ .block) :
    s.recoverSighting e image = { s with
      sightings := sightingsRecorded s.sightings e.number
        { counter := imageCounter image, chain := imageChain image, station := s.station, gate := some s.gate, day := s.today
          minute := s.minuteNow, direction := if e.kind = .entry then .entry else .exit, source := .localWrite }
      ring := Claims.joined s.ring (.release s.gate 0 e.number (.committed (imageCounter image) (imageChain image) s.station
        s.today s.minuteNow (if e.kind = .entry then 0 else 1))) } := by
  rw [State.recoverSighting, TearKind.direction_of_written hk, State.sendCommitted_eq, State.recordSighting_eq,
    ← codeIn_direction_of_kind]
  rfl

theorem State.resolveAtRead_of_torn {s : State} {f : Face} {e : TearEntry} {w q : Word} (image : List Byte)
    (hnodup : (s.tears.map (·.number)).Nodup) (he : e ∈ s.tears) (hs : e.state = .torn w q) (hn : e.number = (s.context f).number) :
    s.resolveAtRead f image =
      if imageCounter image = e.oldCounter then (.continues, s.resolveTear .void e (some (imageCounter image)))
      else if e.kind ≠ .block ∧ imageCounter image = e.newCounter then
        if e.face = f ∧ (s.context f).blockPath = false then (.ended, s.recoverHere f e image)
        else (.continues, s.recoverElsewhere e image)
      else (.continues, s.resolveTear .unresolved e (some (imageCounter image))) := by
  unfold State.resolveAtRead
  dsimp only
  rw [← hn, findTear_of_mem hnodup he]
  exact if_neg (by rw [hs]; nofun)

theorem State.recoverElsewhere_eq {s : State} {e : TearEntry} (image : List Byte) (hk : e.kind ≠ .block) :
    s.recoverElsewhere e image = { s with
      tears := removeTear s.tears e.number
      journal := s.journal.with (.transaction .recovered) s.stamp e.face (e.recoveredFields RecordFields.blank)
      service := { s.service with flags := s.service.flags.afterRecord s.freeSlots }
      sightings := sightingsRecorded s.sightings e.number
        { counter := imageCounter image, chain := imageChain image, station := s.station, gate := some s.gate, day := s.today
          minute := s.minuteNow, direction := if e.kind = .entry then .entry else .exit, source := .localWrite }
      ring := Claims.joined s.ring (.release s.gate 0 e.number (.committed (imageCounter image) (imageChain image) s.station
        s.today s.minuteNow (if e.kind = .entry then 0 else 1))) } := by
  rw [State.recoverElsewhere, State.append_eq, State.recoverSighting_eq image hk]
  rfl

theorem Claims.tonesAfter_congr {s t : State} (f : Face) (tone : ShortTone) (hnow : t.now = s.now)
    (hpassage : t.aisle.passageAlarm = s.aisle.passageAlarm) (hwatch : t.aisle.watchAlarm = s.aisle.watchAlarm)
    (htones : t.aisle.tones = s.aisle.tones) : Claims.tonesAfter t f tone = Claims.tonesAfter s f tone := by
  rw [Claims.tonesAfter, Claims.tonesAfter, hnow, hpassage, hwatch, htones]

/-- A recovery at the entry's own face, with what its grant makes of the aisle. -/
theorem State.recoverHere_eq {s : State} {f : Face} {e : TearEntry} (image : List Byte) (hk : e.kind ≠ .block)
    (hserving : (s.face f).state = .serving) {a : Aisle} {late : List Record}
    (hlate : Claims.lateAlerts s f ({ s with contexts := s.contexts.set f Context.idle } : State).obligations = late)
    (hgrant : ∀ t : State, t.now = s.now → t.setup = s.setup → t.aisle = s.aisle →
      (t.context f).reservation = (s.context f).reservation → t.grant f s.journal.next = { t with aisle := a })
    (hpassage : a.passageAlarm = s.aisle.passageAlarm) (hwatch : a.watchAlarm = s.aisle.watchAlarm)
    (htones : a.tones = s.aisle.tones) :
    s.recoverHere f e image = { s with
      tears := removeTear s.tears e.number
      journal :=
        { records := s.journal.records ++
            { sequence := s.journal.next, kind := .transaction .recovered, stamp := s.stamp, face := f
              fields := e.recoveredFields { (s.context f).baseFields with evidence := (s.context f).recordEvidence } } :: late
          next := Claims.nextAfter (1 + late.length) s.journal.next }
      service := { s.service with flags := Claims.flagsAfter s f (1 + late.length) }
      watch := { s.watch with status := Claims.statusAfter s f }
      sightings := sightingsRecorded s.sightings e.number
        { counter := imageCounter image, chain := imageChain image, station := s.station, gate := some s.gate, day := s.today
          minute := s.minuteNow, direction := if e.kind = .entry then .entry else .exit, source := .localWrite }
      ring := Claims.joined s.ring (.release s.gate 0 e.number (.committed (imageCounter image) (imageChain image) s.station
        s.today s.minuteNow (if e.kind = .entry then 0 else 1)))
      aisle := { a with tones := Claims.tonesAfter s f .accept }
      contexts := s.contexts.set f (Claims.contextAfter (s.face f) { s.context f with state := .removalWait, indication := .go })
      faces := s.faces.set f (Claims.faceAfter (s.face f) s.now false) } := by
  have hfindings : Claims.lateAlerts s f (s.recorded f .recovered
      (e.recoveredFields { (s.context f).baseFields with evidence := (s.context f).recordEvidence }) .removalWait).obligations = late := by
    rw [← hlate]
    cases f <;> rfl
  rw [State.recoverHere]
  dsimp only
  rw [State.closeRecord_eq _ _ _ _ _ hfindings, hgrant _ (by rfl) (by rfl) (by rfl) (by cases f <;> rfl),
    State.recoverSighting_eq image hk, State.conclude_eq _ f .go .accept (.inr (.inl rfl)), faceLeft_of_serving ?serves,
    contextLeft_of_serving ?served, Claims.tonesAfter_congr (s := s) f .accept ?sameNow ?samePassage ?sameWatch ?sameTones]
  · cases f <;> rfl
  case serves => exact hserving
  case served => exact hserving
  case sameNow => rfl
  case samePassage => exact hpassage
  case sameWatch => exact hwatch
  case sameTones => exact htones

/-- Settles O31: what the fetched counter says of the write, and at the entry's own face the grant. -/
theorem tornEntriesAreResolvedAtTheRead : Obligations.TornEntriesAreResolvedAtTheRead := by
  intro s f image e w q htears hsightings he hs hn c r counter written ownFace record resolved x recovers ring
  have hr := State.resolveAtRead_of_torn image htears he hs hn
  have href : e.reference = some q := by rw [TearEntry.reference, hs]
  refine ⟨fun hno => ?unwritten, fun hwritten => ?written⟩
  case unwritten =>
    by_cases hold : counter = e.oldCounter
    · refine hr.trans ((if_pos hold).trans ?_)
      rw [State.resolveTear_eq, href, if_pos hold]
      rfl
    · refine hr.trans ((if_neg hold).trans ((if_neg fun h => hno ⟨h.1, h.2, hold⟩).trans ?_))
      rw [State.resolveTear_eq, href, if_neg hold]
      rfl
  case written =>
    obtain ⟨hkind, hnew, hold⟩ := hwritten
    refine ⟨_, sightingsRecorded_recorded hsightings e.number x, fun hother => ?elsewhere, fun hown hserving => ?here⟩
    case elsewhere =>
      refine hr.trans ((if_neg hold).trans ((if_pos ⟨hkind, hnew⟩).trans ((if_neg hother).trans ?_)))
      rw [State.recoverElsewhere_eq image hkind, TearEntry.recoveredFields, href]
      rfl
    case here =>
      intro u late ends
      have hstart := hr.trans ((if_neg hold).trans ((if_pos ⟨hkind, hnew⟩).trans (if_pos hown)))
      have recovered {a : Aisle} (hgrant : ∀ t : State, t.now = s.now → t.setup = s.setup → t.aisle = s.aisle →
            (t.context f).reservation = c.reservation → t.grant f s.journal.next = { t with aisle := a })
          (hpassage : a.passageAlarm = s.aisle.passageAlarm) (hwatch : a.watchAlarm = s.aisle.watchAlarm)
          (htones : a.tones = s.aisle.tones) : ends a := by
        refine hstart.trans (congrArg (Prod.mk Resolution.ended) ?_)
        rw [State.recoverHere_eq image hkind hserving rfl hgrant hpassage hwatch htones]
        simp only [recovers, record, hown.1, TearEntry.recoveredFields, href]
        rfl
      refine ⟨fun hnot => recovered (fun t _ _ haisle hres => ?_) rfl rfl rfl,
        fun hheld before after p hqueue hface hstate hbefore => recovered (fun t hnow hsetup haisle hres => ?_) rfl rfl rfl⟩
      · rw [State.grant_of_not_held _ (by rw [hres]; exact hnot), ← haisle]
      · rw [State.grant_of_held _ (by rw [hres]; exact hheld) (by rw [haisle]; exact hqueue) hface hstate hbefore, hnow, hsetup]
        simp only [Claims.grantedAisle, haisle, hnow]

end Sys2Proof.Machine
end

section
/-! SUPPORT. A committed write: how SETTLED and the confirming read decide it, and what a confirmed and a torn write leave. -/

namespace Sys2Proof.Machine

-- One declaration at a time: each waiting elaboration thread counts against the memory limit of the one text.
set_option Elab.async false

/-! ### What decides the write (R40, R41) -/

theorem exec_settled_of_waits {s : State} {f : Face} (n : Half) (hw : Claims.waits s f (· = .settle) .settling) :
    exec (.settled f n) s = .next (if n = (s.context f).newCounter then (Claims.heard s f).confirmWrite f
      else (Claims.heard s f).notWritten f) := by
  obtain ⟨hp, hs, ⟨e, he, hc⟩, -⟩ := hw
  change execSettled f n s = _
  rw [execSettled, whenRunning_of_running _ hp, State.cardReply_of_expected _ hs he (decide_eq_true hc)]
  exact rfl

theorem exec_cardImage_of_confirming {s : State} {f : Face} {image : List Byte} (hw : Claims.waits s f (· = .fetch) .confirming)
    (hl : image.length = 64) : exec (.cardImage f image) s = .next ((Claims.heard s f).confirmRead f image) := by
  obtain ⟨hp, hs, ⟨e, he, hc⟩, hst⟩ := hw
  have hstate : ((Claims.heard s f).context f).state = .confirming := hst
  change execCardImage f image s = _
  rw [execCardImage, whenRunning_of_running _ hp, State.cardReply_of_expected _ hs he (decide_eq_true ⟨hc, hl⟩)]
  simp only [hstate]

theorem Context.newCounter_of_staged {c : Context} {w : CardImage} (h : c.staged = some w) : c.newCounter = w.counter := by
  rw [Context.newCounter, h]
  rfl

theorem Context.writtenFields_of {c : Context} {w : CardImage} (h : c.staged = some w) : c.writtenFields = { c.baseFields with
    fare := some c.writeFare, balanceAfter := some w.balance, counterAfter := some w.counter } := by
  rw [Context.writtenFields, Context.newCounter_of_staged h, Context.writeBalance, h]
  rfl

theorem Context.fetchedCounter_of_image {c : Context} {img : CardImage} (h : c.image = some img) : c.fetchedCounter = img.counter := by
  rw [Context.fetchedCounter, h]
  rfl

theorem settledAndConfirmingReadDecideTheWrite : Claims.SettledAndConfirmingReadDecideTheWrite := by
  intro s f img w c himg hstaged h notWritten
  have hnew : c.newCounter = w.counter := Context.newCounter_of_staged hstaged
  have hfetched : c.fetchedCounter = img.counter := Context.fetchedCounter_of_image himg
  have hcontext : h.context f = c := rfl
  refine ⟨fun hw => ⟨?_, fun n hn => ?_⟩, fun image hw hl => ⟨fun hm hc => ?_, fun hm hc hf => ?_, fun hno => ?_⟩⟩
  · exact (exec_settled_of_waits _ hw).trans (congrArg _ (if_pos hnew.symm))
  · exact (exec_settled_of_waits _ hw).trans (congrArg _ (if_neg (hnew ▸ hn)))
  all_goals
    refine (exec_cardImage_of_confirming hw hl).trans (congrArg _ ?_)
    rw [State.confirmRead, hcontext, hnew, hfetched]
  · exact if_pos ⟨hm, hc⟩
  · exact (if_neg fun h => hc h.2).trans (if_pos ⟨hm, hf⟩)
  · rcases hno with hm | ⟨hc, hf⟩
    · exact (if_neg fun h => hm h.1).trans (if_neg fun h => hm h.1)
    · exact (if_neg fun h => hc h.2).trans (if_neg fun h => hf h.2)

/-! ### The table after a write was recorded under the own hold (R89, R90) -/

/-- A write recorded on an entry that the writing face holds: the sighting part is new, and the hold passes on or ends. -/
theorem sightingsReleased_of_recorded {l : List SightingEntry} (hnodup : (l.map (·.number)).Nodup) {e : SightingEntry} (he : e ∈ l)
    {f : Face} {c : Context} (o : Context) (now : Word) (x : Sighting) (hn : e.number = c.number) (hhold : e.hold = .own f)
    (hown : c.ownHold = true) (hholds : c.holdsEntry = true) :
    sightingsReleased (sightingsRecorded l c.number x) f c o now = (l.filter fun y => decide (y.number ≠ c.number))
      ++ [if o.holds c.number then { e with sighting := some x, hold := .own f.other }
        else { e with sighting := some x }.endOwn now] := by
  have hseen : sightingsRecorded l c.number x = touchSighting l { e with sighting := some x } := by
    rw [← hn, sightingsRecorded_of_mem hnodup he]
    rfl
  have hfound : findSighting (touchSighting l { e with sighting := some x }) c.number = some { e with sighting := some x } :=
    findSighting_touchSighting (by exact hn)
  rw [hseen, sightingsReleased_of_own hown hholds hfound (by exact hhold), touchSighting_eq (n := c.number) ?number, filter_touchSighting]
  case number =>
    split
    · exact hn
    · exact (SightingEntry.endOwn_number _ _).trans hn
  · exact hn

/-- The end of a transaction of a SERVING face, in a part that kept the face, the clock and the alarms of `s`. -/
theorem State.conclude_of_serving {s t : State} {f : Face} {st : CtxState} (ind : Indication) (tone : ShortTone)
    (hst : st = .idle ∨ st = .removalWait ∨ st = .refusedShown) (hserving : (s.face f).state = .serving)
    (hface : t.face f = s.face f) (hnow : t.now = s.now) (hpassage : t.aisle.passageAlarm = s.aisle.passageAlarm)
    (hwatch : t.aisle.watchAlarm = s.aisle.watchAlarm) (htones : t.aisle.tones = s.aisle.tones) :
    t.conclude f st ind (some tone) = { t with
      contexts := t.contexts.set f (Claims.contextAfter (s.face f) (concludedContext (t.context f) st ind))
      aisle := { t.aisle with tones := Claims.tonesAfter s f tone }
      faces := t.faces.set f (Claims.faceAfter (s.face f) s.now (decide (st = .idle))) } := by
  rw [State.conclude_eq t f ind tone hst, hface, hnow, faceLeft_of_serving hserving, contextLeft_of_serving hserving,
    Claims.tonesAfter_congr f tone hnow hpassage hwatch htones]

/-! ### A confirmed write (R42, R47) -/

/-- A LOCAL sighting of the write of `w` on face `f`. -/
def State.writeSighting (s : State) (f : Face) (w : CardImage) : Sighting :=
  { counter := w.counter, chain := w.chain, station := s.station, gate := some s.gate, day := s.today, minute := s.minuteNow
    direction := f.direction, source := .localWrite }

/-- The LATE_ALERTs after the record of a write whose tear entry is gone. -/
def State.lateAfterWrite (s : State) (f : Face) : List Record := Claims.lateAlerts s f
  ({ s with tears := removeTear s.tears (s.context f).number, contexts := s.contexts.set f Context.idle } : State).obligations

/-- The part with the traces of a confirmed write: its record `o`, with the aisle, the ring and the context as given. -/
def State.traced (s : State) (f : Face) (w : CardImage) (o : TxOutcome) (y : RecordFields) (a : Aisle) (ring : Ring)
    (d : Context) : State := { s with
  tears := removeTear s.tears (s.context f).number
  journal :=
    { records := s.journal.records
        ++ { sequence := s.journal.next, kind := .transaction o, stamp := s.stamp, face := f, fields := y } :: s.lateAfterWrite f
      next := Claims.nextAfter (1 + (s.lateAfterWrite f).length) s.journal.next }
  service := { s.service with flags := Claims.flagsAfter s f (1 + (s.lateAfterWrite f).length) }
  watch := { s.watch with status := Claims.statusAfter s f }
  sightings := sightingsReleased (sightingsRecorded s.sightings (s.context f).number (s.writeSighting f w)) f (s.context f)
    (s.context f.other) s.now
  ring := ring
  aisle := a
  contexts := s.contexts.set f d }

/-- The part after a confirmed write, its context at rest. -/
def State.confirmed (s : State) (f : Face) (w : CardImage) (o : TxOutcome) (y : RecordFields) (a : Aisle) (ring : Ring)
    (rest : Context) : State := { s.traced f w o y a ring (Claims.contextAfter (s.face f) rest) with
  faces := s.faces.set f (Claims.faceAfter (s.face f) s.now false) }

theorem State.confirmWrite_of_fare {s : State} {f : Face} {w : CardImage} (hstaged : (s.context f).staged = some w)
    (hpath : (s.context f).blockPath = false) : s.confirmWrite f = s.confirmFare f w := by
  simp only [State.confirmWrite, hstaged, hpath, Bool.false_eq_true, if_false]

theorem State.confirmWrite_of_block {s : State} {f : Face} {w : CardImage} (hstaged : (s.context f).staged = some w)
    (hpath : (s.context f).blockPath = true) : s.confirmWrite f = s.confirmBlock f w := by
  simp only [State.confirmWrite, hstaged, hpath, if_true]

/-- The outcome of a confirmed fare write. -/
def writeOutcome (f : Face) : TxOutcome := if f = .street then .entered else .exited

/-- The record fields of a confirmed fare write. -/
def fareFields (c : Context) : RecordFields := { c.writtenFields with
  evidence := c.recordEvidence, entryStation := c.fare.bind (·.entryStation), freePassage := decide (c.reservation = .removed) }

/-- The fields of a confirmed block write. -/
def blockFields (c : Context) : RecordFields := { c.writtenFields with evidence := c.recordEvidence }

theorem State.lateAfterWrite_eq (s : State) (f : Face) (o : TxOutcome) (y : RecordFields) {st : CtxState}
    (hst : st = .removalWait ∨ st = .refusedShown) :
    Claims.lateAlerts (s.dropTear (s.context f).number) f
      ((s.dropTear (s.context f).number).recorded f o y st).obligations = s.lateAfterWrite f := by
  rcases hst with rfl | rfl <;> cases f <;> rfl

/-- The record of a confirmed write, its tear entry gone. -/
theorem State.closeRecord_of_write (s : State) (f : Face) (o : TxOutcome) (y : RecordFields) {st : CtxState}
    (hst : st = .removalWait ∨ st = .refusedShown) : (s.dropTear (s.context f).number).closeRecord f o y st
      = { s.traced f w o y s.aisle s.ring { s.context f with state := st } with sightings := s.sightings } :=
  State.closeRecord_eq _ _ _ _ _ (s.lateAfterWrite_eq f o y hst)

/-- The aisle after a grant that starts now, from what it reads alone. -/
def Aisle.granted (a : Aisle) (f : Face) (q now : Word) (life : Nat) : Aisle :=
  let placed : Aisle := { a with queues := a.queues.set f.direction (updateFirst (QueueEntry.isReservedBy f)
    (fun e => { e with state := .granted q now life false }) (a.queues.get f.direction)) }
  let moved := if placed.leaf = .closed ∨ placed.leaf = .closing then placed.startOpening now else placed.refreshClose now
  let k := moved.counters.get f.direction
  { moved with counters := moved.counters.set f.direction { k with granted := k.granted + 1 } }

theorem State.grant_of_reserved {s : State} {f : Face} (q : Word) (h : (s.context f).reservation = .held) :
    s.grant f q = { s with aisle := s.aisle.granted f q s.now s.grantLifetimeMs } := if_pos h

/-- A grant reads the clock, the settings and the aisle of a part, with its context's reservation, and changes the aisle alone. -/
theorem State.grant_eq {s t : State} {f : Face} (q : Word) (hnow : t.now = s.now) (hsetup : t.setup = s.setup)
    (haisle : t.aisle = s.aisle) (hres : (t.context f).reservation = (s.context f).reservation) :
    t.grant f q = { t with aisle := (s.grant f q).aisle } := by
  by_cases h : (s.context f).reservation = .held
  · have hlife : t.grantLifetimeMs = s.grantLifetimeMs := by rw [State.grantLifetimeMs, hsetup, State.grantLifetimeMs]
    have hsame : t.aisle.granted f q t.now t.grantLifetimeMs = s.aisle.granted f q s.now s.grantLifetimeMs := by rw [haisle, hnow, hlife]
    rw [State.grant_of_reserved q h, State.grant_of_reserved q (hres.trans h), hsame]
  · rw [State.grant_of_not_held q h, State.grant_of_not_held q (by rw [hres]; exact h), ← haisle]

/-- A grant leaves the alarms and the tones. -/
theorem State.grant_silent (s : State) (f : Face) (q : Word) : (s.grant f q).aisle.passageAlarm = s.aisle.passageAlarm
    ∧ (s.grant f q).aisle.watchAlarm = s.aisle.watchAlarm ∧ (s.grant f q).aisle.tones = s.aisle.tones := by
  have hopening (a : Aisle) : (a.startOpening s.now).passageAlarm = a.passageAlarm ∧ (a.startOpening s.now).watchAlarm = a.watchAlarm
      ∧ (a.startOpening s.now).tones = a.tones := by
    rw [Aisle.startOpening_eq, Claims.reachesOpen]
    split
    · split <;> exact ⟨rfl, rfl, rfl⟩
    · exact ⟨rfl, rfl, rfl⟩
  have hrefresh (a : Aisle) : (a.refreshClose s.now).passageAlarm = a.passageAlarm ∧ (a.refreshClose s.now).watchAlarm = a.watchAlarm
      ∧ (a.refreshClose s.now).tones = a.tones := by
    rw [Aisle.refreshClose_eq]
    exact ⟨rfl, rfl, rfl⟩
  unfold State.grant
  split
  · dsimp only
    split
    · exact hopening _
    · exact hrefresh _
  · exact ⟨rfl, rfl, rfl⟩

theorem State.confirmFare_unfolded (s : State) (f : Face) (w : CardImage) :
    let granted := ((s.dropTear (s.context f).number).closeRecord f (writeOutcome f) (fareFields (s.context f)) .removalWait).grant f
      s.journal.next
    let x := granted.localSighting w.counter w.chain f.direction
    s.confirmFare f w = (((granted.recordSighting (s.context f).number x).releaseOwnHold f).sendCommitted
      (s.context f).number x).conclude f .removalWait .go (some .accept) := by
  cases f <;> exact rfl

theorem State.confirmFare_eq {s : State} {f : Face} (w : CardImage) (hserving : (s.face f).state = .serving) :
    s.confirmFare f w = s.confirmed f w (writeOutcome f) (fareFields (s.context f))
      { (s.grant f s.journal.next).aisle with tones := Claims.tonesAfter s f .accept }
      (Claims.joined s.ring (.release s.gate 0 (s.context f).number
        (.committed w.counter w.chain s.station s.today s.minuteNow (if f = .street then 0 else 1))))
      { s.context f with state := .removalWait, indication := .go, ownHold := false, holdsEntry := false } := by
  set record := (s.dropTear (s.context f).number).closeRecord f (writeOutcome f) (fareFields (s.context f)) .removalWait with hrecord
  have hclosed := hrecord.trans (s.closeRecord_of_write f (w := w) (writeOutcome f) (fareFields (s.context f)) (.inl rfl))
  have hgranted : record.grant f s.journal.next = { record with aisle := (s.grant f s.journal.next).aisle } := by
    refine State.grant_eq _ ?_ ?_ ?_ ?_ <;> rw [hclosed]
    · rfl
    · rfl
    · rfl
    · cases f <;> rfl
  have htraced : (((record.grant f s.journal.next).recordSighting (s.context f).number (s.writeSighting f w)).releaseOwnHold
      f).sendCommitted (s.context f).number (s.writeSighting f w) = s.traced f w (writeOutcome f) (fareFields (s.context f))
      (s.grant f s.journal.next).aisle
      (Claims.joined s.ring (.release s.gate 0 (s.context f).number
        (.committed w.counter w.chain s.station s.today s.minuteNow (if f = .street then 0 else 1))))
      { s.context f with state := .removalWait, ownHold := false, holdsEntry := false } := by
    rw [hgranted, hclosed, State.recordSighting_eq, State.releaseOwnHold_eq, State.sendCommitted_eq]
    cases f <;> rfl
  obtain ⟨hpassage, hwatch, htones⟩ := s.grant_silent f s.journal.next
  have hsighting : (record.grant f s.journal.next).localSighting w.counter w.chain f.direction = s.writeSighting f w := by
    rw [hgranted, hclosed]
    exact rfl
  rw [State.confirmFare_unfolded, hsighting, htraced, State.conclude_of_serving (s := s) .go .accept (.inr (.inl rfl)) hserving
    (by rfl) (by rfl) (by exact hpassage) (by exact hwatch) (by exact htones)]
  cases f <;> rfl

theorem State.confirmBlock_eq {s : State} {f : Face} (w : CardImage) (hserving : (s.face f).state = .serving) :
    s.confirmBlock f w = s.confirmed f w .blockedCard (blockFields (s.context f))
      { Claims.placeGivenUp s f with tones := Claims.tonesAfter s f .refuse }
      (if (s.context f).holdSent then Claims.joined s.ring (.release s.gate 0 (s.context f).number (.dropped 0)) else s.ring)
      { s.context f with
        state := .refusedShown, indication := .attend, ownHold := false, holdsEntry := false
        reservation := if (s.context f).reservation = .held then .noPlace else (s.context f).reservation } := by
  set record := (s.dropTear (s.context f).number).closeRecord f .blockedCard (blockFields (s.context f)) .refusedShown with hrecord
  have hclosed := hrecord.trans (s.closeRecord_of_write f (w := w) .blockedCard (blockFields (s.context f)) (.inr rfl))
  have htraced : (((record.dropReservation f).recordSighting (s.context f).number (s.writeSighting f w)).releaseOwnHold
      f).sendDropped f = s.traced f w .blockedCard (blockFields (s.context f)) (Claims.placeGivenUp s f)
      (if (s.context f).holdSent then Claims.joined s.ring (.release s.gate 0 (s.context f).number (.dropped 0)) else s.ring)
      { s.context f with
        state := .refusedShown, ownHold := false, holdsEntry := false
        reservation := if (s.context f).reservation = .held then .noPlace else (s.context f).reservation } := by
    rw [hclosed, State.dropReservation_eq, State.recordSighting_eq, State.releaseOwnHold_eq, State.sendDropped_eq]
    cases f <;> rfl
  have hsighting : (record.dropReservation f).localSighting w.counter w.chain f.direction = s.writeSighting f w := by
    rw [hclosed, State.dropReservation_eq]
    exact rfl
  have hpassage := congrArg Aisle.passageAlarm (Claims.placeGivenUp_eq s f)
  have hwatch := congrArg Aisle.watchAlarm (Claims.placeGivenUp_eq s f)
  have htones := congrArg Aisle.tones (Claims.placeGivenUp_eq s f)
  change ((((record.dropReservation f).recordSighting (s.context f).number ((record.dropReservation f).localSighting w.counter w.chain
    f.direction)).releaseOwnHold f).sendDropped f).conclude f .refusedShown .attend (some .refuse) = _
  rw [hsighting, htraced, State.conclude_of_serving (s := s) .attend .refuse (.inr (.inr rfl)) hserving (by rfl) (by rfl)
    hpassage hwatch htones]
  cases f <;> rfl

theorem Claims.joined_eq (r : Ring) (m : RingMessage) : Claims.joined r m = { r with
    queue := if r.queue.length < 32 then r.queue ++ [m] else r.queue } := by
  unfold Claims.joined
  split <;> rfl

theorem fareFields_of {c : Context} {w : CardImage} (hstaged : c.staged = some w) (hpath : c.blockPath = false) :
    fareFields c = { RecordFields.blank with
      number := some c.number, cls := some c.cls, watchUnits := c.watchUnits, bypassed := c.bypassed
      evidence := c.recordEvidence, balanceAfter := some w.balance, counterAfter := some w.counter
      fare := some ((c.fare.map (·.fare)).getD 0), entryStation := c.fare.bind (·.entryStation)
      freePassage := decide (c.reservation = .removed) } := by
  rw [fareFields, Context.writtenFields_of hstaged, Context.writeFare, hpath]
  rfl

theorem blockFields_of {c : Context} {w : CardImage} (hstaged : c.staged = some w) (hpath : c.blockPath = true) :
    blockFields c = { RecordFields.blank with
      number := some c.number, cls := some c.cls, watchUnits := c.watchUnits, bypassed := c.bypassed
      evidence := c.recordEvidence, balanceAfter := some w.balance, counterAfter := some w.counter, fare := some 0 } := by
  rw [blockFields, Context.writtenFields_of hstaged, Context.writeFare, hpath]
  rfl

theorem confirmedWritesLeaveTheirTraces : Claims.ConfirmedWritesLeaveTheirTraces := by
  intro s f w c u hstaged hserving hnodup t x evidence record fields sends toned untorn late recorded
  have recorded_of {o : TxOutcome} {y : RecordFields} {a : Aisle} {q : List RingMessage} {rest : Context}
      (ht : t = s.confirmed f w o y a { s.ring with queue := q } rest) : recorded := by
    have hsightings : t.sightings = sightingsReleased (sightingsRecorded s.sightings c.number x) f c (s.context f.other) s.now := by
      rw [ht]
      exact rfl
    have hheld (e : SightingEntry) (he : e ∈ s.sightings) (hn : e.number = c.number) (hhold : e.hold = .own f)
        (hown : c.ownHold = true) (hholds : c.holdsEntry = true) := hsightings.trans
      (sightingsReleased_of_recorded hnodup he (s.context f.other) s.now x hn hhold hown hholds)
    refine ⟨ht ▸ rfl, ht ▸ rfl, ht ▸ rfl, ht ▸ rfl, ⟨_, sightingsRecorded_recorded hnodup c.number x, ?released⟩, ?entry, ?face,
      ?faces, ?contexts, ?frame⟩
    case released =>
      rw [State.releaseOwnHold_eq]
      exact hsightings
    case entry =>
      intro e he hn hhold hown hholds entry shared
      have hkept := hheld e he hn hhold hown hholds
      have hshared : shared ↔ (s.context f.other).holds c.number = true := (Context.holds_iff _ _).symm
      refine ⟨fun h => ?_, fun h o since hd hearly => ?_, fun h hd => ?_⟩
      · rw [if_pos (hshared.mp h)] at hkept
        exact hkept
      · rw [if_neg (mt hshared.mpr h), SightingEntry.endOwn_of_restored (by exact hd) hearly] at hkept
        exact hkept
      · rw [if_neg (mt hshared.mpr h), SightingEntry.endOwn_of_ended (by exact hd)] at hkept
        exact hkept
    case face => rw [ht]; exact PerFace.get_set ..
    case faces => rw [ht]; exact PerFace.get_set_other ..
    case contexts => rw [ht]; exact PerFace.get_set_other ..
    case frame => rw [ht]; rfl
  refine ⟨fun hpath => ?fare, fun hpath => ?block⟩
  case fare =>
    have ht : t = _ := (State.confirmWrite_of_fare (s := s) hstaged hpath).trans (State.confirmFare_eq w hserving)
    rw [Claims.joined_eq, fareFields_of hstaged hpath] at ht
    have haisle : toned .accept (s.grant f s.journal.next).aisle := by
      change t.aisle = _
      rw [ht]
      exact rfl
    refine ⟨recorded_of ht, ht ▸ rfl, ?_, ht ▸ rfl, fun hnot => ?_, fun hheld before after p hqueue hface hstate hbefore => ?_⟩
    · rw [ht]
      exact PerFace.get_set ..
    · rw [State.grant_of_not_held _ hnot] at haisle
      exact haisle
    · rw [State.grant_of_held _ hheld hqueue hface hstate hbefore] at haisle
      exact haisle
  case block =>
    have hring : (if c.holdSent then Claims.joined s.ring (.release s.gate 0 c.number (.dropped 0)) else s.ring) = { s.ring with
        queue := if c.holdSent then sends (.release s.gate 0 c.number (.dropped 0)) else s.ring.queue } := by
      split
      · exact Claims.joined_eq ..
      · rfl
    have ht : t = _ := (State.confirmWrite_of_block (s := s) hstaged hpath).trans (State.confirmBlock_eq w hserving)
    rw [hring, blockFields_of hstaged hpath] at ht
    refine ⟨recorded_of ht, ?_, ht ▸ rfl, ?_, ht ▸ rfl⟩
    · change t.aisle = _
      rw [ht]
      exact rfl
    · rw [ht]
      exact PerFace.get_set ..

/-! ### A torn write (R43) -/

/-- The LATE_ALERTs after the record of a torn write. -/
def State.lateAfterTear (s : State) (f : Face) : List Record := Claims.lateAlerts s f ({ s with
  tears := tearNow s.tears (s.context f).number s.now s.journal.next, contexts := s.contexts.set f Context.idle } : State).obligations

/-- The part with the traces of a torn write: its record `o`, and the context IDLE. -/
def State.tornTraces (s : State) (f : Face) (o : TxOutcome) (y : RecordFields) : State := { s with
  tears := tearNow s.tears (s.context f).number s.now s.journal.next
  hotlist := Claims.markEnded s f
  journal :=
    { records := s.journal.records
        ++ { sequence := s.journal.next, kind := .transaction o, stamp := s.stamp, face := f, fields := y } :: s.lateAfterTear f
      next := Claims.nextAfter (1 + (s.lateAfterTear f).length) s.journal.next }
  service := { s.service with flags := Claims.flagsAfter s f (1 + (s.lateAfterTear f).length) }
  watch := { s.watch with status := Claims.statusAfter s f }
  sightings := sightingsReleased s.sightings f (s.context f) (s.context f.other) s.now
  ring := Claims.joined s.ring (.release s.gate 0 (s.context f).number (.uncertain 0))
  aisle := { Claims.placeGivenUp s f with tones := Claims.tonesAfter s f .refuse }
  contexts := s.contexts.set f Context.idle
  faces := s.faces.set f (Claims.faceAfter (s.face f) s.now true) }

/-- The part whose tear entry has become TORN. -/
def State.torn (s : State) (f : Face) : State := { s with tears := tearNow s.tears (s.context f).number s.now s.journal.next }

/-- What a torn write does once its record is chosen. -/
def State.tearWith (s : State) (f : Face) (o : TxOutcome) (y : RecordFields) : State :=
  ((((((s.torn f).closeRecord f o y .idle).dropReservation f).releaseOwnHold f).send
    (.release s.gate 0 (s.context f).number (.uncertain 0))).endBlockMark f).conclude f .idle .stop (some .refuse)

theorem State.tornWrite_of_fare {s : State} {f : Face} (hpath : (s.context f).blockPath = false) :
    s.tornWrite f = s.tearWith f .torn (s.context f).writtenFields := by
  rw [State.tornWrite, hpath]
  rfl

theorem State.tornWrite_of_block {s : State} {f : Face} (hpath : (s.context f).blockPath = true) :
    s.tornWrite f = s.tearWith f .refused ((s.context f).refusedFields .evidence) := by
  rw [State.tornWrite, hpath]
  rfl

theorem State.lateAfterTear_eq (s : State) (f : Face) (o : TxOutcome) (y : RecordFields) :
    Claims.lateAlerts (s.torn f) f ((s.torn f).recorded f o y .idle).obligations = s.lateAfterTear f := by
  cases f <;> rfl

/-- The record of a torn write, its entry TORN. -/
theorem State.closeRecord_of_tear (s : State) (f : Face) (o : TxOutcome) (y : RecordFields) :
    (s.torn f).closeRecord f o y .idle = { s.tornTraces f o y with
      hotlist := s.hotlist, sightings := s.sightings, ring := s.ring, aisle := s.aisle, faces := s.faces
      contexts := s.contexts.set f { s.context f with state := .idle } } :=
  State.closeRecord_eq _ _ _ _ _ (s.lateAfterTear_eq f o y)

theorem Claims.markEnded_congr {s t : State} {f : Face} (hotlist : t.hotlist = s.hotlist)
    (hpath : (t.context f).blockPath = (s.context f).blockPath) (hname : (t.context f).number = (s.context f).number)
    (hother : t.context f.other = s.context f.other) : Claims.markEnded t f = Claims.markEnded s f := by
  unfold Claims.markEnded
  dsimp only
  rw [hotlist, hpath, hname, hother]

theorem State.tearWith_eq {s : State} {f : Face} (o : TxOutcome) (y : RecordFields) (hserving : (s.face f).state = .serving) :
    s.tearWith f o y = s.tornTraces f o y := by
  have hpassage := congrArg Aisle.passageAlarm (Claims.placeGivenUp_eq s f)
  have hwatch := congrArg Aisle.watchAlarm (Claims.placeGivenUp_eq s f)
  have htones := congrArg Aisle.tones (Claims.placeGivenUp_eq s f)
  have hidle : Claims.contextAfter (s.face f) Context.idle = Context.idle := ite_self _
  set released := ((s.torn f).closeRecord f o y .idle |>.dropReservation f).releaseOwnHold f with hreleased
  have hleft : released = { s.tornTraces f o y with
      hotlist := s.hotlist, ring := s.ring, aisle := Claims.placeGivenUp s f, faces := s.faces
      contexts := s.contexts.set f { s.context f with
        state := .idle, ownHold := false, holdsEntry := false
        reservation := if (s.context f).reservation = .held then .noPlace else (s.context f).reservation } } := by
    rw [hreleased, State.closeRecord_of_tear, State.dropReservation_eq, State.releaseOwnHold_eq]
    cases f <;> rfl
  have hmark : Claims.markEnded (released.send (.release s.gate 0 (s.context f).number (.uncertain 0))) f = Claims.markEnded s f := by
    rw [hleft, State.send_eq]
    refine Claims.markEnded_congr rfl ?_ ?_ ?_ <;> cases f <;> rfl
  have htraced : (released.send (.release s.gate 0 (s.context f).number (.uncertain 0))).endBlockMark f = { s.tornTraces f o y with
      aisle := Claims.placeGivenUp s f, faces := s.faces
      contexts := s.contexts.set f { s.context f with
        state := .idle, ownHold := false, holdsEntry := false
        reservation := if (s.context f).reservation = .held then .noPlace else (s.context f).reservation } } := by
    rw [State.endBlockMark_eq, hmark, State.send_eq, hleft]
    rfl
  change ((released.send (.release s.gate 0 (s.context f).number (.uncertain 0))).endBlockMark f).conclude f .idle .stop
    (some .refuse) = _
  rw [htraced, State.conclude_of_serving (s := s) .stop .refuse (.inl rfl) hserving (by rfl) (by rfl)
    (by exact hpassage) (by exact hwatch) (by exact htones), concludedContext, if_pos rfl, hidle]
  cases f <;> rfl

theorem tornWritesLeaveATornEntry : Claims.TornWritesLeaveATornEntry := by
  intro s f img w c u himg hstaged hserving t fields torn late
  have left {o : TxOutcome} {y : RecordFields} (ht : t = s.tearWith f o y) : t = _ := ht.trans (State.tearWith_eq o y hserving)
  obtain ⟨o, y, ht, hfare, hblock⟩ : ∃ o y, t = s.tornTraces f o y
      ∧ (c.blockPath = false → o = .torn ∧ y = { fields with
        fare := some ((c.fare.map (·.fare)).getD 0), balanceAfter := some w.balance, counterAfter := some w.counter })
      ∧ (c.blockPath = true → o = .refused ∧ y = { fields with reason := some .evidence, evidence := c.recordEvidence }) := by
    cases hpath : c.blockPath with
    | false =>
      refine ⟨_, _, left (State.tornWrite_of_fare hpath), fun _ => ⟨rfl, ?_⟩, nofun⟩
      rw [Context.writtenFields_of hstaged, Context.writeFare, hpath]
      rfl
    | true => exact ⟨_, _, left (State.tornWrite_of_block hpath), nofun, fun _ => ⟨rfl, rfl⟩⟩
  have hsightings : (s.releaseOwnHold f).sightings = sightingsReleased s.sightings f c (s.context f.other) s.now := by
    rw [State.releaseOwnHold_eq]
  rw [State.tornTraces, Claims.joined_eq] at ht
  refine ⟨ht ▸ rfl, ht ▸ rfl, ht ▸ rfl, ht ▸ rfl, ht ▸ rfl,
    ⟨{ sequence := s.journal.next, kind := .transaction o, stamp := s.stamp, face := f, fields := y }, ?records, rfl, rfl, rfl,
      fun h => ?fare, fun h => ?block⟩, ?aisle, ?sightings, ht ▸ rfl, ?context, ?face, ?others, ?faces, ?frame⟩
  case records => rw [ht]; exact rfl
  case sightings => rw [ht, hsightings]
  case fare => exact ⟨congrArg RecordKind.transaction (hfare h).1, (hfare h).2⟩
  case block => exact ⟨congrArg RecordKind.transaction (hblock h).1, (hblock h).2⟩
  case aisle => rw [ht]
  case context => rw [ht]; exact PerFace.get_set ..
  case face => rw [ht]; exact PerFace.get_set ..
  case others => rw [ht]; exact PerFace.get_set_other ..
  case faces => rw [ht]; exact PerFace.get_set_other ..
  case frame => rw [ht]

/-- Settles O36: what SETTLED and the confirming read decide, and the traces of a confirmed and of a torn write. -/
theorem writesAreConfirmedOrTorn : Obligations.WritesAreConfirmedOrTorn :=
  ⟨settledAndConfirmingReadDecideTheWrite, confirmedWritesLeaveTheirTraces, tornWritesLeaveATornEntry⟩

end Sys2Proof.Machine
end
